-- ==== Sys2Proof/Word.lean ====
section
/-! DEFINITION. The few words the manual treats as bits: bytes of a frame or of the memory, 16-bit checks and masks. -/
namespace Sys2Proof

/-- One byte of a payload, of the configuration image or of the ring record. -/
abbrev Byte := BitVec 8

/-- A 16-bit check, machine digest or event mask (R1, R170, R162). -/
abbrev Word16 := BitVec 16

/-- The tag of a frame: kind code and station number (R1). -/
abbrev Tag := BitVec 8

end Sys2Proof
end

