-- ==== Sys2Proof/Syntax.lean ====
section
/-! DEFINITION. The names the manual uses (states, codes, kinds), the contents of the bulletins (R6 to R8), the frame on the
line (R1) and the commands: one constructor of `Instr` for each row of spec/opcode_table.json. -/
namespace Sys2Proof

/-! ## Codes of section 1.3 -/

/-- Backbone states (section 1.7). -/
inductive Backbone where
  | offline | joining | online | isolated | silent
  deriving DecidableEq, Repr

/-- Machine modes the console publishes (R6). -/
inductive MachineMode where
  | standby | excavate | build
  deriving DecidableEq, Repr

/-- The effective machine mode (R24): a published mode, or HOLD. -/
inductive EffMode where
  | standby | excavate | build | hold
  deriving DecidableEq, Repr

/-- Drive states (section 4.3). -/
inductive DriveState where
  | off | ready | running | stopping | reversing | fault
  deriving DecidableEq, Repr

/-- Shoe states (section 6.2). -/
inductive ShoeState where
  | engaged | claiming | retracting | clear | extending
  deriving DecidableEq, Repr

/-- Grout line states (R118). -/
inductive LineState where
  | off | idle | injecting | limited | held | fault
  deriving DecidableEq, Repr

/-- Screw states (R134). -/
inductive ScrewState where
  | off | running | blind | fault
  deriving DecidableEq, Repr

/-- Thrust regimes (R76). -/
inductive Regime where
  | push | hold | build
  deriving DecidableEq, Repr

/-- Wait reasons of a claim (R95). -/
inductive WaitReason where
  | none | adjacent | limit | priority | holdShort
  deriving DecidableEq, Repr

/-- Running direction of the cutterhead. -/
inductive Direction where
  | cw | ccw
  deriving DecidableEq, Repr

/-- Start kinds (R167). -/
inductive StartKind where
  | powerOn | lineReset | restart
  deriving DecidableEq, Repr

/-- Causes carried in a STOP (R6). -/
inductive StopCause where
  | localInput | operator
  deriving DecidableEq, Repr

/-- Phases of a BUILD step (R8). -/
inductive BuildPhase where
  | place | placed
  deriving DecidableEq, Repr

/-- Jobs of the fault records (section 1.3). -/
inductive Job where
  | station | thrust | grout | drive | screw
  deriving DecidableEq, Repr

/-- The four roles (section 0.2). -/
inductive Role where
  | thrust | grout | drive | screw
  deriving DecidableEq, Repr

/-- A set of roles: a role mask. -/
structure RoleMask where
  thrust : Bool
  grout  : Bool
  drive  : Bool
  screw  : Bool
  deriving DecidableEq, Repr

/-- The four conditions of R34. -/
structure HoldCauses where
  groutBehind  : Bool
  chamberBlind : Bool
  thrustLapsed : Bool
  torqueDerate : Bool
  deriving DecidableEq, Repr

/-- No role. -/
def RoleMask.empty : RoleMask := ⟨false, false, false, false⟩

/-- None of the four conditions. -/
def HoldCauses.empty : HoldCauses := ⟨false, false, false, false⟩

/-! ## Kinds -/

/-- The kinds a TS-26 sends; also the kinds of the eight slots of a station entry (R18). -/
inductive OwnKind where
  | stop | claim | thrust | drive | screw | grout | status | id
  deriving DecidableEq, Repr

/-- The four slots of the console entry (R18). -/
inductive ConsoleSlot where
  | mode | setpoint | build | stop
  deriving DecidableEq, Repr

/-- One slot of the peer table: a station's (1 to 15) or the console's. -/
inductive SlotRef where
  | station (number : Nat) (kind : OwnKind)
  | console (slot : ConsoleSlot)
  deriving DecidableEq, Repr

/-! ## Contents of the bulletins (R6 to R8) -/

structure StopBody where
  cause : StopCause
  deriving DecidableEq, Repr

structure ClaimBody where
  ring   : Nat
  step   : Nat
  sector : Nat
  shoe   : ShoeState
  wait   : WaitReason
  deriving DecidableEq, Repr

structure BuildBody where
  ring   : Nat
  step   : Nat
  sector : Nat
  phase  : BuildPhase
  deriving DecidableEq, Repr

structure ModeBody where
  mode : MachineMode
  ring : Nat
  deriving DecidableEq, Repr

structure SetpointBody where
  force   : Nat
  pitch   : Int
  yaw     : Int
  dir     : Direction
  fill    : Nat
  speed   : Nat
  chamber : Nat
  deriving DecidableEq, Repr

/-- The action codes of SERVICE (R6). -/
inductive ServiceAction where
  | clearFault | clearEvents | resume | restart | forget | save
  deriving DecidableEq, Repr

structure ServiceBody where
  target : Nat
  action : ServiceAction
  arg    : Nat
  deriving DecidableEq, Repr

/-- `regime` is the two-bit code, as no rule checks it on receipt. -/
structure ThrustBody where
  ring        : Nat
  strokeValid : Bool
  stroke      : Nat
  advance     : Nat
  causes      : HoldCauses
  pressure    : Nat
  ceiling     : Nat
  floorClamp  : Bool
  ceilClamp   : Bool
  regime      : Nat
  pSet        : Nat
  deriving DecidableEq, Repr

structure DriveBody where
  state      : DriveState
  dir        : Direction
  torqueHigh : Bool
  nFb        : Nat
  tau        : Nat
  cmd        : Nat
  deriving DecidableEq, Repr

structure ScrewBody where
  ring    : Nat
  pCh     : Nat
  nOut    : Nat
  balance : Nat
  valid   : Nat
  blind   : Bool
  overdig : Bool
  underdig : Bool
  deriving DecidableEq, Repr

structure GroutBody where
  ring        : Nat
  weight      : Nat
  holdRequest : Bool
  line        : LineState
  delivered   : Nat
  deficit     : Int
  deriving DecidableEq, Repr

/-- First fault cause codes are 0 for an empty record (R6, section 10.1). -/
structure StatusBody where
  backbone     : Backbone
  stopped      : Bool
  drive        : DriveState
  shoe         : ShoeState
  screw        : ScrewState
  line         : LineState
  flags        : Word16
  causeStation : Nat
  causeThrust  : Nat
  causeGrout   : Nat
  causeDrive   : Nat
  causeScrew   : Nat
  ring         : Nat
  failures     : Nat
  rejected     : Nat
  deriving DecidableEq, Repr

structure IdBody where
  station   : Nat
  roles     : RoleMask
  sector    : Nat
  weight    : Nat
  digest    : Word16
  startKind : StartKind
  deriving DecidableEq, Repr

/-- The content of a bulletin, one constructor per kind of R5. -/
inductive Bulletin where
  | stop     (b : StopBody)
  | claim    (b : ClaimBody)
  | build    (b : BuildBody)
  | mode     (b : ModeBody)
  | setpoint (b : SetpointBody)
  | service  (b : ServiceBody)
  | thrust   (b : ThrustBody)
  | drive    (b : DriveBody)
  | screw    (b : ScrewBody)
  | grout    (b : GroutBody)
  | status   (b : StatusBody)
  | id       (b : IdBody)
  deriving DecidableEq, Repr

/-- A frame between its start of frame and its acknowledge slot (R1). -/
structure Frame where
  tag     : Tag
  len     : BitVec 4
  payload : List Byte
  check   : Word16
  deriving DecidableEq, Repr

/-! ## The commands -/

/-- The events of the part, one constructor per row of spec/opcode_table.json. An operand is what the event brings from
outside the block; what the block holds itself (the frame at the head of the buffer, the input being converted, the write
in flight) is read from the state. -/
inductive Instr where
  /-- Supply rises; the four strap pins read `straps` (R167, R168). -/
  | powerOn (straps : BitVec 4)
  /-- The reset pin is released; the four strap pins read `straps` (R167, R168). -/
  | lineReset (straps : BitVec 4)
  /-- The image read completes: the 886 bytes, or none when the memory does not answer (R168, R170). -/
  | configReadComplete (answer : Option (List Byte))
  /-- The ring record read completes: the region's 40 bytes, or none when the memory does not answer (R174). -/
  | ringRecordReadComplete (answer : Option (List Byte))
  | joinTimerExpiry
  | lineFree
  | lostArbitration
  | acknowledged
  | unacknowledged
  | bitError
  /-- A frame not sent by this station ends on the line (R4). -/
  | frameArrives (frame : Frame)
  | bulletinTaken
  | idTaken
  | modeTaken
  | buildTaken
  | stopTaken
  | clearFault
  | clearEvents
  | resume
  /-- A SERVICE RESTART is taken; the four strap pins read `straps` at the start it makes (R167, R168). -/
  | restart (straps : BitVec 4)
  | forget
  | save
  | slotCurrencyExpiry (slot : SlotRef)
  | staleTimerExpiry
  | publicationTimerExpiry (kind : OwnKind)
  | rateTimerExpiry
  /-- The conversion in progress completes with the raw reading `raw` (R149). -/
  | conversionComplete (raw : BitVec 12)
  | inputHoldExpiry (input : Fin 12)
  | driveEvaluation
  | driveStallTimerExpiry
  | thrustEvaluation
  | thrustOverpressureExpiry
  | holdOffExpiry
  | waitTimerExpiry
  | retractTimerExpiry
  | extendTimerExpiry
  | groutEvaluation
  | blockedTimerExpiry
  | groutOverpressureExpiry
  | screwEvaluation
  | screwStallTimerExpiry
  | feedbackTimerExpiry
  | periodBoundary (channel : Fin 8)
  /-- A transition of channel input pin `pin`, low to high when `rising`, at the moment `time` in µs (R153). -/
  | channelEdge (pin : Fin 4) (rising : Bool) (time : Nat)
  | channelTimeoutExpiry (channel : Fin 8)
  | pulseWidthExpiry
  | stopInputActive
  | stopInputReleased
  /-- The permit input changes level; `active` is its new level (R156). -/
  | permitInputChange (active : Bool)
  /-- The write in flight completes, failed when the memory did not answer (R173). -/
  | memoryWriteComplete (answered : Bool)
  | resetAsserted
  | activeTimeEnd (channel : Fin 8)
  deriving DecidableEq, Repr

end Sys2Proof
end

