-- ==== Sys2Proof/Config.lean ====
section
/-! DEFINITION. What the configuration image fixes for a station (R169): every constant of every chapter, the input map, the
channel map, the guards and the event routes. The manual fixes every computed value, so there is no free value here. -/
namespace Sys2Proof

/-- Input functions in code order, unused first (R169, section 9.1). -/
inductive InFunction where
  | unused | stroke | groupPressure | linePressure | chamber1 | chamber2 | chamber3 | torqueA | torqueB
  deriving DecidableEq, Repr

/-- Channel functions in code order, unused first (R169, section 9.2). -/
inductive ChFunction where
  | unused | thrustExtend | thrustRetract | driveSpeedOut | driveSpeedIn | groutPump | groutStroke | greasePulse
  | screwSpeedOut | screwSpeedIn | scalePulse
  deriving DecidableEq, Repr

/-- Channel modes (section 9.2): the function fixes the mode. -/
inductive ChMode where
  | none | duty | count | period | pulse
  deriving DecidableEq, Repr

/-- Qualifying edges (section 9.2). -/
inductive EdgeSelect where
  | rising | falling | both
  deriving DecidableEq, Repr

/-- Guard conditions in code order (R156, R169). -/
inductive GuardCond where
  | modeExcavate | modeBuild | consoleCurrent | chamberOk | noHoldCause | driveQuorum | allSectorsLive | claimActive
  | permitInput | screwRunning
  deriving DecidableEq, Repr

/-- The guard a channel selects. -/
inductive GuardSel where
  | g0 | g1 | g2 | g3
  deriving DecidableEq, Repr

/-- One input's configuration (section 9.1). -/
structure InputCfg where
  function : InFunction := .unused
  offset   : Int := 0
  gain     : Int := 1000
  rawMin   : Nat := 0
  rawMax   : Nat := 4095
  deriving DecidableEq, Repr

/-- One channel's configuration (section 9.2). `safeHigh` is the safe level. -/
structure ChannelCfg where
  function    : ChFunction := .unused
  period      : Nat := 1000
  safeHigh    : Bool := false
  guard       : GuardSel := .g0
  pin         : Fin 4 := 0
  edge        : EdgeSelect := .rising
  minInterval : Nat := 1000
  timeout     : Nat := 1000
  deriving DecidableEq, Repr

/-- One guard's configuration (section 9.4). -/
structure GuardCfg where
  cond   : GuardCond := .permitInput
  invert : Bool := false
  deriving DecidableEq, Repr

/-- The loaded configuration: every constant clamped to its range and brought into order (R170). The field defaults are the
manual's defaults. -/
structure StationConfig where
  roles  : RoleMask := ⟨false, false, false, false⟩
  /-- The sector, `none` for 15 or for any sector at or above S (R170). -/
  sector : Option Nat := none
  -- machine constants
  sectors      : Nat := 6
  annulusArea  : Nat := 30631
  faceArea     : Nat := 3473
  retractLimit : Nat := 1
  lapseTime    : Nat := 300
  -- chapter 1
  pubStop    : Nat := 50
  pubClaim   : Nat := 50
  pubThrust  : Nat := 50
  pubDrive   : Nat := 50
  pubScrew   : Nat := 50
  pubGrout   : Nat := 100
  pubStatus  : Nat := 200
  pubId      : Nat := 1000
  joinWindow : Nat := 500
  -- chapter 2
  pRefFallback : Nat := 3500
  -- chapter 3
  density    : Nat := 2050
  rateWindow : Nat := 2000
  greaseStep : Nat := 500
  recordStep : Nat := 2500
  -- chapter 4
  evalDrive       : Nat := 20
  quorum          : Nat := 2
  speedMax        : Nat := 350
  rampStep        : Nat := 1
  stopStep        : Nat := 5
  kt              : Nat := 100
  trimMax         : Nat := 10
  nFullScale      : Nat := 400
  pulsesPerRev    : Nat := 60
  zeroBand        : Nat := 5
  overspeedMargin : Nat := 50
  tauHigh         : Nat := 900
  stallSpeed      : Nat := 20
  stallTorque     : Nat := 950
  stallTime       : Nat := 3000
  -- chapter 5
  evalThrust : Nat := 20
  pistonArea : Nat := 2120
  coefCos    : Int := 10000
  coefSin    : Int := 0
  leverR     : Nat := 3000
  pFloor     : Nat := 50
  pHoldMin   : Nat := 200
  pCeiling   : Nat := 3500
  pShoe      : Nat := 150
  pFull      : Nat := 4000
  rampDp     : Nat := 20
  derate     : Nat := 750
  holdMargin : Nat := 1200
  forceMax   : Nat := 40000
  -- chapter 6
  holdoffTime      : Nat := 150
  waitTime         : Nat := 30000
  retractClearance : Nat := 800
  retractDuty      : Nat := 600
  retractTimeout   : Nat := 20000
  extendTimeout    : Nat := 20000
  -- chapter 7
  evalGrout    : Nat := 100
  weight       : Nat := 1
  strokeVolume : Nat := 9000
  efficiency   : Nat := 920
  gainG        : Nat := 20
  rMax         : Nat := 300
  rFull        : Nat := 400
  headOffset   : Int := 0
  deltaLo      : Nat := 1000
  deltaHi      : Nat := 2000
  opMargin     : Nat := 1500
  strokeTimeout : Nat := 10000
  backlogLimit : Nat := 400000
  carryMax     : Nat := 200000
  overdigBoost : Nat := 100
  greaseWidth  : Nat := 800
  -- chapter 8
  evalScrew         : Nat := 50
  kFf               : Nat := 120
  kp                : Nat := 500
  ki                : Nat := 20
  iMax              : Nat := 1000
  nMax              : Nat := 2000
  screwRamp         : Nat := 20
  screwFullScale    : Nat := 2500
  screwPpr          : Nat := 12
  screwStallTime    : Nat := 5000
  screwFeedbackTime : Nat := 5000
  kgPerPulse        : Nat := 10
  balanceMin        : Nat := 1000
  overThreshold     : Nat := 1080
  underThreshold    : Nat := 900
  -- chapter 9
  inputHoldTime : Nat := 1000
  chamberOkMin  : Nat := 1000
  chamberOkMax  : Nat := 6000
  inputs   : Vector InputCfg 12 := Vector.replicate 12 ({} : InputCfg)
  channels : Vector ChannelCfg 8 := Vector.replicate 8 ({} : ChannelCfg)
  guard1 : GuardCfg := {}
  guard2 : GuardCfg := {}
  guard3 : GuardCfg := {}
  -- chapter 10
  evAlarm   : Word16 := 0x3F0C#16
  evPublish : Word16 := 0xFFFF#16
  deriving DecidableEq, Repr

end Sys2Proof
end

