-- ==== Sys2Proof/Machine/Operands.lean ====
section
/-! DEFINITION. The arithmetic of section 0.5.2 (exact intermediates, roundings, clamps) and the formulas of the chapters that
use nothing but configuration constants and operands. -/
namespace Sys2Proof

/-- Clamp a value that cannot be negative to lo..hi (0.5.2). -/
def clampNat (lo hi x : Nat) : Nat := if x < lo then lo else if hi < x then hi else x

/-- Clamp a signed value to lo..hi (0.5.2). -/
def clampInt (lo hi x : Int) : Int := if x < lo then lo else if hi < x then hi else x

/-- Clamp a signed value to the natural range lo..hi (0.5.2). -/
def clampToNat (lo hi : Nat) (x : Int) : Nat := (clampInt lo hi x).toNat

/-- num / den rounded half up, for quantities that cannot be negative (0.5.2). -/
def roundHalfUp (num den : Nat) : Nat := (2 * num + den) / (2 * den)

/-- num / den rounded half away from zero (0.5.2). -/
def roundHalfAway (num : Int) (den : Nat) : Int :=
  if num < 0 then -(roundHalfUp num.natAbs den : Int) else (roundHalfUp num.natAbs den : Int)

/-- num / den truncated toward zero (0.5.2). -/
def truncated (num : Int) (den : Nat) : Int := num.tdiv den

/-- The half-up mean of n values of sum `sum` (0.5.2). -/
def halfUpMean (sum n : Nat) : Nat := (sum + n / 2) / n

/-- Move `x` toward `target` by at most `step`, taking the target when it is no farther. -/
def stepToward (x target step : Nat) : Nat :=
  if x ≤ target then (if target - x ≤ step then target else x + step)
  else (if x - target ≤ step then target else x - step)

/-- value × 1,000 / full, rounded half up and clamped to 0 to 1,000: every duty (R66, R84, R99, R120, R138). -/
def dutyOf (value full : Nat) : Nat := clampNat 0 1000 (roundHalfUp (value * 1000) full)

/-- Speed in 0.01 rpm from a period of `t` µs (R56, R139). -/
def speedOf (t pulses : Nat) : Nat := clampNat 0 65535 (6000000000 / (t * pulses))

/-- The void volume V of an advance (R43). -/
def voidOf (c : StationConfig) (aRing : Nat) : Nat := roundHalfUp (aRing * c.annulusArea) 100

/-- The expected muck mass M_exp of an advance (R44). -/
def expectedMass (c : StationConfig) (aRing : Nat) : Nat := roundHalfUp (aRing * c.faceArea * c.density) 1000000

/-- The advance rate v over a window (R46). -/
def rateOf (c : StationConfig) (aRing rateBase : Nat) : Nat := (aRing - rateBase) * 60000 / c.rateWindow

/-- The force ceiling of the group (R73). -/
def StationConfig.forceCeiling (c : StationConfig) : Nat := c.pCeiling * c.pistonArea / 1000

/-- The effective stroke (R110). -/
def StationConfig.effectiveStroke (c : StationConfig) : Nat := roundHalfUp (c.strokeVolume * c.efficiency) 1000

/-- The effective hold-off (section 6.1). -/
def StationConfig.effectiveHoldoff (c : StationConfig) : Nat := max c.holdoffTime (3 * c.pubClaim)

/-- The line reference P_line (R119). -/
def lineReference (c : StationConfig) (pRef : Nat) : Nat := clampToNat 0 65535 ((pRef : Int) + c.headOffset)

/-- The band start cap_lo (R119). -/
def bandLow (c : StationConfig) (pRef : Nat) : Nat := lineReference c pRef + c.deltaLo

/-- The band end cap_hi (R119). -/
def bandHigh (c : StationConfig) (pRef : Nat) : Nat := lineReference c pRef + c.deltaHi

/-- The push force f before the derate (R77). -/
def pushForce (c : StationConfig) (sp : SetpointBody) : Int :=
  roundHalfAway ((sp.force : Int) * 5 * c.leverR + sp.pitch * c.coefCos + sp.yaw * c.coefSin) (5 * c.sectors * c.leverR)

/-- The derated push force (R78). -/
def deratedForce (c : StationConfig) (f : Int) : Int := truncated (f * c.derate) 1000

/-- The raw push pressure, which may be negative or above the ceiling (R78). -/
def rawPressure (c : StationConfig) (f : Int) : Int := roundHalfAway (f * 1000) c.pistonArea

/-- The required hold force F_req (R79). -/
def requiredHoldForce (c : StationConfig) (pRef : Nat) : Nat := roundHalfUp (pRef * c.faceArea * c.holdMargin) 1000000

/-- The hold pressure p_hold of a hold share (R80). -/
def holdPressure (c : StationConfig) (share : Nat) : Nat :=
  clampNat c.pHoldMin c.pCeiling (roundHalfUp (share * 1000) c.pistonArea)

/-- The grout target T (R114). -/
def groutTarget (void phi w weightSum : Nat) : Nat := roundHalfUp (void * phi * w) (1000 * weightSum)

/-- The pump rate of R120, banded with the line pressure. -/
def pumpRate (c : StationConfig) (deficit : Int) (p capLo capHi : Nat) : Nat :=
  let strokes := deficit.toNat / c.effectiveStroke
  let rate := min (strokes * c.gainG) c.rMax
  if p ≤ capLo then rate else if capHi ≤ p then 0 else rate * (capHi - p) / (capHi - capLo)

/-- The balance ratio B (R141). -/
def balanceOf (mMeas mExp : Nat) : Nat := clampNat 0 65535 (roundHalfUp (mMeas * 1000) mExp)

/-- The feedforward speed n_ff (R135). -/
def feedforward (c : StationConfig) (rate : Nat) : Nat := clampNat 0 65535 (rate * c.kFf / 100)

/-- The command n_cmd in RUNNING (R137); `integ` is I in thousandths. -/
def screwCommand (c : StationConfig) (nFf : Nat) (e integ : Int) : Nat :=
  clampToNat 0 c.nMax (roundHalfAway ((nFf : Int) * 1000 + c.kp * e + integ) 1000)

/-- The trim of a RUNNING drive (R65). -/
def trimOf (c : StationConfig) (tauMean tau : Nat) : Int :=
  clampInt (-(c.trimMax : Int)) c.trimMax (roundHalfAway (c.kt * ((tauMean : Int) - tau)) 1000)

/-- The scaled value of a raw reading (R149). -/
def scaledValue (c : InputCfg) (raw : Nat) : Int := roundHalfAway (c.offset * 1000 + raw * c.gain) 1000

/-- The active time of a period in µs (R152). -/
def activeTime (period duty : Nat) : Nat := period * duty / 1000

/-- The median of three values (R132). -/
def median (x y z : Nat) : Nat := max (min x y) (min (max x y) z)

/-- Sectors k and j are adjacent on a machine of `n` sectors (R31). -/
def adjacentSector (n k j : Nat) : Bool := j < n && (j == (k + 1) % n || j == (k + n - 1) % n)

/-- Sector j is k or adjacent to it (R31, R32). -/
def inNeighbourhood (n k j : Nat) : Bool := j == k || adjacentSector n k j

/-! ## Names and codes -/

/-- Whether a role is in a mask. -/
def RoleMask.has (m : RoleMask) : Role → Bool
  | .thrust => m.thrust
  | .grout => m.grout
  | .drive => m.drive
  | .screw => m.screw

/-- A mask with a role added. -/
def RoleMask.add (m : RoleMask) : Role → RoleMask
  | .thrust => { m with thrust := true }
  | .grout => { m with grout := true }
  | .drive => { m with drive := true }
  | .screw => { m with screw := true }

/-- The roles of `m` that are not in `k` (section 11.4). -/
def RoleMask.less (m k : RoleMask) : RoleMask :=
  ⟨m.thrust && !k.thrust, m.grout && !k.grout, m.drive && !k.drive, m.screw && !k.screw⟩

/-- The role that owns an input function (section 9.1). -/
def InFunction.role : InFunction → Option Role
  | .unused => none
  | .stroke | .groupPressure => some .thrust
  | .linePressure => some .grout
  | .chamber1 | .chamber2 | .chamber3 => some .screw
  | .torqueA | .torqueB => some .drive

/-- The role that owns a channel function (section 9.2). -/
def ChFunction.role : ChFunction → Option Role
  | .unused => none
  | .thrustExtend | .thrustRetract => some .thrust
  | .driveSpeedOut | .driveSpeedIn => some .drive
  | .groutPump | .groutStroke | .greasePulse => some .grout
  | .screwSpeedOut | .screwSpeedIn | .scalePulse => some .screw

/-- The mode a channel function fixes (section 9.2). -/
def ChFunction.mode : ChFunction → ChMode
  | .unused => .none
  | .thrustExtend | .thrustRetract | .driveSpeedOut | .groutPump | .screwSpeedOut => .duty
  | .driveSpeedIn | .screwSpeedIn => .period
  | .groutStroke | .scalePulse => .count
  | .greasePulse => .pulse

/-- A channel whose output pin passes through a gate (R157). -/
def ChMode.gated : ChMode → Bool
  | .duty | .pulse => true
  | .none | .count | .period => false

/-- A channel that watches an input pin (R153, R154). -/
def ChMode.watches : ChMode → Bool
  | .count | .period => true
  | .none | .duty | .pulse => false

/-- A transition is qualifying (R153). -/
def EdgeSelect.qualifies : EdgeSelect → Bool → Bool
  | .rising, up => up
  | .falling, up => !up
  | .both, _ => true

/-- The effective mode of a published mode (R24). -/
def MachineMode.effective : MachineMode → EffMode
  | .standby => .standby
  | .excavate => .excavate
  | .build => .build

/-- The regime (R76) of an effective mode and the conditions heard. -/
def regimeOf (mode : EffMode) (h : HoldCauses) : Regime :=
  match mode with
  | .excavate => if h.groutBehind || h.chamberBlind || h.thrustLapsed then .hold else .push
  | .standby | .hold => .hold
  | .build => .build

/-- The job of a role (section 1.3). -/
def Role.job : Role → Job
  | .thrust => .thrust
  | .grout => .grout
  | .drive => .drive
  | .screw => .screw

/-- The role that owns a role kind (R22); STOP, STATUS and ID are owned by none. -/
def OwnKind.role : OwnKind → Option Role
  | .thrust | .claim => some .thrust
  | .grout => some .grout
  | .drive => some .drive
  | .screw => some .screw
  | .stop | .status | .id => none

/-- The kind code (R5). -/
def OwnKind.code : OwnKind → Nat
  | .stop => 0
  | .claim => 1
  | .thrust => 6
  | .drive => 7
  | .screw => 8
  | .grout => 9
  | .status => 10
  | .id => 11

/-- The kinds a station sends, in ascending code. -/
def OwnKind.all : List OwnKind := [.stop, .claim, .thrust, .drive, .screw, .grout, .status, .id]

/-- The publication period of a kind in ms (section 1.4). -/
def StationConfig.period (c : StationConfig) : OwnKind → Nat
  | .stop => c.pubStop
  | .claim => c.pubClaim
  | .thrust => c.pubThrust
  | .drive => c.pubDrive
  | .screw => c.pubScrew
  | .grout => c.pubGrout
  | .status => c.pubStatus
  | .id => c.pubId

/-- The kind code of a content (R5). -/
def Bulletin.code : Bulletin → Nat
  | .stop _ => 0
  | .claim _ => 1
  | .build _ => 2
  | .mode _ => 3
  | .setpoint _ => 4
  | .service _ => 5
  | .thrust _ => 6
  | .drive _ => 7
  | .screw _ => 8
  | .grout _ => 9
  | .status _ => 10
  | .id _ => 11

/-- The payload length of each kind code (R5); codes 12 to 15 are no kinds. -/
def kindLength : Nat → Option Nat
  | 0 => some 1
  | 1 => some 4
  | 2 => some 5
  | 3 => some 3
  | 4 => some 12
  | 5 => some 4
  | 6 => some 12
  | 7 => some 7
  | 8 => some 9
  | 9 => some 11
  | 10 => some 12
  | 11 => some 6
  | _ => none

end Sys2Proof
end

