-- ==== Sys2Proof/WellFormed.lean ====
section
/-! DEFINITION. Which commands are well formed: operands that an event can bring. -/
namespace Sys2Proof

/-- Payload bytes the length field announces: 13, 14 and 15 are taken as 12 (R1). -/
def announcedBytes (len : BitVec 4) : Nat := min len.toNat 12

/-- A frame carries exactly the payload bytes its length field announces (R1). -/
def Frame.wellFormed (f : Frame) : Bool := f.payload.length == announcedBytes f.len

/-- A slot of the table belongs to a station 1 to 15 or to the console (R18). -/
def SlotRef.wellFormed : SlotRef → Bool
  | .station n _ => decide (1 ≤ n ∧ n ≤ 15)
  | .console _ => true

/-- A read that is answered brings the whole region (table 11.1). -/
def answerWellFormed (size : Nat) : Option (List Byte) → Bool
  | none => true
  | some bytes => bytes.length == size

/-- Bytes of the configuration image (table 11.1). -/
def imageSize : Nat := 886

/-- Bytes of the ring record region (table 11.1). -/
def recordSize : Nat := 40

/-- The commands whose operands an event can bring. -/
def Instr.wellFormed : Instr → Bool
  | .configReadComplete answer => answerWellFormed imageSize answer
  | .ringRecordReadComplete answer => answerWellFormed recordSize answer
  | .frameArrives frame => frame.wellFormed
  | .slotCurrencyExpiry slot => slot.wellFormed
  | .powerOn _ | .lineReset _ | .joinTimerExpiry | .lineFree | .lostArbitration | .acknowledged | .unacknowledged
  | .bitError | .bulletinTaken | .idTaken | .modeTaken | .buildTaken | .stopTaken | .clearFault | .clearEvents
  | .resume | .restart _ | .forget | .save | .staleTimerExpiry | .publicationTimerExpiry _ | .rateTimerExpiry
  | .conversionComplete _ | .inputHoldExpiry _ | .driveEvaluation | .driveStallTimerExpiry | .thrustEvaluation
  | .thrustOverpressureExpiry | .holdOffExpiry | .waitTimerExpiry | .retractTimerExpiry | .extendTimerExpiry
  | .groutEvaluation | .blockedTimerExpiry | .groutOverpressureExpiry | .screwEvaluation | .screwStallTimerExpiry
  | .feedbackTimerExpiry | .periodBoundary _ | .channelEdge _ _ _ | .channelTimeoutExpiry _ | .pulseWidthExpiry
  | .stopInputActive | .stopInputReleased | .permitInputChange _ | .memoryWriteComplete _ | .resetAsserted
  | .activeTimeEnd _ => true

end Sys2Proof
end

