-- ==== Sys2Proof/Machine/Layouts.lean ====
section
/-! DEFINITION. Frames and bulletin layouts: the frame check (R1), the sender, length and code tests (R5 to R9) and the byte
layouts of every kind in both directions (R6 to R8). -/
namespace Sys2Proof

/-! ## The frame check (R1) -/

/-- One bit through the division register with generator x^16 + x^12 + x^5 + 1. -/
def crcBit (r : Word16) (b : Bool) : Word16 :=
  if r.msb != b then (r <<< 1) ^^^ 0x1021#16 else r <<< 1

/-- The eight bits of a byte, most significant first. -/
def byteBits (b : Byte) : List Bool :=
  [b.getLsbD 7, b.getLsbD 6, b.getLsbD 5, b.getLsbD 4, b.getLsbD 3, b.getLsbD 2, b.getLsbD 1, b.getLsbD 0]

/-- The four bits of a length field, most significant first. -/
def nibbleBits (n : BitVec 4) : List Bool := [n.getLsbD 3, n.getLsbD 2, n.getLsbD 1, n.getLsbD 0]

/-- The remainder over a list of bits, from a register of all ones. -/
def crcOfBits (bits : List Bool) : Word16 := bits.foldl crcBit 0xFFFF#16

/-- The remainder over bytes (R170, R172). -/
def crcOfBytes (bytes : List Byte) : Word16 := crcOfBits (bytes.flatMap byteBits)

/-- The payload as received: as many bytes as the length field announces (R1). -/
def Frame.bytes (f : Frame) : List Byte := f.payload.take (announcedBytes f.len)

/-- The check over the tag, the length and the payload in the order they are sent (R1). -/
def Frame.computedCheck (f : Frame) : Word16 :=
  crcOfBits (byteBits f.tag ++ nibbleBits f.len ++ f.bytes.flatMap byteBits)

/-- The check is good (R1). -/
def Frame.good (f : Frame) : Bool := f.computedCheck == f.check

/-- The kind code of the tag (R1). -/
def Frame.kindCode (f : Frame) : Nat := f.tag.toNat / 16

/-- The sender of the tag (R1). -/
def Frame.sender (f : Frame) : Nat := f.tag.toNat % 16

/-! ## Codes (section 1.3) -/

def boolBit (b : Bool) : Nat := if b then 1 else 0

def Backbone.code : Backbone → Nat
  | .offline => 0 | .joining => 1 | .online => 2 | .isolated => 3 | .silent => 4

def Backbone.ofCode : Nat → Option Backbone
  | 0 => some .offline | 1 => some .joining | 2 => some .online | 3 => some .isolated | 4 => some .silent | _ => none

def MachineMode.code : MachineMode → Nat
  | .standby => 0 | .excavate => 1 | .build => 2

def MachineMode.ofCode : Nat → Option MachineMode
  | 0 => some .standby | 1 => some .excavate | 2 => some .build | _ => none

def DriveState.code : DriveState → Nat
  | .off => 0 | .ready => 1 | .running => 2 | .stopping => 3 | .reversing => 4 | .fault => 5

def DriveState.ofCode : Nat → Option DriveState
  | 0 => some .off | 1 => some .ready | 2 => some .running | 3 => some .stopping | 4 => some .reversing
  | 5 => some .fault | _ => none

def ShoeState.code : ShoeState → Nat
  | .engaged => 0 | .claiming => 1 | .retracting => 2 | .clear => 3 | .extending => 4

def ShoeState.ofCode : Nat → Option ShoeState
  | 0 => some .engaged | 1 => some .claiming | 2 => some .retracting | 3 => some .clear | 4 => some .extending | _ => none

def LineState.code : LineState → Nat
  | .off => 0 | .idle => 1 | .injecting => 2 | .limited => 3 | .held => 4 | .fault => 5

def LineState.ofCode : Nat → Option LineState
  | 0 => some .off | 1 => some .idle | 2 => some .injecting | 3 => some .limited | 4 => some .held | 5 => some .fault
  | _ => none

def ScrewState.code : ScrewState → Nat
  | .off => 0 | .running => 1 | .blind => 2 | .fault => 3

def ScrewState.ofCode : Nat → Option ScrewState
  | 0 => some .off | 1 => some .running | 2 => some .blind | 3 => some .fault | _ => none

def Regime.code : Regime → Nat
  | .push => 0 | .hold => 1 | .build => 2

def WaitReason.code : WaitReason → Nat
  | .none => 0 | .adjacent => 1 | .limit => 2 | .priority => 3 | .holdShort => 4

def WaitReason.ofCode : Nat → Option WaitReason
  | 0 => some .none | 1 => some .adjacent | 2 => some .limit | 3 => some .priority | 4 => some .holdShort | _ => Option.none

def Direction.code : Direction → Nat
  | .cw => 0 | .ccw => 1

def Direction.ofBit (b : Bool) : Direction := if b then .ccw else .cw

def StartKind.code : StartKind → Nat
  | .powerOn => 0 | .lineReset => 1 | .restart => 2

def StartKind.ofCode : Nat → Option StartKind
  | 0 => some .powerOn | 1 => some .lineReset | 2 => some .restart | _ => none

def StopCause.code : StopCause → Nat
  | .localInput => 0 | .operator => 1

def StopCause.ofCode : Nat → Option StopCause
  | 0 => some .localInput | 1 => some .operator | _ => none

def BuildPhase.code : BuildPhase → Nat
  | .place => 0 | .placed => 1

def BuildPhase.ofCode : Nat → Option BuildPhase
  | 0 => some .place | 1 => some .placed | _ => none

def ServiceAction.code : ServiceAction → Nat
  | .clearFault => 0 | .clearEvents => 1 | .resume => 2 | .restart => 3 | .forget => 4 | .save => 5

def ServiceAction.ofCode : Nat → Option ServiceAction
  | 0 => some .clearFault | 1 => some .clearEvents | 2 => some .resume | 3 => some .restart | 4 => some .forget
  | 5 => some .save | _ => none

/-- Job codes of CLEAR_FAULT (section 1.3). -/
def Job.ofCode : Nat → Option Job
  | 0 => some .station | 1 => some .thrust | 2 => some .grout | 3 => some .drive | 4 => some .screw | _ => none

/-- A role mask as four bits: THRUST 3, GROUT 2, DRIVE 1, SCREW 0 (R6). -/
def RoleMask.code (m : RoleMask) : Nat :=
  8 * boolBit m.thrust + 4 * boolBit m.grout + 2 * boolBit m.drive + boolBit m.screw

def RoleMask.ofNat (n : Nat) : RoleMask := ⟨n.testBit 3, n.testBit 2, n.testBit 1, n.testBit 0⟩

/-- Hold causes as four bits: GROUT_BEHIND, CHAMBER_BLIND, THRUST_LAPSED, TORQUE_DERATE, high to low (R7). -/
def HoldCauses.code (h : HoldCauses) : Nat :=
  8 * boolBit h.groutBehind + 4 * boolBit h.chamberBlind + 2 * boolBit h.thrustLapsed + boolBit h.torqueDerate

def HoldCauses.ofNat (n : Nat) : HoldCauses := ⟨n.testBit 3, n.testBit 2, n.testBit 1, n.testBit 0⟩

/-! ## Byte order (R1: most significant byte first) -/

def toByte (n : Nat) : Byte := BitVec.ofNat 8 n

/-- Two bytes of a 16-bit field. -/
def bytes16 (n : Nat) : List Byte := [toByte (n / 256), toByte n]

/-- Four bytes of a 32-bit field. -/
def bytes32 (n : Nat) : List Byte := [toByte (n / 16777216), toByte (n / 65536), toByte (n / 256), toByte n]

def nat16 (a b : Byte) : Nat := a.toNat * 256 + b.toNat

def nat32 (a b c d : Byte) : Nat := ((a.toNat * 256 + b.toNat) * 256 + c.toNat) * 256 + d.toNat

/-- A signed value as 32 bits in two's complement. -/
def signed32 (x : Int) : Nat := (BitVec.ofInt 32 x).toNat

/-- The signed value of 32 bits in two's complement. -/
def int32 (n : Nat) : Int := (BitVec.ofNat 32 n).toInt

/-- A moment from its magnitude and its sign bit; a magnitude of 0 is 0 whatever the sign (R8). -/
def momentOf (negative : Bool) (magnitude : Nat) : Int := if negative then -(magnitude : Int) else magnitude

/-! ## Encoding (R6 to R8): bits sent as 0 are 0 -/

def StatusBody.bytes (b : StatusBody) : List Byte :=
  [toByte (b.backbone.code * 32 + boolBit b.stopped * 16),
   toByte (b.drive.code * 32 + b.shoe.code * 4 + b.screw.code),
   toByte (b.line.code * 32)]
  ++ bytes16 b.flags.toNat
  ++ [toByte (b.causeStation * 16 + b.causeThrust % 16), toByte (b.causeGrout * 16 + b.causeDrive % 16),
      toByte (b.causeScrew * 16)]
  ++ bytes16 b.ring ++ [toByte b.failures, toByte b.rejected]

def ThrustBody.bytes (b : ThrustBody) : List Byte :=
  bytes16 b.ring ++ bytes16 (boolBit b.strokeValid * 32768 + b.stroke % 32768) ++ bytes16 (b.advance % 32768)
  ++ bytes16 (b.causes.code * 4096 + b.pressure % 4096) ++ bytes16 b.ceiling
  ++ bytes16 (boolBit b.floorClamp * 32768 + boolBit b.ceilClamp * 16384 + b.regime % 4 * 4096 + b.pSet % 4096)

def SetpointBody.bytes (b : SetpointBody) : List Byte :=
  bytes16 b.force ++ bytes16 b.pitch.natAbs ++ bytes16 b.yaw.natAbs
  ++ bytes16 (boolBit (decide (b.pitch < 0)) * 32768 + boolBit (decide (b.yaw < 0)) * 16384 + b.dir.code * 8192 + b.fill % 8192)
  ++ bytes16 b.speed ++ bytes16 b.chamber

/-- The payload of a content (R6 to R8). -/
def Bulletin.payload : Bulletin → List Byte
  | .stop b => [toByte b.cause.code]
  | .claim b => bytes16 b.ring ++ [toByte (b.step * 16 + b.sector % 16), toByte (b.shoe.code * 16 + b.wait.code)]
  | .build b => bytes16 b.ring ++ [toByte b.step, toByte b.sector, toByte b.phase.code]
  | .mode b => [toByte b.mode.code] ++ bytes16 b.ring
  | .setpoint b => b.bytes
  | .service b => [toByte b.target, toByte b.action.code] ++ bytes16 b.arg
  | .thrust b => b.bytes
  | .drive b =>
    [toByte (b.state.code * 32 + b.dir.code * 16 + boolBit b.torqueHigh)] ++ bytes16 b.nFb ++ bytes16 b.tau ++ bytes16 b.cmd
  | .screw b =>
    bytes16 b.ring ++ bytes16 b.pCh ++ bytes16 b.nOut ++ bytes16 b.balance
    ++ [toByte (b.valid * 64 + boolBit b.blind * 32 + boolBit b.overdig * 16 + boolBit b.underdig * 8)]
  | .grout b =>
    bytes16 b.ring ++ [toByte (b.weight * 16 + boolBit b.holdRequest * 8 + b.line.code)] ++ bytes32 b.delivered
    ++ bytes32 (signed32 b.deficit)
  | .status b => b.bytes
  | .id b =>
    [toByte b.station, toByte b.roles.code, toByte (b.sector * 16 + b.weight % 16)] ++ bytes16 b.digest.toNat
    ++ [toByte b.startKind.code]

/-- The frame that carries a content from a station (R1). -/
def Bulletin.frame (sender : Nat) (b : Bulletin) : Frame :=
  let f : Frame := ⟨BitVec.ofNat 8 (b.code * 16 + sender % 16), BitVec.ofNat 4 b.payload.length, b.payload, 0#16⟩
  { f with check := f.computedCheck }

/-! ## Decoding with the code tests of R6 to R9: `none` is a frame R4 step 4 rejects -/

def decodeStop : List Byte → Option Bulletin
  | [b0] => (StopCause.ofCode b0.toNat).map fun c => .stop ⟨c⟩
  | _ => none

def decodeClaim : List Byte → Option Bulletin
  | [b0, b1, b2, b3] =>
    match ShoeState.ofCode (b3.toNat / 16), WaitReason.ofCode (b3.toNat % 16) with
    | some shoe, some wait => some (.claim ⟨nat16 b0 b1, b2.toNat / 16, b2.toNat % 16, shoe, wait⟩)
    | _, _ => none
  | _ => none

def decodeBuild : List Byte → Option Bulletin
  | [b0, b1, b2, b3, b4] =>
    match BuildPhase.ofCode b4.toNat with
    | some phase =>
      if 1 ≤ b2.toNat ∧ b2.toNat ≤ 15 ∧ b3.toNat ≤ 7 then some (.build ⟨nat16 b0 b1, b2.toNat, b3.toNat, phase⟩) else none
    | none => none
  | _ => none

def decodeMode : List Byte → Option Bulletin
  | [b0, b1, b2] => (MachineMode.ofCode b0.toNat).map fun m => .mode ⟨m, nat16 b1 b2⟩
  | _ => none

def decodeSetpoint : List Byte → Option Bulletin
  | [b0, b1, b2, b3, b4, b5, b6, b7, b8, b9, b10, b11] =>
    let w := nat16 b6 b7
    some (.setpoint ⟨nat16 b0 b1, momentOf (w.testBit 15) (nat16 b2 b3), momentOf (w.testBit 14) (nat16 b4 b5),
      Direction.ofBit (w.testBit 13), w % 8192, nat16 b8 b9, nat16 b10 b11⟩)
  | _ => none

/-- The argument tests of SERVICE (R9). -/
def serviceArgGood (action : ServiceAction) (arg : Nat) : Bool :=
  match action with
  | .clearFault => decide (arg ≤ 4)
  | .forget => decide (1 ≤ arg ∧ arg ≤ 15)
  | .clearEvents | .resume | .restart | .save => true

def decodeService : List Byte → Option Bulletin
  | [b0, b1, b2, b3] =>
    match ServiceAction.ofCode b1.toNat with
    | some action =>
      if b0.toNat ≤ 15 && serviceArgGood action (nat16 b2 b3) then some (.service ⟨b0.toNat, action, nat16 b2 b3⟩) else none
    | none => none
  | _ => none

def decodeThrust : List Byte → Option Bulletin
  | [b0, b1, b2, b3, b4, b5, b6, b7, b8, b9, b10, b11] =>
    let s := nat16 b2 b3
    let p := nat16 b6 b7
    let w := nat16 b10 b11
    some (.thrust ⟨nat16 b0 b1, s.testBit 15, s % 32768, nat16 b4 b5 % 32768, HoldCauses.ofNat (p / 4096), p % 4096,
      nat16 b8 b9, w.testBit 15, w.testBit 14, w / 4096 % 4, w % 4096⟩)
  | _ => none

def decodeDrive : List Byte → Option Bulletin
  | [b0, b1, b2, b3, b4, b5, b6] =>
    (DriveState.ofCode (b0.toNat / 32)).map fun st =>
      .drive ⟨st, Direction.ofBit (b0.getLsbD 4), b0.getLsbD 0, nat16 b1 b2, nat16 b3 b4, nat16 b5 b6⟩
  | _ => none

def decodeScrew : List Byte → Option Bulletin
  | [b0, b1, b2, b3, b4, b5, b6, b7, b8] =>
    some (.screw ⟨nat16 b0 b1, nat16 b2 b3, nat16 b4 b5, nat16 b6 b7, b8.toNat / 64, b8.getLsbD 5, b8.getLsbD 4, b8.getLsbD 3⟩)
  | _ => none

def decodeGrout : List Byte → Option Bulletin
  | [b0, b1, b2, b3, b4, b5, b6, b7, b8, b9, b10] =>
    (LineState.ofCode (b2.toNat % 8)).map fun line =>
      .grout ⟨nat16 b0 b1, b2.toNat / 16, b2.getLsbD 3, line, nat32 b3 b4 b5 b6, int32 (nat32 b7 b8 b9 b10)⟩
  | _ => none

/-- No first fault cause is above the highest code of its job (R6, section 10.1). -/
def causesInRange (station thrust grout drive screw : Nat) : Bool :=
  decide (station ≤ 2 ∧ thrust ≤ 4 ∧ grout ≤ 3 ∧ drive ≤ 3 ∧ screw ≤ 2)

def decodeStatus : List Byte → Option Bulletin
  | [b0, b1, b2, b3, b4, b5, b6, b7, b8, b9, b10, b11] =>
    match Backbone.ofCode (b0.toNat / 32), DriveState.ofCode (b1.toNat / 32), ShoeState.ofCode (b1.toNat / 4 % 8),
        ScrewState.ofCode (b1.toNat % 4), LineState.ofCode (b2.toNat / 32) with
    | some bb, some dr, some sh, some sc, some li =>
      if causesInRange (b5.toNat / 16) (b5.toNat % 16) (b6.toNat / 16) (b6.toNat % 16) (b7.toNat / 16) then
        some (.status ⟨bb, b0.getLsbD 4, dr, sh, sc, li, BitVec.ofNat 16 (nat16 b3 b4), b5.toNat / 16, b5.toNat % 16,
          b6.toNat / 16, b6.toNat % 16, b7.toNat / 16, nat16 b8 b9, b10.toNat, b11.toNat⟩)
      else none
    | _, _, _, _, _ => none
  | _ => none

def decodeId : List Byte → Option Bulletin
  | [b0, b1, b2, b3, b4, b5] =>
    match StartKind.ofCode b5.toNat with
    | some kind =>
      if b2.toNat / 16 ≤ 7 || b2.toNat / 16 == 15 then
        some (.id ⟨b0.toNat, RoleMask.ofNat (b1.toNat % 16), b2.toNat / 16, b2.toNat % 16, BitVec.ofNat 16 (nat16 b3 b4), kind⟩)
      else none
    | none => none
  | _ => none

/-- The content a payload of a kind code spells, with the length test of R5 (each kind's pattern has its length) and the code
tests of R6 to R9. -/
def decodePayload (code : Nat) (bytes : List Byte) : Option Bulletin :=
  match code with
  | 0 => decodeStop bytes
  | 1 => decodeClaim bytes
  | 2 => decodeBuild bytes
  | 3 => decodeMode bytes
  | 4 => decodeSetpoint bytes
  | 5 => decodeService bytes
  | 6 => decodeThrust bytes
  | 7 => decodeDrive bytes
  | 8 => decodeScrew bytes
  | 9 => decodeGrout bytes
  | 10 => decodeStatus bytes
  | 11 => decodeId bytes
  | _ => none

/-- The sender class of a kind code (R5): 2 to 5 only from station 0; 1 and 6 to 11 never from station 0; 12 to 15 never. -/
def senderAllowed (code sender : Nat) : Bool :=
  if 12 ≤ code then false
  else if 2 ≤ code ∧ code ≤ 5 then sender == 0
  else if code == 0 then true
  else sender != 0

/-- A frame with a good check, judged by R4 step 4: its content, or `none` when it is rejected. A length field of 13, 14 or 15
is the length of no kind. -/
def Frame.content (f : Frame) : Option Bulletin :=
  if senderAllowed f.kindCode f.sender && kindLength f.kindCode == some f.len.toNat then
    decodePayload f.kindCode f.bytes
  else none

/-- SETPOINT values are clamped in the frame as it enters the buffer (R9). -/
def SetpointBody.clamped (c : StationConfig) (b : SetpointBody) : SetpointBody where
  force := clampNat 0 c.forceMax b.force
  pitch := clampInt (-60000) 60000 b.pitch
  yaw := clampInt (-60000) 60000 b.yaw
  dir := b.dir
  fill := clampNat 1000 2500 b.fill
  speed := clampNat 0 c.speedMax b.speed
  chamber := clampNat 0 8000 b.chamber

/-- What the receive buffer holds of a content (R9). -/
def Bulletin.buffered (c : StationConfig) : Bulletin → Bulletin
  | .setpoint b => .setpoint (b.clamped c)
  | b => b

end Sys2Proof
end

