-- ==== Sys2Proof/Machine/Image.lean ====
section
/-! DEFINITION. The configuration image: its layout (R169), the tests that make it bad, the clamps and orderings of a good one
and the machine digest (R170, R73, R110, R151). -/
namespace Sys2Proof

/-- The four-byte constants of the image, from byte 4 on, as signed values (R169). -/
def imageWords : List Byte → List Int
  | a :: b :: c :: d :: rest => int32 (nat32 a b c d) :: imageWords rest
  | _ => []

/-- Constant `k` of the image, clamped to lo..hi (R170). -/
def constant (ws : List Int) (k lo hi : Nat) : Nat := clampToNat lo hi (ws.getD k 0)

/-- An input function code; one above 8 is taken as unused (R170), as is a negative one (log 8). -/
def inFunctionOfCode (x : Int) : InFunction :=
  match x with
  | 1 => .stroke | 2 => .groupPressure | 3 => .linePressure | 4 => .chamber1 | 5 => .chamber2 | 6 => .chamber3
  | 7 => .torqueA | 8 => .torqueB | _ => .unused

/-- A channel function code; `none` above 10, a function of no role (R170); a negative one is clamped to unused (log 8). -/
def chFunctionOfCode (x : Int) : Option ChFunction :=
  match x with
  | 1 => some .thrustExtend | 2 => some .thrustRetract | 3 => some .driveSpeedOut | 4 => some .driveSpeedIn
  | 5 => some .groutPump | 6 => some .groutStroke | 7 => some .greasePulse | 8 => some .screwSpeedOut
  | 9 => some .screwSpeedIn | 10 => some .scalePulse
  | x => if x ≤ 0 then some .unused else none

/-- A guard condition code, clamped to the list (R170). -/
def guardCondOfCode (n : Nat) : GuardCond :=
  match n with
  | 0 => .modeExcavate | 1 => .modeBuild | 2 => .consoleCurrent | 3 => .chamberOk | 4 => .noHoldCause | 5 => .driveQuorum
  | 6 => .allSectorsLive | 7 => .claimActive | 8 => .permitInput | _ => .screwRunning

def guardSelOfCode (n : Nat) : GuardSel :=
  match n with
  | 0 => .g0 | 1 => .g1 | 2 => .g2 | _ => .g3

def edgeOfCode (n : Nat) : EdgeSelect :=
  match n with
  | 0 => .rising | 1 => .falling | _ => .both

/-- The input map's record `i` (R169), in_raw_max clamped to in_raw_min to 4,095 (section 9.1). -/
def inputCfgAt (ws : List Int) (i : Nat) : InputCfg where
  function := inFunctionOfCode (ws.getD (88 + 5 * i) 0)
  offset := clampInt (-65535) 65535 (ws.getD (89 + 5 * i) 0)
  gain := clampInt (-65535) 65535 (ws.getD (90 + 5 * i) 0)
  rawMin := constant ws (91 + 5 * i) 0 4095
  rawMax := clampNat (constant ws (91 + 5 * i) 0 4095) 4095 (constant ws (92 + 5 * i) 0 4095)

/-- The channel map's record `i` (R169). -/
def channelCfgAt (ws : List Int) (i : Nat) : ChannelCfg where
  function := (chFunctionOfCode (ws.getD (148 + 8 * i) 0)).getD .unused
  period := constant ws (149 + 8 * i) 100 100000
  safeHigh := ws.getD (150 + 8 * i) 0 != 0
  guard := guardSelOfCode (constant ws (151 + 8 * i) 0 3)
  pin := Fin.ofNat 4 (constant ws (152 + 8 * i) 0 3)
  edge := edgeOfCode (constant ws (153 + 8 * i) 0 2)
  minInterval := constant ws (154 + 8 * i) 1 1000000
  timeout := constant ws (155 + 8 * i) 10 10000

/-- Guard `i` (0 to 2 for G1 to G3) (R169). -/
def guardCfgAt (ws : List Int) (i : Nat) : GuardCfg where
  cond := guardCondOfCode (constant ws (212 + 2 * i) 0 9)
  invert := ws.getD (213 + 2 * i) 0 != 0

/-- Every constant clamped to its own range (R170), in the order of the image (R169). -/
def clampedConfig (roles sector : Nat) (ws : List Int) : StationConfig where
  roles := RoleMask.ofNat roles
  sector := if sector < constant ws 0 3 8 then some sector else none
  sectors := constant ws 0 3 8
  annulusArea := constant ws 1 1 65535
  faceArea := constant ws 2 1 65535
  retractLimit := constant ws 3 1 2
  lapseTime := constant ws 4 100 5000
  pubStop := constant ws 5 20 2000
  pubClaim := constant ws 6 20 2000
  pubThrust := constant ws 7 20 2000
  pubDrive := constant ws 8 20 2000
  pubScrew := constant ws 9 20 2000
  pubGrout := constant ws 10 20 2000
  pubStatus := constant ws 11 20 2000
  pubId := constant ws 12 20 5000
  joinWindow := constant ws 13 100 5000
  pRefFallback := constant ws 14 0 8000
  density := constant ws 15 1000 3000
  rateWindow := constant ws 16 500 10000
  greaseStep := constant ws 17 100 5000
  recordStep := constant ws 18 500 7500
  evalDrive := constant ws 19 10 1000
  quorum := constant ws 20 1 15
  speedMax := constant ws 21 1 400
  rampStep := constant ws 22 1 50
  stopStep := constant ws 23 1 100
  kt := constant ws 24 0 1000
  trimMax := constant ws 25 0 100
  nFullScale := constant ws 26 100 2000
  pulsesPerRev := constant ws 27 1 720
  zeroBand := constant ws 28 1 100
  overspeedMargin := constant ws 29 0 400
  tauHigh := constant ws 30 1 2000
  stallSpeed := constant ws 31 1 400
  stallTorque := constant ws 32 1 2000
  stallTime := constant ws 33 200 30000
  evalThrust := constant ws 34 10 1000
  pistonArea := constant ws 35 100 10000
  coefCos := clampInt (-10000) 10000 (ws.getD 36 0)
  coefSin := clampInt (-10000) 10000 (ws.getD 37 0)
  leverR := constant ws 38 500 6000
  pFloor := constant ws 39 0 4000
  pHoldMin := constant ws 40 0 4000
  pCeiling := constant ws 41 0 4000
  pShoe := constant ws 42 0 4000
  pFull := constant ws 43 100 4000
  rampDp := constant ws 44 1 400
  derate := constant ws 45 0 1000
  holdMargin := constant ws 46 1000 2000
  forceMax := constant ws 47 0 60000
  holdoffTime := constant ws 48 50 2000
  waitTime := constant ws 49 1000 120000
  retractClearance := constant ws 50 100 5000
  retractDuty := constant ws 51 0 1000
  retractTimeout := constant ws 52 1000 60000
  extendTimeout := constant ws 53 1000 60000
  evalGrout := constant ws 54 10 1000
  weight := constant ws 55 1 15
  strokeVolume := constant ws 56 100 20000
  efficiency := constant ws 57 500 1000
  gainG := constant ws 58 1 100
  rMax := constant ws 59 1 1000
  rFull := constant ws 60 1 2000
  headOffset := clampInt (-10000) 10000 (ws.getD 61 0)
  deltaLo := constant ws 62 0 10000
  deltaHi := constant ws 63 1 20000
  opMargin := constant ws 64 0 10000
  strokeTimeout := constant ws 65 1000 60000
  backlogLimit := constant ws 66 10000 4000000
  carryMax := constant ws 67 0 1000000
  overdigBoost := constant ws 68 0 500
  greaseWidth := constant ws 69 100 10000
  evalScrew := constant ws 70 10 1000
  kFf := constant ws 71 0 1000
  kp := constant ws 72 0 5000
  ki := constant ws 73 0 1000
  iMax := constant ws 74 0 5000
  nMax := constant ws 75 1 5000
  screwRamp := constant ws 76 1 500
  screwFullScale := constant ws 77 100 10000
  screwPpr := constant ws 78 1 720
  screwStallTime := constant ws 79 1000 60000
  screwFeedbackTime := constant ws 80 1000 60000
  kgPerPulse := constant ws 81 1 100
  balanceMin := constant ws 82 500 22000
  overThreshold := constant ws 83 1001 3000
  underThreshold := constant ws 84 100 999
  inputHoldTime := constant ws 85 100 10000
  chamberOkMin := constant ws 86 0 65535
  chamberOkMax := constant ws 87 0 65535
  inputs := #v[inputCfgAt ws 0, inputCfgAt ws 1, inputCfgAt ws 2, inputCfgAt ws 3, inputCfgAt ws 4, inputCfgAt ws 5,
    inputCfgAt ws 6, inputCfgAt ws 7, inputCfgAt ws 8, inputCfgAt ws 9, inputCfgAt ws 10, inputCfgAt ws 11]
  channels := #v[channelCfgAt ws 0, channelCfgAt ws 1, channelCfgAt ws 2, channelCfgAt ws 3, channelCfgAt ws 4,
    channelCfgAt ws 5, channelCfgAt ws 6, channelCfgAt ws 7]
  guard1 := guardCfgAt ws 0
  guard2 := guardCfgAt ws 1
  guard3 := guardCfgAt ws 2
  evAlarm := BitVec.ofInt 16 (ws.getD 218 0)
  evPublish := BitVec.ofInt 16 (ws.getD 219 0)

/-- The ordering clamps: R73, R110 and chamber_ok_max of section 9.4. -/
def StationConfig.ordered (c : StationConfig) : StationConfig :=
  let floor := clampNat 0 c.pCeiling c.pFloor
  { c with
    pFloor := floor
    pHoldMin := clampNat floor c.pCeiling c.pHoldMin
    pShoe := clampNat floor c.pCeiling c.pShoe
    deltaHi := clampNat (c.deltaLo + 1) 20000 c.deltaHi
    chamberOkMax := clampNat c.chamberOkMin 65535 c.chamberOkMax }

/-- Inputs a loaded configuration maps to a function. -/
def StationConfig.inputsMapped (c : StationConfig) (f : InFunction) : Nat := c.inputs.toList.countP (·.function == f)

/-- Channels a loaded configuration maps to a function. -/
def StationConfig.channelsMapped (c : StationConfig) (f : ChFunction) : Nat := c.channels.toList.countP (·.function == f)

/-- Test 5 of R170. -/
def StationConfig.inputMapGood (c : StationConfig) : Bool :=
  ([.stroke, .groupPressure, .linePressure, .chamber1, .chamber2, .chamber3, .torqueA, .torqueB] : List InFunction).all
    (fun f => match f.role with
      | some r => !c.roles.has r || decide (c.inputsMapped f ≤ 1)
      | none => true)
  && (!c.roles.thrust || decide (1 ≤ c.inputsMapped .groupPressure))

/-- The pins named by channels in COUNT or PERIOD mode. -/
def StationConfig.watchedPins (c : StationConfig) : List (Fin 4) :=
  (c.channels.toList.filter (fun ch => ch.function.mode.watches)).map (·.pin)

/-- R151: no function of a role not held, no function on two channels, no pin named twice; pins are compared as clamped
(log 32). -/
def StationConfig.channelMapGood (c : StationConfig) : Bool :=
  ([.thrustExtend, .thrustRetract, .driveSpeedOut, .driveSpeedIn, .groutPump, .groutStroke, .greasePulse, .screwSpeedOut,
      .screwSpeedIn, .scalePulse] : List ChFunction).all
    (fun f => match f.role with
      | some r => if c.roles.has r then decide (c.channelsMapped f ≤ 1) else c.channelsMapped f == 0
      | none => true)
  && decide c.watchedPins.Nodup

/-- No channel function code is above 10 (R170 test 6). -/
def channelCodesGood (ws : List Int) : Bool :=
  [0, 1, 2, 3, 4, 5, 6, 7].all fun i => (chFunctionOfCode (ws.getD (148 + 8 * i) 0)).isSome

/-- Test 4 of R170: THRUST or GROUT needs a sector below S. -/
def StationConfig.sectorGood (c : StationConfig) : Bool := !(c.roles.thrust || c.roles.grout) || c.sector.isSome

/-- A configuration image judged and loaded (R170): `none` is bad. -/
def loadImage (station : Nat) (image : List Byte) : Option StationConfig :=
  let ws := imageWords (image.drop 4)
  let c := (clampedConfig (image.getD 2 0).toNat (image.getD 3 0).toNat ws).ordered
  let checkGood := crcOfBytes (image.take 884) == BitVec.ofNat 16 (nat16 (image.getD 884 0) (image.getD 885 0))
  let formatGood := nat16 (image.getD 0 0) (image.getD 1 0) == 1
  if image.length == imageSize && checkGood && formatGood && station != 0 && c.sectorGood && c.inputMapGood
      && channelCodesGood ws && c.channelMapGood then
    some c
  else none

/-- The machine digest: the frame check over bytes 4 to 23 with each machine constant at its clamped value (R170). -/
def StationConfig.machineDigest (c : StationConfig) : Word16 :=
  crcOfBytes (bytes32 c.sectors ++ bytes32 c.annulusArea ++ bytes32 c.faceArea ++ bytes32 c.retractLimit ++ bytes32 c.lapseTime)

end Sys2Proof
end

