-- ==== Sys2Proof/Machine/Blocks.lean ====
section
/-! DEFINITION. What each block of the station holds (section 0.4), as plain data. -/
namespace Sys2Proof.Machine
open Sys2Proof

/-- A timer, on the model's clock in µs (log 2). `paused` is R103's paused wait timer. -/
inductive Timer where
  | stopped
  | running (due : Nat)
  | paused (remaining : Nat)
  deriving DecidableEq, Repr

/-- One value for each kind a station sends. -/
structure PerKind (α : Type) where
  stop   : α
  claim  : α
  thrust : α
  drive  : α
  screw  : α
  grout  : α
  status : α
  id     : α
  deriving DecidableEq, Repr

/-! ## Start and pins -/

/-- Where a start stands (R168). -/
inductive BootPhase where
  | held | readingConfig | waitingWrite | readingRecord | done | bad
  deriving DecidableEq, Repr

structure Boot where
  phase     : BootPhase
  startKind : StartKind
  accepted  : Bool
  station   : Nat
  yielded   : RoleMask
  digest    : Word16
  deriving DecidableEq, Repr

/-- Input pins: true is active for stop, permit and reset (all active low), high for the edge pins. -/
structure Pins where
  straps      : BitVec 4
  stopInput   : Bool
  permitInput : Bool
  resetLow    : Bool
  edge        : Vector Bool 4
  deriving DecidableEq, Repr

/-! ## Backbone port (chapter 1) -/

/-- An entry of the transmit queue (R12): `renewed` while newer content waits for the frame on the line to end, `dropped`
when it is to be removed at that end (R10). -/
structure TxEntry where
  body    : Bulletin
  renewed : Bool
  dropped : Bool
  deriving DecidableEq, Repr

/-- A frame of the receive buffer (R14): its sender and its content, decoded and clamped (R9). -/
structure RxFrame where
  sender : Nat
  body   : Bulletin
  deriving DecidableEq, Repr

/-- `seen` and the two due marks are the model's own: what has been examined for a change, and a publication that a rule asks for
beside the change fields (R162 of STATUS, R105 of CLAIM), which waits for the end of the event (log 5). -/
structure Port where
  backbone   : Backbone
  failures   : Nat
  rejected   : Nat
  queue      : List TxEntry
  onLine     : Option Frame
  rx         : List RxFrame
  ackDriven  : Bool
  joinTimer  : Timer
  pubTimer   : PerKind Timer
  seen       : PerKind (Option Bulletin)
  statusDue  : Bool
  claimDue   : Bool
  deriving DecidableEq, Repr

/-! ## Peer table (chapter 2) -/

/-- A slot (R18): it is current exactly while its currency timer runs. -/
structure Slot (α : Type) where
  content  : Option α
  currency : Timer
  deriving DecidableEq, Repr

inductive Liveness where
  | absent | live | lapsed
  deriving DecidableEq, Repr

structure StationEntry where
  liveness : Liveness
  foreign  : Bool
  stop     : Slot StopBody
  claim    : Slot ClaimBody
  thrust   : Slot ThrustBody
  drive    : Slot DriveBody
  screw    : Slot ScrewBody
  grout    : Slot GroutBody
  status   : Slot StatusBody
  id       : Slot IdBody
  deriving DecidableEq, Repr

structure ConsoleEntry where
  mode     : Slot ModeBody
  setpoint : Slot SetpointBody
  build    : Slot BuildBody
  stop     : Slot StopBody
  deriving DecidableEq, Repr

/-- Reference states (R33). -/
inductive RefState where
  | fresh | stale | fallback
  deriving DecidableEq, Repr

/-- Station n (1 to 15) stands at index n − 1 of `stations`. -/
structure PeerTable where
  stations   : Vector StationEntry 15
  console    : ConsoleEntry
  refState   : RefState
  pRef       : Nat
  staleTimer : Timer
  mode       : EffMode
  deriving DecidableEq, Repr

/-! ## Jobs -/

/-- The advance unit (chapter 3). -/
structure Advance where
  stroke      : Nat
  strokeValid : Bool
  base        : Nat
  advance     : Nat
  ring        : Nat
  machineA    : Nat
  aRing       : Nat
  void        : Nat
  mExp        : Nat
  rate        : Nat
  rateBase    : Nat
  rateTimer   : Timer
  grease      : Nat
  milestones  : Nat
  deriving DecidableEq, Repr

/-- The drive unit (chapter 4). -/
structure Drive where
  state        : DriveState
  dir          : Direction
  nSet         : Nat
  trim         : Int
  cmd          : Nat
  nFb          : Nat
  tau          : Nat
  tauMean      : Nat
  torqueHigh   : Bool
  stallPresent : Bool
  stallTimer   : Timer
  overspeed    : Bool
  evalTimer    : Timer
  deriving DecidableEq, Repr

/-- The pressure target (R81), with which of the two pressures it is. -/
inductive ThrustTarget where
  | none
  | push (p : Nat)
  | hold (p : Nat)
  deriving DecidableEq, Repr

/-- The thrust unit (chapter 5). -/
structure Thrust where
  regime        : Regime
  causes        : HoldCauses
  pressure      : Nat
  pressureValid : Bool
  force         : Int
  pPush         : Nat
  floorClamp    : Bool
  ceilClamp     : Bool
  fReq          : Nat
  share         : Nat
  pHold         : Nat
  target        : ThrustTarget
  pSet          : Nat
  seated        : Bool
  opPresent     : Bool
  opTimer       : Timer
  evalTimer     : Timer
  deriving DecidableEq, Repr

/-- The claim record (R90). -/
structure Claim where
  ring          : Nat
  step          : Nat
  sector        : Nat
  strokeAtEntry : Option Nat
  placed        : Bool
  deriving DecidableEq, Repr

/-- The ring-build controller (chapter 6). -/
structure Shoe where
  state           : ShoeState
  decisionPending : Bool
  claim           : Option Claim
  wait            : WaitReason
  lastServed      : Nat
  expired         : List Nat
  holdOff         : Timer
  waitTimer       : Timer
  retract         : Timer
  extend          : Timer
  deriving DecidableEq, Repr

/-- Grease pulse states (R129). -/
inductive PulseState where
  | idle | active | activePending
  deriving DecidableEq, Repr

/-- The grout unit (chapter 7). -/
structure Grout where
  line           : LineState
  phi            : Nat
  target         : Nat
  delivered      : Nat
  carry          : Int
  deficit        : Int
  holdRequest    : Bool
  void           : Nat
  weight         : Nat
  pressure       : Nat
  pressureValid  : Bool
  capLo          : Nat
  capHi          : Nat
  derate         : Bool
  rate           : Nat
  blockedPresent : Bool
  blockedTimer   : Timer
  opPresent      : Bool
  opTimer        : Timer
  pulse          : PulseState
  pulseTimer     : Timer
  evalTimer      : Timer
  deriving DecidableEq, Repr

/-- A chamber input as the muck unit sees it (R131). -/
inductive ChamberInput where
  | unseen
  | valid (p : Nat)
  | failed
  deriving DecidableEq, Repr

/-- The muck unit (chapter 8). `integ` is I in thousandths of 0.01 rpm. -/
structure Muck where
  chamber1     : ChamberInput
  chamber2     : ChamberInput
  chamber3     : ChamberInput
  pCh          : Nat
  blind        : Bool
  state        : ScrewState
  err          : Int
  nFf          : Nat
  integ        : Int
  nCmd         : Nat
  nOut         : Nat
  nS           : Nat
  mMeas        : Nat
  mExp         : Nat
  balance      : Nat
  overdig      : Bool
  underdig     : Bool
  stallPresent : Bool
  stallTimer   : Timer
  fbPresent    : Bool
  fbTimer      : Timer
  evalTimer    : Timer
  deriving DecidableEq, Repr

/-! ## Inputs and channels (chapter 9) -/

inductive InputState where
  | none | good | failed
  deriving DecidableEq, Repr

structure InputRec where
  value     : Int
  state     : InputState
  holdTimer : Timer
  deriving DecidableEq, Repr

/-- A timing channel. `gate` is true when OPEN; `high` is the level of the output pin. -/
structure ChannelRec where
  pending      : Nat
  active       : Nat
  periodTimer  : Timer
  activeTimer  : Timer
  capture      : Option Nat
  timeoutTimer : Timer
  pulse        : Bool
  gate         : Bool
  high         : Bool
  deriving DecidableEq, Repr

/-! ## Faults, events, memory (chapters 10 and 11) -/

/-- Fault causes of all jobs (section 10.1). -/
inductive FaultCause where
  | configBad | numberClash | overpressure | inputLost | retractTimeout | extendTimeout | lineBlocked | stall
  | overspeed | screwStall
  deriving DecidableEq, Repr

/-- A held fault record (R159). -/
structure FaultRecord where
  cause : FaultCause
  value : Int
  ring  : Nat
  step  : Nat
  later : Nat
  deriving DecidableEq, Repr

structure FaultRecords where
  station : Option FaultRecord
  thrust  : Option FaultRecord
  grout   : Option FaultRecord
  drive   : Option FaultRecord
  screw   : Option FaultRecord
  deriving DecidableEq, Repr

structure Events where
  flags   : Word16
  stopped : Bool
  alarm   : Bool
  deriving DecidableEq, Repr

/-- What a write in flight carries, captured at its start (R173). -/
inductive MemWrite where
  | record (bytes : List Byte)
  | faultArea (records : FaultRecords)
  deriving DecidableEq, Repr

structure MemPort where
  inFlight      : Option MemWrite
  recordPending : Bool
  faultPending  : Bool
  seq           : Nat
  image         : List Byte
  record        : Option (List Byte)
  recordTorn    : Bool
  faultCopy     : Option FaultRecords
  deriving DecidableEq, Repr

end Sys2Proof.Machine
end

