-- ==== Sys2Proof/Machine/StartValues.lean ====
section
/-! DEFINITION. The values each block is put at by a start (R15, R18, R53, R72, R89, R109, R127, R146, R148, R152 to R155). -/
namespace Sys2Proof.Machine
open Sys2Proof


def PerKind.all {α : Type} (x : α) : PerKind α := ⟨x, x, x, x, x, x, x, x⟩

/-- R15, with nothing heard or sent. -/
def Port.start : Port where
  backbone := .offline
  failures := 0
  rejected := 0
  queue := []
  onLine := none
  rx := []
  ackDriven := false
  joinTimer := .stopped
  pubTimer := PerKind.all .stopped
  seen := PerKind.all none
  statusDue := false
  claimDue := false

def Slot.empty {α : Type} : Slot α := ⟨none, .stopped⟩

def StationEntry.absent : StationEntry where
  liveness := .absent
  foreign := false
  stop := .empty
  claim := .empty
  thrust := .empty
  drive := .empty
  screw := .empty
  grout := .empty
  status := .empty
  id := .empty

/-- R18, R24, R33: the own entry LIVE, every other ABSENT, every slot empty, mode HOLD, reference FALLBACK. -/
def PeerTable.start (own fallback : Nat) : PeerTable where
  stations :=
    let all : Vector StationEntry 15 := Vector.replicate 15 StationEntry.absent
    if 1 ≤ own then all.setIfInBounds (own - 1) { StationEntry.absent with liveness := .live } else all
  console := ⟨.empty, .empty, .empty, .empty⟩
  refState := .fallback
  pRef := fallback
  staleTimer := .stopped
  mode := .hold

/-- R53. -/
def Advance.start : Advance := ⟨0, false, 0, 0, 0, 0, 0, 0, 0, 0, 0, .stopped, 0, 0⟩

/-- R72; FAULT when the DRIVE record is kept through the start. -/
def Drive.start (faulted : Bool) : Drive :=
  ⟨if faulted then .fault else .off, .cw, 0, 0, 0, 0, 0, 0, false, false, .stopped, false, .stopped⟩

/-- R89. -/
def Thrust.start (c : StationConfig) : Thrust :=
  ⟨.hold, HoldCauses.empty, 0, false, 0, c.pFloor, false, false, 0, 0, c.pHoldMin, .none, 0, false, false, .stopped, .stopped⟩

/-- R109; CLEAR without a start decision when the THRUST record is kept through the start. -/
def Shoe.start (faulted : Bool) : Shoe :=
  ⟨if faulted then .clear else .extending, !faulted, none, .none, 0, [], .stopped, .stopped, .stopped, .stopped⟩

/-- R127, with the band of R119 from p_ref at FALLBACK; FAULT when the GROUT record is kept through the start. -/
def Grout.start (c : StationConfig) (faulted : Bool) : Grout where
  line := if faulted then .fault else .off
  phi := 1000
  target := 0
  delivered := 0
  carry := 0
  deficit := 0
  holdRequest := false
  void := 0
  weight := 0
  pressure := 0
  pressureValid := false
  capLo := lineReference c c.pRefFallback + c.deltaLo
  capHi := lineReference c c.pRefFallback + c.deltaHi
  derate := false
  rate := 0
  blockedPresent := false
  blockedTimer := .stopped
  opPresent := false
  opTimer := .stopped
  pulse := .idle
  pulseTimer := .stopped
  evalTimer := .stopped

/-- R146; FAULT when the SCREW record is kept through the start. -/
def Muck.start (c : StationConfig) (faulted : Bool) : Muck where
  chamber1 := .unseen
  chamber2 := .unseen
  chamber3 := .unseen
  pCh := c.pRefFallback
  blind := true
  state := if faulted then .fault else .off
  err := 0
  nFf := 0
  integ := 0
  nCmd := 0
  nOut := 0
  nS := 0
  mMeas := 0
  mExp := 0
  balance := 0
  overdig := false
  underdig := false
  stallPresent := false
  stallTimer := .stopped
  fbPresent := false
  fbTimer := .stopped
  evalTimer := .stopped

/-- R148. -/
def InputRec.start : InputRec := ⟨0, .none, .stopped⟩

/-- R152 to R155, R157, with the output pin LOW (R151). -/
def ChannelRec.start : ChannelRec := ⟨0, 0, .stopped, .stopped, none, .stopped, false, false, false⟩

def FaultRecords.empty : FaultRecords := ⟨none, none, none, none, none⟩

/-- A memory never written reads as all ones (R174). -/
def MemPort.blank : MemPort where
  inFlight := none
  recordPending := false
  faultPending := false
  seq := 0
  image := List.replicate 886 0xFF#8
  record := some (List.replicate 40 0xFF#8)
  recordTorn := false
  faultCopy := none

/-- Pins before anything drives them (log 4). -/
def Pins.reset : Pins := ⟨1#4, false, false, false, Vector.replicate 4 false⟩

end Sys2Proof.Machine
end

