-- ==== Sys2Proof/Machine/State.lean ====
section
/-! DEFINITION. The whole state of one station, the reasons a command could stop the machine (none does), and the machine right
after reset. -/
namespace Sys2Proof.Machine
open Sys2Proof

/-- No command stops the machine with a fault: the block's own faults are records in `State` (R159). -/
inductive Fault where
  deriving DecidableEq, Repr

/-- Why a command has no meaning. -/
inductive Refusal where
  /-- A command the model gives no meaning. No arm of `exec` answers it. Safe: the run stops. -/
  | notModelled (mnemonic : String)
  deriving DecidableEq, Repr

structure State where
  boot       : Boot
  cfg        : StationConfig
  pins       : Pins
  now        : Nat
  port       : Port
  table      : PeerTable
  adv        : Advance
  drive      : Drive
  thrust     : Thrust
  shoe       : Shoe
  grout      : Grout
  muck       : Muck
  inputs     : Vector InputRec 12
  converting : Option (Fin 12)
  channels   : Vector ChannelRec 8
  faults     : FaultRecords
  events     : Events
  mem        : MemPort
  pending    : List Instr
  deriving DecidableEq, Repr

/-- What the start of kind `kind` keeps of a station (R167): the configuration, the kept fault records and flags, the pins, the
clock, the memory port's view of the memory and the queue of commands. Everything else is at its start value; the save sequence
is 0 until the restore (log 40). -/
def State.startValues (kind : StartKind) (phase : BootPhase) (straps : BitVec 4) (c : StationConfig) (digest : Word16)
    (faults : FaultRecords) (flags : Word16) (pins : Pins) (mem : MemPort) (now : Nat) (pending : List Instr) : State where
  boot := ⟨phase, kind, false, straps.toNat, RoleMask.empty, digest⟩
  cfg := c
  pins := { pins with straps := straps }
  now := now
  port := Port.start
  table := PeerTable.start straps.toNat c.pRefFallback
  adv := Advance.start
  drive := Drive.start faults.drive.isSome
  thrust := Thrust.start c
  shoe := Shoe.start faults.thrust.isSome
  grout := Grout.start c faults.grout.isSome
  muck := Muck.start c faults.screw.isSome
  inputs := Vector.replicate 12 InputRec.start
  converting := none
  channels := Vector.replicate 8 ChannelRec.start
  faults := { faults with station := none }
  events := ⟨flags, false, true⟩
  mem := { mem with recordPending := false, faultPending := false, seq := 0 }
  pending := pending

/-- The machine at the start of a POWER_ON (R167): OFFLINE, reading its image, every record empty, every flag clear, the alarm
output active. Station straps, pins, configuration and digest are the model's (log 4). -/
def State.reset : State :=
  State.startValues .powerOn .readingConfig 1#4 {} 0#16 FaultRecords.empty 0#16 Pins.reset MemPort.blank 0 []

end Sys2Proof.Machine
end

