-- ==== Sys2Proof/Machine/Flags.lean ====
section
/-! DEFINITION. Event flags and their routes (section 10.2), fault records by job (section 10.1), the alarm output (R164), timers,
and which roles are in service (section 11.4). -/
namespace Sys2Proof.Machine
open Sys2Proof

/-! ## Timers -/

/-- A timer is running. -/
def Timer.on : Timer → Bool
  | .running _ => true
  | .stopped | .paused _ => false

/-- A timer started now with `ms` milliseconds. -/
def State.timer (s : State) (ms : Nat) : Timer := .running (s.now + ms * 1000)

/-- The remaining time of a running timer (R103). -/
def Timer.pausedAt (now : Nat) : Timer → Timer
  | .running due => .paused (due - now)
  | t => t

/-- A paused timer resumed with its remaining time (R104). -/
def Timer.resumedAt (now : Nat) : Timer → Timer
  | .paused remaining => .running (now + remaining)
  | t => t

/-- The timer of a condition re-examined: started when it becomes present, stopped when it becomes absent, else as it was. -/
def conditionTimer (before after : Bool) (fresh old : Timer) : Timer :=
  if after then (if before then old else fresh) else .stopped

/-! ## Roles -/

/-- The effective role mask: configured less yielded (section 11.4). -/
def State.effectiveRoles (s : State) : RoleMask := s.cfg.roles.less s.boot.yielded

/-- The role is held and not yielded. -/
def State.holds (s : State) (r : Role) : Bool := s.effectiveRoles.has r

/-- The jobs run: ONLINE or ISOLATED (section 1.7). -/
def State.jobsRun (s : State) : Bool := s.port.backbone == .online || s.port.backbone == .isolated

/-- The station takes part in the backbone: JOINING, ONLINE or ISOLATED. -/
def State.onBackbone (s : State) : Bool := s.port.backbone == .joining || s.jobsRun

/-- The sector published, 15 for none (R6). -/
def State.sectorCode (s : State) : Nat := s.cfg.sector.getD 15

/-! ## Fault records -/

def FaultRecords.get (f : FaultRecords) : Job → Option FaultRecord
  | .station => f.station
  | .thrust => f.thrust
  | .grout => f.grout
  | .drive => f.drive
  | .screw => f.screw

def FaultRecords.put (f : FaultRecords) (j : Job) (r : Option FaultRecord) : FaultRecords :=
  match j with
  | .station => { f with station := r }
  | .thrust => { f with thrust := r }
  | .grout => { f with grout := r }
  | .drive => { f with drive := r }
  | .screw => { f with screw := r }

/-- At least one of the five records is held (R164). -/
def FaultRecords.anyHeld (f : FaultRecords) : Bool :=
  f.station.isSome || f.thrust.isSome || f.grout.isSome || f.drive.isSome || f.screw.isSome

/-- Cause codes of section 10.1. -/
def causeCode (j : Job) (c : FaultCause) : Nat :=
  match j, c with
  | .station, .configBad => 1
  | .station, .numberClash => 2
  | .thrust, .overpressure => 1
  | .thrust, .inputLost => 2
  | .thrust, .retractTimeout => 3
  | .thrust, .extendTimeout => 4
  | .grout, .lineBlocked => 1
  | .grout, .overpressure => 2
  | .grout, .inputLost => 3
  | .drive, .stall => 1
  | .drive, .overspeed => 2
  | .drive, .inputLost => 3
  | .screw, .screwStall => 1
  | .screw, .inputLost => 2
  | _, _ => 0

/-- The first fault cause a STATUS carries for a job, 0 for an empty record (R6). -/
def FaultRecords.code (f : FaultRecords) (j : Job) : Nat :=
  match f.get j with
  | some r => causeCode j r.cause
  | none => 0

/-! ## Event flags -/

/-- The sixteen flags, bit 15 first (section 10.2). -/
inductive EventFlag where
  | peerLapsed | consoleLapsed | configMismatch | roleYielded | sectorClash | ringJump | ringBackward | claimExpired
  | greaseOverrun | overdig | underdig | chamberDegraded | recordLost | recordWriteFailed | rxOverrun | clearRefused
  deriving DecidableEq, Repr

/-- The bit of a flag in STATUS and in CLEAR_EVENTS (section 10.2). -/
def EventFlag.mask : EventFlag → Word16
  | .peerLapsed => 0x8000#16
  | .consoleLapsed => 0x4000#16
  | .configMismatch => 0x2000#16
  | .roleYielded => 0x1000#16
  | .sectorClash => 0x0800#16
  | .ringJump => 0x0400#16
  | .ringBackward => 0x0200#16
  | .claimExpired => 0x0100#16
  | .greaseOverrun => 0x0080#16
  | .overdig => 0x0040#16
  | .underdig => 0x0020#16
  | .chamberDegraded => 0x0010#16
  | .recordLost => 0x0008#16
  | .recordWriteFailed => 0x0004#16
  | .rxOverrun => 0x0002#16
  | .clearRefused => 0x0001#16

/-- An event is raised (R162): its flag is set; a flag routed PUBLISH makes STATUS due at this event. -/
def raiseEvent (e : EventFlag) (s : State) : State :=
  { s with
    events := { s.events with flags := s.events.flags ||| e.mask }
    port := { s.port with statusDue := s.port.statusDue || (s.cfg.evPublish &&& e.mask != 0#16) } }

/-- CLEAR_EVENTS(mask) (R163). -/
def clearFlags (mask : Word16) (s : State) : State :=
  { s with events := { s.events with flags := s.events.flags &&& ~~~mask } }

/-- Whether the alarm output is to be active (R164). -/
def State.alarmDue (s : State) : Bool :=
  !s.boot.accepted || (s.events.flags &&& s.cfg.evAlarm != 0#16) || s.faults.anyHeld

/-- The alarm output re-evaluated (R164). -/
def refreshAlarm (s : State) : State := { s with events := { s.events with alarm := s.alarmDue } }

end Sys2Proof.Machine
end

