-- ==== Sys2Proof/Machine/Table.lean ====
section
/-! DEFINITION. The peer table: entries and slots (R18 to R23) and every derived quantity of section 2.3 (R27 to R36) with the
guard conditions read from them (R156), each a function of the table as it stands. -/
namespace Sys2Proof.Machine
open Sys2Proof

/-! ## Entries and slots -/

/-- A slot is current while its currency timer runs (R18). -/
def Slot.current {α : Type} (sl : Slot α) : Bool := sl.currency.on

/-- The content of a current slot. -/
def Slot.now? {α : Type} (sl : Slot α) : Option α := if sl.current then sl.content else none

/-- The station numbers of the table (R18). -/
def stationNumbers : List Nat := [1, 2, 3, 4, 5, 6, 7, 8, 9, 10, 11, 12, 13, 14, 15]

/-- The entry of station `n`; a number outside 1 to 15 has none and reads as an absent one. -/
def PeerTable.entry (t : PeerTable) (n : Nat) : StationEntry :=
  if 1 ≤ n then t.stations.toList.getD (n - 1) StationEntry.absent else StationEntry.absent

/-- The table with the entry of station `n` replaced; a number outside 1 to 15 changes nothing. -/
def PeerTable.putEntry (t : PeerTable) (n : Nat) (e : StationEntry) : PeerTable :=
  if 1 ≤ n then { t with stations := t.stations.setIfInBounds (n - 1) e } else t

/-- Some slot of the entry is current (R20). -/
def StationEntry.anyCurrent (e : StationEntry) : Bool :=
  e.stop.current || e.claim.current || e.thrust.current || e.drive.current || e.screw.current || e.grout.current
    || e.status.current || e.id.current

/-- The currency timer of a slot by kind. -/
def StationEntry.currency (e : StationEntry) : OwnKind → Timer
  | .stop => e.stop.currency
  | .claim => e.claim.currency
  | .thrust => e.thrust.currency
  | .drive => e.drive.currency
  | .screw => e.screw.currency
  | .grout => e.grout.currency
  | .status => e.status.currency
  | .id => e.id.currency

/-- A slot stops being current; its content stays (R18). -/
def StationEntry.expire (e : StationEntry) : OwnKind → StationEntry
  | .stop => { e with stop := { e.stop with currency := .stopped } }
  | .claim => { e with claim := { e.claim with currency := .stopped } }
  | .thrust => { e with thrust := { e.thrust with currency := .stopped } }
  | .drive => { e with drive := { e.drive with currency := .stopped } }
  | .screw => { e with screw := { e.screw with currency := .stopped } }
  | .grout => { e with grout := { e.grout with currency := .stopped } }
  | .status => { e with status := { e.status with currency := .stopped } }
  | .id => { e with id := { e.id with currency := .stopped } }

/-- A slot is emptied (R23, R26). -/
def StationEntry.emptySlot (e : StationEntry) : OwnKind → StationEntry
  | .stop => { e with stop := .empty }
  | .claim => { e with claim := .empty }
  | .thrust => { e with thrust := .empty }
  | .drive => { e with drive := .empty }
  | .screw => { e with screw := .empty }
  | .grout => { e with grout := .empty }
  | .status => { e with status := .empty }
  | .id => { e with id := .empty }

/-- A content written into the slot of its kind, its currency restarted (R19); console kinds and SERVICE have no slot here. -/
def StationEntry.write (e : StationEntry) (t : Timer) : Bulletin → StationEntry
  | .stop b => { e with stop := ⟨some b, t⟩ }
  | .claim b => { e with claim := ⟨some b, t⟩ }
  | .thrust b => { e with thrust := ⟨some b, t⟩ }
  | .drive b => { e with drive := ⟨some b, t⟩ }
  | .screw b => { e with screw := ⟨some b, t⟩ }
  | .grout b => { e with grout := ⟨some b, t⟩ }
  | .status b => { e with status := ⟨some b, t⟩ }
  | .id b => { e with id := ⟨some b, t⟩ }
  | .build _ | .mode _ | .setpoint _ | .service _ => e

/-- A content written into the console entry (R19); station kinds and SERVICE have no slot here. -/
def ConsoleEntry.write (e : ConsoleEntry) (t : Timer) : Bulletin → ConsoleEntry
  | .mode b => { e with mode := ⟨some b, t⟩ }
  | .setpoint b => { e with setpoint := ⟨some b, t⟩ }
  | .build b => { e with build := ⟨some b, t⟩ }
  | .stop b => { e with stop := ⟨some b, t⟩ }
  | .claim _ | .thrust _ | .drive _ | .screw _ | .grout _ | .status _ | .id _ | .service _ => e

/-- The own entry (R23). -/
def State.ownEntry (s : State) : StationEntry := s.table.entry s.boot.station

/-- The own entry replaced. -/
def putOwnEntry (e : StationEntry) (s : State) : State := { s with table := s.table.putEntry s.boot.station e }

/-- The last role mask of an identified entry holds the role (R22). -/
def StationEntry.holdsRole (e : StationEntry) (r : Role) : Bool :=
  match e.id.content with
  | some b => b.roles.has r
  | none => false

/-- A slot counts toward a contribution: current, not foreign, its role in the last role mask (R22). -/
def StationEntry.counts {α : Type} (e : StationEntry) (r : Role) (sl : Slot α) : Option α :=
  if !e.foreign && e.holdsRole r then sl.now? else none

/-- Entries with their numbers, lowest first. -/
def PeerTable.numbered (t : PeerTable) : List (Nat × StationEntry) := stationNumbers.map fun n => (n, t.entry n)

/-- The entries of the other stations. -/
def State.others (s : State) : List (Nat × StationEntry) := s.table.numbered.filter fun p => p.1 != s.boot.station

/-! ## The console (R24, R25) -/

/-- The console entry is current while its MODE slot is (R24). -/
def State.consoleCurrent (s : State) : Bool := s.table.console.mode.current

/-- The setpoints as they stand; before any SETPOINT they read as zero with fill ratio 1,000 (R25, R113). -/
def State.setpoint (s : State) : SetpointBody :=
  s.table.console.setpoint.content.getD ⟨0, 0, 0, .cw, 1000, 0, 0⟩

/-! ## Derived quantities -/

/-- The contributing THRUST set (R27). -/
def State.contributingThrust (s : State) : List ThrustBody :=
  (s.table.numbered.filterMap fun p => p.2.counts .thrust p.2.thrust).filter fun b => b.strokeValid && b.ring == s.adv.ring

/-- A slot in the live grout weight (R28): state neither OFF nor FAULT, own ring. -/
def State.weightOf (s : State) (e : StationEntry) : Nat :=
  match e.counts .grout e.grout with
  | some b => if b.ring == s.adv.ring && b.line != .off && b.line != .fault then b.weight else 0
  | none => 0

/-- The live grout weight W (R28). -/
def State.liveWeight (s : State) : Nat := (s.table.numbered.map fun p => s.weightOf p.2).sum

/-- The own line is in the share (R114). -/
def State.inShare (s : State) : Bool :=
  match s.ownEntry.counts .grout s.ownEntry.grout with
  | some b => b.ring == s.adv.ring && b.line != .off && b.line != .fault
  | none => false

/-- The contributing drive set (R29). -/
def State.contributingDrives (s : State) : List DriveBody :=
  (s.table.numbered.filterMap fun p => p.2.counts .drive p.2.drive).filter fun b => b.state == .ready || b.state == .running

/-- The engaged group count (R30). -/
def State.engagedCount (s : State) : Nat :=
  ((s.table.numbered.filterMap fun p => p.2.counts .thrust p.2.claim).filter
    fun b => b.shoe == .engaged || b.shoe == .claiming).length

/-- The force ceiling an entry adds to the engaged ceiling sum (R30). -/
def StationEntry.engagedCeiling (e : StationEntry) : Nat :=
  match e.counts .thrust e.claim, e.counts .thrust e.thrust with
  | some c, some t => if c.shoe == .engaged then t.ceiling else 0
  | _, _ => 0

/-- The engaged ceiling sum over the other stations (R30). -/
def State.engagedCeilingSum (s : State) : Nat := (s.others.map fun p => p.2.engagedCeiling).sum

/-- A claim is retracted-class (R31). -/
def retractedClass (b : ClaimBody) : Bool := b.shoe == .retracting || b.shoe == .clear || b.shoe == .extending

/-- The blocking claims: every retracted-class content of another station, current or lapsed-stuck (R31). -/
def State.blockingClaims (s : State) : List ClaimBody :=
  (s.others.filterMap fun p => p.2.claim.content).filter retractedClass

/-- The neighbour block for the own sector (R31). -/
def State.neighbourBlock (s : State) : Nat :=
  (s.blockingClaims.filter fun b => inNeighbourhood s.cfg.sectors s.sectorCode b.sector).length

/-- The retracted count (R31). -/
def State.retractedCount (s : State) : Nat := s.blockingClaims.length

/-- The priority block for the own sector (R32). -/
def State.priorityBlock (s : State) : Bool :=
  s.table.numbered.any fun p => decide (p.1 < s.boot.station) &&
    (match p.2.claim.now? with
     | some b => b.shoe == .claiming && inNeighbourhood s.cfg.sectors s.sectorCode b.sector
     | none => false)

/-- The source of the reference chamber pressure: the lowest-numbered counted SCREW slot (R33). -/
def State.screwSource (s : State) : Option ScrewBody :=
  (s.table.numbered.filterMap fun p => p.2.counts .screw p.2.screw).head?

/-- The four conditions of R34. -/
def State.holdConditions (s : State) : HoldCauses where
  groutBehind := s.table.numbered.any fun p =>
    (match p.2.counts .grout p.2.grout with | some b => b.holdRequest | none => false)
  chamberBlind := s.table.numbered.any fun p =>
    (match p.2.counts .screw p.2.screw with | some b => b.blind | none => false)
  thrustLapsed := s.table.numbered.any fun p => p.2.liveness == .lapsed && !p.2.foreign && p.2.holdsRole .thrust
  torqueDerate := s.table.numbered.any fun p =>
    (match p.2.counts .drive p.2.drive with | some b => b.torqueHigh | none => false)

/-- The stop demand: some STOP slot of any entry is current (R35). -/
def State.stopDemand (s : State) : Bool :=
  s.table.console.stop.current || s.table.numbered.any fun p => p.2.stop.current

/-- Sector coverage (R36). -/
def State.sectorCoverage (s : State) : Bool :=
  (List.range s.cfg.sectors).all fun k => s.table.numbered.any fun p =>
    (p.2.liveness == .live || p.1 == s.boot.station) && !p.2.foreign && p.2.holdsRole .thrust
      && (match p.2.id.content with | some b => b.sector == k | none => false)

/-- Some counted station shows its screw RUNNING (R156). -/
def State.screwRunning (s : State) : Bool :=
  s.table.numbered.any fun p => !p.2.foreign && p.2.holdsRole .screw &&
    (match p.2.status.now? with | some b => b.screw == .running | none => false)

/-! ## Guards (R156) -/

def State.guardCond (s : State) : GuardCond → Bool
  | .modeExcavate => s.table.mode == .excavate
  | .modeBuild => s.table.mode == .build
  | .consoleCurrent => s.consoleCurrent
  | .chamberOk =>
    s.table.refState == .fresh && (match s.screwSource with | some b => !b.blind | none => false)
      && decide (s.cfg.chamberOkMin ≤ s.table.pRef ∧ s.table.pRef ≤ s.cfg.chamberOkMax)
  | .noHoldCause =>
    !(s.holdConditions.groutBehind || s.holdConditions.chamberBlind || s.holdConditions.thrustLapsed)
  | .driveQuorum => decide (s.cfg.quorum ≤ s.contributingDrives.length)
  | .allSectorsLive => s.sectorCoverage
  | .claimActive => s.holds .thrust && (s.shoe.state == .retracting || s.shoe.state == .clear)
  | .permitInput => s.pins.permitInput
  | .screwRunning => s.screwRunning

def State.guardValue (s : State) (g : GuardCfg) : Bool := s.guardCond g.cond != g.invert

/-- The value of the guard a channel selects. -/
def State.guard (s : State) : GuardSel → Bool
  | .g0 => true
  | .g1 => s.guardValue s.cfg.guard1
  | .g2 => s.guardValue s.cfg.guard2
  | .g3 => s.guardValue s.cfg.guard3

/-- The overdig boost is in force (R113). -/
def State.overdigBoost (s : State) : Bool :=
  s.table.refState == .fresh &&
    (match s.screwSource with | some b => b.overdig && b.ring == s.adv.ring | none => false)

end Sys2Proof.Machine
end

