-- ==== Sys2Proof/Machine/Memory.lean ====
section
/-! DEFINITION. The memory port: the ring record's layout and its judgement (R172, R174), save triggers, writes and their
completion (R173). -/
namespace Sys2Proof.Machine
open Sys2Proof

/-! ## The ring record (table 11.5) -/

/-- A set of components as four bits, ADV, GRT, MCK, TRM high to low. -/
def componentMask (adv grt mck trm : Bool) : Nat := 8 * boolBit adv + 4 * boolBit grt + 2 * boolBit mck + boolBit trm

/-- The station's present mask (R172): from the configured role mask. -/
def presentMask (c : StationConfig) : Nat :=
  componentMask true c.roles.grout c.roles.screw (c.roles.screw || c.roles.drive)

/-- The live bits a save judges (R172): only components that are present. -/
def State.liveMask (s : State) : Nat :=
  componentMask (decide (0 < s.adv.aRing ∨ 0 < s.adv.ring))
    (s.cfg.roles.grout && decide (0 < s.grout.delivered ∨ s.grout.carry ≠ 0))
    (s.cfg.roles.screw && decide (0 < s.muck.mMeas))
    ((s.cfg.roles.screw || s.cfg.roles.drive) && decide (s.muck.integ ≠ 0 ∨ s.drive.nSet ≠ 0))

def State.advComponent (s : State) : List Byte :=
  bytes16 s.adv.ring ++ bytes16 s.adv.base ++ bytes16 s.adv.aRing
    ++ [toByte s.adv.grease, toByte s.adv.milestones, toByte s.shoe.lastServed]

def State.grtComponent (s : State) : List Byte :=
  bytes32 s.grout.delivered ++ bytes32 (signed32 s.grout.carry) ++ bytes32 s.grout.target

/-- Bits 7 to 2 of the latch byte are written as 0 (log 39). -/
def State.mckComponent (s : State) : List Byte :=
  bytes32 s.muck.mMeas ++ [toByte (2 * boolBit s.muck.overdig + boolBit s.muck.underdig)]

def State.trmComponent (s : State) : List Byte := bytes32 (signed32 s.muck.integ) ++ bytes16 s.drive.nSet

/-- A record before its check: the header and the live components in the order ADV, GRT, MCK, TRM (R172); its fields most
significant byte first, signed ones in two's complement (DESIGN CHOICE, log 44). -/
def State.recordBody (s : State) (seq : Nat) : List Byte :=
  [toByte 1, toByte (presentMask s.cfg * 16 + s.liveMask)] ++ bytes16 seq ++ bytes16 s.adv.ring
    ++ (if s.liveMask.testBit 3 then s.advComponent else [])
    ++ (if s.liveMask.testBit 2 then s.grtComponent else [])
    ++ (if s.liveMask.testBit 1 then s.mckComponent else [])
    ++ (if s.liveMask.testBit 0 then s.trmComponent else [])

/-- Bytes with their frame check appended (table 11.5), most significant byte first (DESIGN CHOICE, log 44). -/
def withCheck (bytes : List Byte) : List Byte := bytes ++ bytes16 (crcOfBytes bytes).toNat

/-- The record a save writes (R172). -/
def State.recordBytes (s : State) (seq : Nat) : List Byte := withCheck (s.recordBody seq)

structure AdvComponent where
  ring       : Nat
  base       : Nat
  aRing      : Nat
  grease     : Nat
  milestones : Nat
  lastServed : Nat
  deriving DecidableEq, Repr

structure GrtComponent where
  delivered : Nat
  carry     : Int
  target    : Nat
  deriving DecidableEq, Repr

structure MckComponent where
  mMeas    : Nat
  overdig  : Bool
  underdig : Bool
  deriving DecidableEq, Repr

structure TrmComponent where
  integ : Int
  nSet  : Nat
  deriving DecidableEq, Repr

/-- An accepted record: its sequence and its live components (R174). -/
structure RingRecord where
  seq : Nat
  adv : Option AdvComponent
  grt : Option GrtComponent
  mck : Option MckComponent
  trm : Option TrmComponent
  deriving DecidableEq, Repr

def decodeAdv : List Byte → Option AdvComponent
  | [b0, b1, b2, b3, b4, b5, b6, b7, b8] =>
    some ⟨nat16 b0 b1, nat16 b2 b3, nat16 b4 b5, b6.toNat, b7.toNat, b8.toNat⟩
  | _ => none

def decodeGrt : List Byte → Option GrtComponent
  | [b0, b1, b2, b3, b4, b5, b6, b7, b8, b9, b10, b11] =>
    some ⟨nat32 b0 b1 b2 b3, int32 (nat32 b4 b5 b6 b7), nat32 b8 b9 b10 b11⟩
  | _ => none

/-- Bits 7 to 2 of the latch byte are not read (log 39). -/
def decodeMck : List Byte → Option MckComponent
  | [b0, b1, b2, b3, b4] => some ⟨nat32 b0 b1 b2 b3, b4.getLsbD 1, b4.getLsbD 0⟩
  | _ => none

def decodeTrm : List Byte → Option TrmComponent
  | [b0, b1, b2, b3, b4, b5] => some ⟨int32 (nat32 b0 b1 b2 b3), nat16 b4 b5⟩
  | _ => none

/-- The bytes of a component when its live bit is set. -/
def liveSize (live : Bool) (size : Nat) : Nat := if live then size else 0

/-- A record judged (R174): `none` is refused whole. `present` is the station's present mask. Fields and check are read most
significant byte first (DESIGN CHOICE, log 44). -/
def decodeRecord (present : Nat) (bytes : List Byte) : Option RingRecord :=
  let masks := (bytes.getD 1 0).toNat
  let header := masks / 16
  let live := masks % 16
  let advSize := liveSize (live.testBit 3) 9
  let grtSize := liveSize (live.testBit 2) 12
  let mckSize := liveSize (live.testBit 1) 5
  let trmSize := liveSize (live.testBit 0) 6
  let size := 6 + advSize + grtSize + mckSize + trmSize
  let checkGood := crcOfBytes (bytes.take size) == BitVec.ofNat 16 (nat16 (bytes.getD size 0) (bytes.getD (size + 1) 0))
  if decide (size + 2 ≤ bytes.length) && (bytes.getD 0 0).toNat == 1 && checkGood && header &&& present == header
      && live &&& header == live then
    let body := bytes.drop 6
    some
      { seq := nat16 (bytes.getD 2 0) (bytes.getD 3 0)
        adv := if live.testBit 3 then decodeAdv (body.take 9) else none
        grt := if live.testBit 2 then decodeGrt ((body.drop advSize).take 12) else none
        mck := if live.testBit 1 then decodeMck ((body.drop (advSize + grtSize)).take 5) else none
        trm := if live.testBit 0 then decodeTrm ((body.drop (advSize + grtSize + mckSize)).take 6) else none }
  else none

/-! ## Writes (R173) -/

/-- The restore is complete (R173, R174). -/
def State.restored (s : State) : Bool := s.boot.phase == .done

/-- A record write starts: the sequence is raised, the pending flag cleared, the state of the moment captured (R172, R173). -/
def startRecordWrite (s : State) : State :=
  let seq := (s.mem.seq + 1) % 65536
  { s with mem := { s.mem with inFlight := some (.record (s.recordBytes seq)), recordPending := false, seq := seq } }

/-- A fault area write starts (R173). -/
def startFaultWrite (s : State) : State :=
  { s with mem := { s.mem with inFlight := some (.faultArea s.faults), faultPending := false } }

/-- A save is triggered (R172, R173), from the acceptance of the configuration on. -/
def triggerSave (s : State) : State :=
  if s.boot.accepted then
    if s.mem.inFlight.isNone && s.restored then startRecordWrite s
    else { s with mem := { s.mem with recordPending := true } }
  else s

/-- A fault record has changed (R159, R173). -/
def faultAreaChanged (s : State) : State :=
  if s.mem.inFlight.isNone && s.restored then startFaultWrite s
  else { s with mem := { s.mem with faultPending := true } }

/-- A pending write starts at the completion of a write or of the restore, the fault area first (R173); at the completion of a
write before the restore too (log 9). -/
def startPendingWrite (s : State) : State :=
  if s.mem.inFlight.isNone then
    if s.mem.faultPending then startFaultWrite s
    else if s.mem.recordPending then startRecordWrite s
    else s
  else s

/-- What an answered write leaves in the memory, as the port knows it (table 11.1). -/
def MemPort.written (m : MemPort) : MemWrite → MemPort
  | .record bytes => { m with inFlight := none, record := some bytes, recordTorn := false }
  | .faultArea records => { m with inFlight := none, faultCopy := some records }

/-- What an unanswered write leaves: an unknown content (log 7). A record torn before it stays torn, `recordTorn` standing as it
stood (DESIGN CHOICE, log 42): the spec does not say what a failed write leaves over a torn record. -/
def MemPort.unanswered (m : MemPort) : MemWrite → MemPort
  | .record _ => { m with inFlight := none, record := none }
  | .faultArea _ => { m with inFlight := none, faultCopy := none }

/-- A write in flight cut off by a start (R167, R173): a record cut off mid-write fails its check at the next restore. -/
def MemPort.cutOff (m : MemPort) : MemPort :=
  match m.inFlight with
  | some (.record _) => { m with inFlight := none, record := none, recordTorn := true }
  | some (.faultArea _) => { m with inFlight := none, faultCopy := none }
  | none => m

end Sys2Proof.Machine
end

