-- ==== Sys2Proof/Machine/Channels.lean ====
section
/-! DEFINITION. Timing channels and the input scan: which channel serves a function, duties, periods and output levels
(R152, R155, R158), and the converter's scan (R148). -/
namespace Sys2Proof.Machine
open Sys2Proof

/-- The eight channels. -/
def channelIndices : List (Fin 8) := [0, 1, 2, 3, 4, 5, 6, 7]

/-- The twelve inputs. -/
def inputIndices : List (Fin 12) := [0, 1, 2, 3, 4, 5, 6, 7, 8, 9, 10, 11]

/-- The configuration of a channel. -/
def State.chCfg (s : State) (i : Fin 8) : ChannelCfg := s.cfg.channels[i]

/-- The record of a channel. -/
def State.ch (s : State) (i : Fin 8) : ChannelRec := s.channels[i]

/-- A channel's record replaced. -/
def putChannel (i : Fin 8) (r : ChannelRec) (s : State) : State := { s with channels := s.channels.set i r }

/-- The channel mapped to a function (section 9.2). -/
def State.channelOf (s : State) (f : ChFunction) : Option (Fin 8) :=
  channelIndices.find? fun i => (s.chCfg i).function == f

/-- The owner writes a pending duty (R152); a function left unmapped goes to no pin (R151). -/
def writeDuty (f : ChFunction) (d : Nat) (s : State) : State :=
  match s.channelOf f with
  | some i => putChannel i { s.ch i with pending := d } s
  | none => s

/-- The output of the channel mapped to a function carries its duty rather than its safe level (R123, R144). -/
def State.carriesDuty (s : State) (f : ChFunction) : Bool :=
  match s.channelOf f with
  | some i => (s.ch i).gate
  | none => false

/-- A DUTY channel starts a period with duty `d` (R152, R158): its active level for the active time, then its inactive level. -/
def ChannelRec.startPeriod (r : ChannelRec) (c : ChannelCfg) (now d : Nat) : ChannelRec :=
  { r with
    active := d
    periodTimer := .running (now + c.period)
    activeTimer := if 0 < activeTime c.period d ∧ activeTime c.period d < c.period then .running (now + activeTime c.period d)
      else .stopped
    high := if 0 < activeTime c.period d then !c.safeHigh else c.safeHigh }

/-- A gate opens (R158). -/
def ChannelRec.opened (r : ChannelRec) (c : ChannelCfg) (now : Nat) : ChannelRec :=
  match c.function.mode with
  | .duty => { r.startPeriod c now r.pending with gate := true }
  | .pulse => { r with gate := true, high := if r.pulse then !c.safeHigh else c.safeHigh }
  | .none | .count | .period => r

/-- A gate shuts (R157): the pin at the safe level at once, the period timer stopped. -/
def ChannelRec.shut (r : ChannelRec) (c : ChannelCfg) : ChannelRec :=
  { r with gate := false, high := c.safeHigh, periodTimer := .stopped, activeTimer := .stopped }

/-- The level of an output pin whose gate is shut, once a configuration is accepted (R151, R157). -/
def restLevel (c : ChannelCfg) : Bool := c.function.mode.gated && c.safeHigh

/-- The pulse flag of the PULSE channel set or cleared, with the pin that follows it while the gate is open (R155). -/
def setPulseFlag (on : Bool) (s : State) : State :=
  match s.channelOf .greasePulse with
  | some i =>
    let c := s.chCfg i
    let r := s.ch i
    putChannel i { r with pulse := on, high := if r.gate then on != c.safeHigh else r.high } s
  | none => s

/-! ## The input scan -/

/-- The configuration of an input. -/
def State.inCfg (s : State) (i : Fin 12) : InputCfg := s.cfg.inputs[i]

/-- The record of an input. -/
def State.inRec (s : State) (i : Fin 12) : InputRec := s.inputs[i]

/-- An input's record replaced. -/
def putInput (i : Fin 12) (r : InputRec) (s : State) : State := { s with inputs := s.inputs.set i r }

/-- An input is scanned (R148). -/
def State.scanned (s : State) (i : Fin 12) : Bool :=
  match (s.inCfg i).function.role with
  | some r => s.holds r
  | none => false

/-- The next scanned input above `i`, else the lowest scanned one (R148). -/
def State.nextScanned (s : State) (i : Fin 12) : Option (Fin 12) :=
  match inputIndices.find? fun j => decide (i < j) && s.scanned j with
  | some j => some j
  | none => inputIndices.find? s.scanned

/-- The sum of the values of the inputs mapped to a function (R57). -/
def State.inputSum (s : State) (f : InFunction) : Int :=
  (inputIndices.map fun i => if (s.inCfg i).function == f then (s.inRec i).value else 0).sum

/-- An input mapped to a function is failed at this moment (R149). -/
def State.inputFailed (s : State) (f : InFunction) : Bool :=
  inputIndices.any fun i => (s.inCfg i).function == f && (s.inRec i).state == .failed

/-- A chamber function: its hold timer is never started (R150). -/
def isChamber : InFunction → Bool
  | .chamber1 | .chamber2 | .chamber3 => true
  | .unused | .stroke | .groupPressure | .linePressure | .torqueA | .torqueB => false

end Sys2Proof.Machine
end

