-- ==== Sys2Proof/Machine/Grout.lean ====
section
/-! DEFINITION. The grout unit's own operations (chapter 7): deficit, hold request, line state, target, band, blocked and
overpressure conditions, grease pulses, ring close, role yield. -/
namespace Sys2Proof.Machine
open Sys2Proof

/-- The blocked condition re-examined (R123). -/
def examineBlocked (s : State) : State :=
  let present := decide (0 < s.grout.rate) && s.carriesDuty .groutPump
  { s with grout := { s.grout with
      blockedPresent := present
      blockedTimer := conditionTimer s.grout.blockedPresent present (s.timer s.cfg.strokeTimeout) s.grout.blockedTimer } }

/-- The overpressure condition re-examined (R124); its confirmation time is 1,000 ms. -/
def examineGroutPressure (s : State) : State :=
  let present := decide (s.grout.capHi + s.cfg.opMargin ≤ s.grout.pressure)
  { s with grout := { s.grout with
      opPresent := present
      opTimer := conditionTimer s.grout.opPresent present (s.timer 1000) s.grout.opTimer } }

/-- The hold-request decision (R121). -/
def holdRequestOf (c : StationConfig) (deficit : Int) (before : Bool) : Bool :=
  if (c.backlogLimit : Int) < deficit then true
  else if deficit ≤ (c.backlogLimit / 2 : Nat) then false
  else before

def decideHoldRequest (s : State) : State :=
  { s with grout := { s.grout with holdRequest := holdRequestOf s.cfg s.grout.deficit s.grout.holdRequest } }

/-- The line state table (R118). -/
def State.lineTable (s : State) : LineState :=
  if s.grout.deficit < (s.cfg.effectiveStroke : Int) then .idle
  else if s.events.stopped || s.port.backbone == .isolated || s.table.mode == .hold then .held
  else if s.grout.derate then .limited
  else .injecting

/-- A line state taken: IDLE and HELD set the rate and the pump duty to 0, and the blocked condition is re-examined at a change
(R118, R123). -/
def setLine (l : LineState) (s : State) : State :=
  if l = s.grout.line then s
  else if l = .idle ∨ l = .held then
    examineBlocked (writeDuty .groutPump 0 { s with grout := { s.grout with line := l, rate := 0 } })
  else examineBlocked { s with grout := { s.grout with line := l } }

/-- The line state decision between evaluations (R118): of a line neither OFF nor in FAULT, on a station in the GROUT role. -/
def decideLine (s : State) : State :=
  if s.holds .grout && s.grout.line != .off && s.grout.line != .fault then setLine s.lineTable s else s

/-- E is recomputed from T, C and D (R115); a new value goes to the hold-request and line state decisions. After an accepted clear
the W that the own published IDLE restores comes through here at the clear's own event (log 31). -/
def recomputeDeficit (s : State) : State :=
  let e := (s.grout.target : Int) + s.grout.carry - s.grout.delivered
  if e = s.grout.deficit then s
  else decideLine (decideHoldRequest { s with grout := { s.grout with deficit := e } })

/-- T is recomputed (R114), where W is above 0 and the own line is in the share. -/
def recomputeTarget (s : State) : State :=
  if s.holds .grout && decide (0 < s.grout.weight) && s.inShare then
    recomputeDeficit { s with grout := { s.grout with
      target := groutTarget s.grout.void s.grout.phi s.cfg.weight s.grout.weight } }
  else s

/-- The derate flag re-examined (R119); each change goes to the line state decision. -/
def examineDerate (s : State) : State :=
  let d := decide (s.grout.capLo < s.grout.pressure)
  if d = s.grout.derate then s else decideLine { s with grout := { s.grout with derate := d } }

/-- The band limits recomputed, with the conditions that depend on them (R119, R124). -/
def recomputeBand (s : State) : State :=
  examineGroutPressure (examineDerate
    { s with grout := { s.grout with capLo := bandLow s.cfg s.table.pRef, capHi := bandHigh s.cfg s.table.pRef } })

/-- A new void volume handed by the advance unit (R45, R114). -/
def takeVoid (v : Nat) (s : State) : State :=
  if s.holds .grout then recomputeTarget { s with grout := { s.grout with void := v } } else s

/-- A new live grout weight handed by the peer table (R28, R114). -/
def takeWeight (w : Nat) (s : State) : State :=
  if s.holds .grout && w != s.grout.weight then recomputeTarget { s with grout := { s.grout with weight := w } } else s

/-- A grease pulse starts (R129, R155). -/
def startPulse (s : State) : State :=
  setPulseFlag true { s with grout := { s.grout with pulse := .active, pulseTimer := s.timer s.cfg.greaseWidth } }

/-- One grease trigger (R129). -/
def greaseTrigger (s : State) : State :=
  match s.grout.pulse with
  | .idle => startPulse s
  | .active => { s with grout := { s.grout with pulse := .activePending } }
  | .activePending => raiseEvent .greaseOverrun s

/-- `n` grease triggers, one after the other (R51). -/
def greaseTriggers : Nat → State → State
  | 0, s => s
  | n + 1, s => greaseTriggers n (greaseTrigger s)

/-- The pulse state set to IDLE, a pulse in progress ended at once (R130, R155). -/
def clearPulse (s : State) : State :=
  setPulseFlag false { s with grout := { s.grout with pulse := .idle, pulseTimer := .stopped } }

/-- A ring close (R116): with carry, or a jump without. -/
def closeGrout (withCarry : Bool) (s : State) : State :=
  if s.holds .grout then
    let c := if withCarry then clampInt (-(s.cfg.carryMax : Int)) s.cfg.carryMax s.grout.deficit else 0
    decideLine (decideHoldRequest
      { s with grout := { s.grout with carry := c, target := 0, delivered := 0, void := 0, deficit := c } })
  else s

/-- The grout unit leaves service: SILENT or a yield (R128). A line in FAULT keeps FAULT; its hold request is cleared at a
yield (log 10). -/
def silenceGrout (atYield : Bool) (s : State) : State :=
  let faulted := s.grout.line == .fault
  clearPulse (writeDuty .groutPump 0
    { s with grout := { s.grout with
        line := if faulted then .fault else .off
        rate := 0
        holdRequest := if faulted && !atYield then s.grout.holdRequest else false
        blockedPresent := false
        blockedTimer := .stopped
        evalTimer := .stopped } })

/-- Entry of the line into FAULT (R125). -/
def faultGrout (s : State) : State :=
  writeDuty .groutPump 0
    { s with grout := { s.grout with line := .fault, rate := 0, blockedPresent := false, blockedTimer := .stopped } }

end Sys2Proof.Machine
end

