-- ==== Sys2Proof/Machine/Muck.lean ====
section
/-! DEFINITION. The muck unit's own operations (chapter 8): chamber pressure, screw state, stall and feedback conditions, the
balance and its latches, ring close, role yield. -/
namespace Sys2Proof.Machine
open Sys2Proof

/-- The values of the valid chamber inputs (R131). -/
def Muck.validValues (m : Muck) : List Nat :=
  [m.chamber1, m.chamber2, m.chamber3].filterMap fun
    | .valid p => some p
    | .unseen | .failed => none

/-- The valid count (R131). -/
def Muck.validCount (m : Muck) : Nat := m.validValues.length

/-- The chamber pressure of the valid inputs, `none` when the count is 0 (R132). -/
def chamberPressureOf : List Nat → Option Nat
  | [x] => some x
  | [x, y] => some (halfUpMean (x + y) 2)
  | [x, y, z] => some (median x y z)
  | _ => none

/-- The stall and feedback conditions re-examined (R144). -/
def examineScrew (s : State) : State :=
  let carries := s.carriesDuty .screwSpeedOut
  let stall := decide (0 < s.muck.nOut) && carries
  let fb := decide (0 < s.muck.nS) && (s.muck.nOut == 0 || !carries)
  { s with muck := { s.muck with
      stallPresent := stall
      stallTimer := conditionTimer s.muck.stallPresent stall (s.timer s.cfg.screwStallTime) s.muck.stallTimer
      fbPresent := fb
      fbTimer := conditionTimer s.muck.fbPresent fb (s.timer s.cfg.screwFeedbackTime) s.muck.fbTimer } }

/-- The screw state table (R134). -/
def State.screwTable (s : State) : ScrewState :=
  if s.faults.screw.isSome then .fault
  else if s.events.stopped || s.table.mode == .standby || s.table.mode == .hold then .off
  else if s.muck.blind then .blind
  else .running

/-- A screw state taken (R134): entry to OFF sets the commands and the duty to 0; the conditions of R144 are re-examined at a
change. -/
def setScrew (st : ScrewState) (s : State) : State :=
  if st = s.muck.state then s
  else if st = .off then
    examineScrew (writeDuty .screwSpeedOut 0 { s with muck := { s.muck with state := .off, nCmd := 0, nOut := 0 } })
  else examineScrew { s with muck := { s.muck with state := st } }

/-- The screw state decision (R134), on a station in the SCREW role. -/
def decideScrew (s : State) : State := if s.holds .screw then setScrew s.screwTable s else s

/-- p_ch and the blind flag after a chamber conversion (R132); each change of the flag goes to the screw state decision. -/
def recomputeChamber (s : State) : State :=
  match chamberPressureOf s.muck.validValues with
  | some p =>
    if s.muck.blind then decideScrew { s with muck := { s.muck with pCh := p, blind := false } }
    else { s with muck := { s.muck with pCh := p } }
  | none => if s.muck.blind then s else decideScrew { s with muck := { s.muck with blind := true } }

/-- The overdig latch examined (R141). -/
def examineOverdig (s : State) : State :=
  if s.cfg.overThreshold < s.muck.balance ∧ s.muck.overdig = false then
    raiseEvent .overdig { s with muck := { s.muck with overdig := true } }
  else s

/-- The underdig latch examined (R141). -/
def examineUnderdig (s : State) : State :=
  if s.muck.balance < s.cfg.underThreshold ∧ s.muck.underdig = false then
    raiseEvent .underdig { s with muck := { s.muck with underdig := true } }
  else s

/-- The balance ratio computed and its latches examined (R141), while A_ring is at or above balance_min. -/
def recomputeBalance (s : State) : State :=
  if s.cfg.balanceMin ≤ s.adv.aRing ∧ 0 < s.muck.mExp then
    examineUnderdig (examineOverdig { s with muck := { s.muck with balance := balanceOf s.muck.mMeas s.muck.mExp } })
  else s

/-- A_ring and M_exp handed by the advance unit (R45, R141). -/
def takeExpectedMass (m : Nat) (s : State) : State :=
  if s.holds .screw then recomputeBalance { s with muck := { s.muck with mExp := m } } else s

/-- A ring close (R142). -/
def closeMuck (s : State) : State :=
  if s.holds .screw then
    { s with muck := { s.muck with mMeas := 0, balance := 0, overdig := false, underdig := false } }
  else s

/-- The muck unit leaves service: SILENT or a yield (R147). With n_out at 0 the feedback condition is present exactly while n_s
is above 0; its timer is stopped all the same, and starts again only when the condition becomes present anew (R144). -/
def silenceMuck (s : State) : State :=
  writeDuty .screwSpeedOut 0
    { s with muck := { s.muck with
        state := if s.muck.state == .fault then .fault else .off
        nCmd := 0
        nOut := 0
        stallPresent := false
        stallTimer := .stopped
        fbPresent := decide (0 < s.muck.nS)
        fbTimer := .stopped
        evalTimer := .stopped } }

/-- Entry of the screw into FAULT (R145); the feedback condition goes on being re-examined. -/
def faultScrew (s : State) : State :=
  examineScrew (writeDuty .screwSpeedOut 0 { s with muck := { s.muck with state := .fault, nCmd := 0, nOut := 0 } })

end Sys2Proof.Machine
end

