-- ==== Sys2Proof/Machine/Gates.lean ====
section
/-! DEFINITION. The gates of the output channels (R157, R158) and what their owners re-examine at a change (R123, R144). -/
namespace Sys2Proof.Machine
open Sys2Proof

/-- The gate of a channel is to be open: none of the causes of R157 holds. -/
def State.gateDue (s : State) (i : Fin 8) : Bool :=
  match (s.chCfg i).function.role with
  | some r =>
    (s.chCfg i).function.mode.gated && s.guard (s.chCfg i).guard && (s.faults.get r.job).isNone && !s.events.stopped
      && s.jobsRun && s.holds r
  | none => false

/-- The owner is handed a change of its gate (R158). -/
def gateChanged (f : ChFunction) (s : State) : State :=
  match f with
  | .groutPump => examineBlocked s
  | .screwSpeedOut => examineScrew s
  | .unused | .thrustExtend | .thrustRetract | .driveSpeedOut | .driveSpeedIn | .groutStroke | .greasePulse | .screwSpeedIn
  | .scalePulse => s

/-- One gate re-evaluated (R157, R158). -/
def refreshGate (i : Fin 8) (s : State) : State :=
  if s.gateDue i = (s.ch i).gate then s
  else if s.gateDue i then
    gateChanged (s.chCfg i).function (putChannel i ((s.ch i).opened (s.chCfg i) s.now) s)
  else gateChanged (s.chCfg i).function (putChannel i ((s.ch i).shut (s.chCfg i)) s)

/-- Every gate re-evaluated. -/
def refreshGates (s : State) : State :=
  refreshGate 7 (refreshGate 6 (refreshGate 5 (refreshGate 4 (refreshGate 3 (refreshGate 2 (refreshGate 1 (refreshGate 0 s)))))))

end Sys2Proof.Machine
end

