-- ==== Sys2Proof/Machine/Thrust.lean ====
section
/-! DEFINITION. The thrust unit's own operations (chapter 5): regime, forces and pressures, target, setpoint, valve duties,
seating, overpressure condition. -/
namespace Sys2Proof.Machine
open Sys2Proof

/-- The pressure of a target. -/
def ThrustTarget.pressure? : ThrustTarget → Option Nat
  | .none => Option.none
  | .push p | .hold p => some p

/-- The target is the hold pressure. -/
def ThrustTarget.isHold : ThrustTarget → Bool
  | .hold _ => true
  | .none | .push _ => false

/-- The pressure target of the shoe state and the regime (R81). -/
def State.targetDue (s : State) : ThrustTarget :=
  match s.shoe.state with
  | .engaged | .claiming => if s.thrust.regime = .push then .push s.thrust.pPush else .hold s.thrust.pHold
  | .retracting | .clear | .extending => .none

/-- Step 4 of R75: the target; the seated flag is cleared when the target stops being p_hold (R81). -/
def chooseTarget (s : State) : State :=
  { s with thrust := { s.thrust with target := s.targetDue, seated := s.thrust.seated && s.targetDue.isHold } }

/-- The regime decision (R76): the four conditions copied and the regime decided. -/
def decideRegime (s : State) : State :=
  { s with thrust := { s.thrust with causes := s.holdConditions, regime := regimeOf s.table.mode s.holdConditions } }

/-- The regime decision at a change of mode or of a condition (R76), with step 4 of R75, on a station in the THRUST role; after a
yield and in SILENT the thrust unit's state is left as it stood (R86 over R76, log 30). -/
def regimeEvent (s : State) : State :=
  if s.holds .thrust && s.port.backbone != .silent then chooseTarget (decideRegime s) else s

/-- Step 2 of R75: F_req, hold share and p_hold (R79, R80). -/
def computeHold (s : State) : State :=
  let fReq := requiredHoldForce s.cfg s.table.pRef
  let share := if s.engagedCount = 0 then s.thrust.share else roundHalfUp fReq s.engagedCount
  { s with thrust := { s.thrust with fReq := fReq, share := share, pHold := holdPressure s.cfg share } }

/-- Step 3 of R75: in PUSH the push force and pressure with the clamp flags (R77, R78), else the flags cleared. -/
def computePush (s : State) : State :=
  if s.thrust.regime = .push then
    let f0 := pushForce s.cfg s.setpoint
    let f := if s.thrust.causes.torqueDerate then deratedForce s.cfg f0 else f0
    let raw := rawPressure s.cfg f
    { s with thrust := { s.thrust with
        force := f
        pPush := clampToNat s.cfg.pFloor s.cfg.pCeiling raw
        floorClamp := decide (raw < s.cfg.pFloor)
        ceilClamp := decide ((s.cfg.pCeiling : Int) < raw) } }
  else { s with thrust := { s.thrust with floorClamp := false, ceilClamp := false } }

/-- The stepped setpoint (R82). -/
def Thrust.stepped (t : Thrust) (rampDp : Nat) : Nat :=
  match t.target with
  | .none => t.pSet
  | .push p => stepToward t.pSet p rampDp
  | .hold p => if t.seated ∧ p < t.pSet then p else stepToward t.pSet p rampDp

/-- Step 5 of R75: the setpoint step and the seating that follows it (R82). -/
def stepSetpoint (s : State) : State :=
  let p := s.thrust.stepped s.cfg.rampDp
  let seated := match s.thrust.target with
    | .hold h => s.thrust.seated || decide (p ≤ h)
    | .none | .push _ => s.thrust.seated
  { s with thrust := { s.thrust with pSet := p, seated := seated } }

/-- Step 6 of R75: the valve duties, while there is a target (R84). -/
def writeValves (s : State) : State :=
  if s.thrust.target = .none then s
  else writeDuty .thrustRetract 0 (writeDuty .thrustExtend (dutyOf s.thrust.pSet s.cfg.pFull) s)

/-- The setpoint seated on the group pressure (R83), with steps 4 and 6 of R75. -/
def seatSetpoint (s : State) : State :=
  writeValves (chooseTarget
    { s with thrust := { s.thrust with pSet := clampNat s.cfg.pFloor s.cfg.pCeiling s.thrust.pressure, seated := false } })

/-- The thrust unit gives up its target as the ring-build controller takes the valves (R81, R98). -/
def releaseTarget (s : State) : State := { s with thrust := { s.thrust with target := .none, seated := false } }

/-- The overpressure condition re-examined (R87); its confirmation time is 1,000 ms. -/
def examineThrustPressure (s : State) : State :=
  let present := decide (s.cfg.pCeiling + 100 < s.thrust.pressure)
  { s with thrust := { s.thrust with
      opPresent := present
      opTimer := conditionTimer s.thrust.opPresent present (s.timer 1000) s.thrust.opTimer } }

/-- Entry of the thrust job into FAULT (R88). -/
def faultThrust (s : State) : State :=
  writeDuty .thrustRetract 0 (writeDuty .thrustExtend 0
    { s with thrust := { s.thrust with pSet := 0, seated := false, target := .none } })

end Sys2Proof.Machine
end

