-- ==== Sys2Proof/Machine/Shoe.lean ====
section
/-! DEFINITION. The ring-build controller's own operations (chapter 6): claims, the hold-off tests, retraction, extension,
aborts, stop and resume, faults, yield. -/
namespace Sys2Proof.Machine
open Sys2Proof

/-- The ring-build controller acts (R91). -/
def State.shoeActs (s : State) : Bool := s.holds .thrust && s.jobsRun

/-- The ring-build controller takes transitions: it acts and is not frozen by STOPPED (R91, R103). -/
def State.shoeMoves (s : State) : Bool := s.shoeActs && !s.events.stopped

/-- The build step it supplies for a THRUST fault (R101). -/
def State.claimStep (s : State) : Nat :=
  match s.shoe.claim with
  | some c => c.step
  | none => 0

/-- The placed flag of a claim in progress is set. -/
def Shoe.placed (sh : Shoe) : Bool :=
  match sh.claim with
  | some c => c.placed
  | none => false

/-- A BUILD matches the claim in progress (R94). -/
def Shoe.matched (sh : Shoe) (b : BuildBody) : Bool :=
  match sh.claim with
  | some c => b.ring == c.ring && b.step == c.step && b.sector == c.sector
  | none => false

/-- The placed flag set on the claim in progress. -/
def Shoe.markPlaced (sh : Shoe) : Shoe := { sh with claim := sh.claim.map fun c => { c with placed := true } }

/-- The valves of an extension: the shoe set pressure on the extend valve (R99). -/
def writeExtendDuties (s : State) : State :=
  writeDuty .thrustRetract 0 (writeDuty .thrustExtend (dutyOf s.cfg.pShoe s.cfg.pFull) s)

/-- Entry to EXTENDING (R99); CLAIM_ACTIVE is handed to its gates at this change, after the duties (R156, R158, log 33). -/
def enterExtending (s : State) : State :=
  refreshGates (writeExtendDuties
    { s with shoe := { s.shoe with state := .extending, retract := .stopped, extend := s.timer s.cfg.extendTimeout } })

/-- Entry to CLEAR from RETRACTING (R98), moved on when the placed flag is already set (R99). -/
def enterClear (s : State) : State :=
  let s1 := writeDuty .thrustRetract 0 (writeDuty .thrustExtend 0
    { s with shoe := { s.shoe with state := .clear, retract := .stopped } })
  if s.shoe.placed then enterExtending s1 else s1

/-- The retract target (R98): the stroke at entry less the clearance, or 0. -/
def State.retractTarget (s : State) : Nat :=
  match s.shoe.claim with
  | some c => c.strokeAtEntry.getD 0 - s.cfg.retractClearance
  | none => 0

/-- The comparison of R98 in RETRACTING. -/
def checkRetracted (s : State) : State :=
  if s.shoe.state = .retracting ∧ s.adv.stroke ≤ s.retractTarget then enterClear s else s

/-- Entry to RETRACTING (R98). CLAIM_ACTIVE is handed to its gates at this change, after the duties and before the comparison at
the entry (R156, R158, log 33). -/
def enterRetracting (s : State) : State :=
  checkRetracted (refreshGates (writeDuty .thrustRetract s.cfg.retractDuty (writeDuty .thrustExtend 0 (releaseTarget
    { s with shoe := { s.shoe with
        state := .retracting
        claim := s.shoe.claim.map fun c => { c with strokeAtEntry := some s.adv.stroke }
        wait := .none
        holdOff := .stopped
        waitTimer := .stopped
        retract := s.timer s.cfg.retractTimeout } }))))

/-- The first failing test of the hold-off, NONE when every test passes (R95). -/
def State.firstFailing (s : State) : WaitReason :=
  if 1 ≤ s.neighbourBlock then .adjacent
  else if s.cfg.retractLimit ≤ s.retractedCount then .limit
  else if s.priorityBlock then .priority
  else if s.engagedCeilingSum < s.thrust.fReq then .holdShort
  else .none

/-- The hold-off tests (R95). -/
def testClaim (s : State) : State :=
  if s.firstFailing = .none then enterRetracting s
  else { s with shoe := { s.shoe with wait := s.firstFailing, holdOff := s.timer s.cfg.effectiveHoldoff } }

/-- A CLAIM from another station refreshes the wait reason (R96). -/
def refreshWait (s : State) : State :=
  if s.shoeMoves && s.shoe.state == .claiming then { s with shoe := { s.shoe with wait := s.firstFailing } } else s

/-- A claim released from CLAIMING (R97, R102). -/
def releaseClaim (s : State) : State :=
  { s with shoe := { s.shoe with
      state := .engaged, claim := none, wait := .none, holdOff := .stopped, waitTimer := .stopped } }

/-- The wait timer expires in CLAIMING: the step is expired (R97). -/
def expireClaim (s : State) : State :=
  raiseEvent .claimExpired (releaseClaim
    { s with shoe := { s.shoe with
        expired := if s.shoe.expired.contains s.claimStep then s.shoe.expired else s.shoe.expired ++ [s.claimStep] } })

/-- The last step served after a completion (R100). -/
def State.servedAfter (s : State) : Nat :=
  match s.shoe.claim with
  | some c => if c.placed && c.ring == s.adv.ring then c.step else s.shoe.lastServed
  | none => s.shoe.lastServed

/-- EXTENDING completes (R100), with the seating of R83. -/
def completeExtending (s : State) : State :=
  seatSetpoint
    { s with shoe := { s.shoe with state := .engaged, extend := .stopped, lastServed := s.servedAfter, claim := none } }

/-- The start decision (R109) at the first group pressure delivered with a value. -/
def startDecision (s : State) : State :=
  let s1 := { s with shoe := { s.shoe with decisionPending := false } }
  if s.cfg.pShoe ≤ s.thrust.pressure then seatSetpoint { s1 with shoe := { s1.shoe with state := .engaged } }
  else if s.jobsRun && !s.events.stopped then
    writeExtendDuties { s1 with shoe := { s1.shoe with extend := s.timer s.cfg.extendTimeout } }
  else writeExtendDuties s1

/-- A group pressure delivered with a value reaches the ring-build controller (R74, R100, R109). -/
def shoePressure (s : State) : State :=
  if s.holds .thrust && s.shoe.decisionPending then startDecision s
  else if s.shoeMoves && s.shoe.state == .extending && decide (s.cfg.pShoe ≤ s.thrust.pressure) then completeExtending s
  else s

/-- A STROKE sample delivered with a value reaches the ring-build controller (R98). -/
def shoeStroke (s : State) : State := if s.shoeMoves then checkRetracted s else s

/-- A BUILD can be claimed (R93). -/
def State.claimable (s : State) (b : BuildBody) : Bool :=
  s.table.mode == .build && s.port.backbone == .online && b.phase == .place && s.cfg.sector == some b.sector
    && b.ring == s.adv.ring && decide (s.shoe.lastServed < b.step) && !s.shoe.expired.contains b.step

/-- A claim created (R93). -/
def createClaim (b : BuildBody) (s : State) : State :=
  { s with shoe := { s.shoe with
      state := .claiming
      claim := some ⟨b.ring, b.step, b.sector, none, false⟩
      wait := .none
      holdOff := s.timer s.cfg.effectiveHoldoff
      waitTimer := s.timer s.cfg.waitTime } }

/-- A BUILD handed to the ring-build controller (R93, R94); while the THRUST record is held CLEAR does not move (R105). -/
def takeBuild (b : BuildBody) (s : State) : State :=
  if s.shoeMoves then
    match s.shoe.state with
    | .engaged => if s.claimable b then createClaim b s else s
    | .claiming => s
    | .retracting | .extending =>
      if b.phase == .placed && s.shoe.matched b then { s with shoe := s.shoe.markPlaced } else s
    | .clear =>
      if b.phase == .placed && s.shoe.matched b then
        if s.faults.thrust.isSome then { s with shoe := s.shoe.markPlaced }
        else enterExtending { s with shoe := s.shoe.markPlaced }
      else s
  else s

/-- An abort by shoe state (R102). -/
def abortByState (s : State) : State :=
  match s.shoe.state with
  | .engaged | .extending => s
  | .claiming => releaseClaim s
  | .retracting => enterExtending s
  | .clear => if s.faults.thrust.isSome then s else enterExtending s

/-- An abort event (R102): nothing while STOPPED is set (R103). -/
def abortBuild (s : State) : State := if s.shoeMoves then abortByState s else s

/-- STOPPED set (R103): timers stopped, the wait timer paused. -/
def freezeShoe (s : State) : State :=
  { s with shoe := { s.shoe with
      holdOff := .stopped, retract := .stopped, extend := .stopped, waitTimer := s.shoe.waitTimer.pausedAt s.now } }

/-- Step 1 of R104. -/
def resumePlaced (s : State) : State :=
  match s.table.console.build.content with
  | some b => if b.phase == .placed && s.shoe.matched b then { s with shoe := s.shoe.markPlaced } else s
  | none => s

/-- Step 2 of R104. -/
def resumeAbort (s : State) : State :=
  if s.table.mode ≠ .build ∨ s.port.backbone = .isolated then abortByState s else s

/-- Step 3 of R104. -/
def resumeState (s : State) : State :=
  match s.shoe.state with
  | .engaged => s
  | .claiming =>
    { s with shoe := { s.shoe with
        holdOff := s.timer s.cfg.effectiveHoldoff, waitTimer := s.shoe.waitTimer.resumedAt s.now } }
  | .retracting => enterExtending s
  | .clear => if s.shoe.placed && s.faults.thrust.isNone then enterExtending s else s
  | .extending =>
    if s.shoe.decisionPending then s else { s with shoe := { s.shoe with extend := s.timer s.cfg.extendTimeout } }

/-- STOPPED cleared on RESUME (R104). -/
def resumeShoe (s : State) : State := if s.shoeActs then resumeState (resumeAbort (resumePlaced s)) else s

/-- A THRUST fault handed to the ring-build controller (R105): CLEAR from whatever state, and CLAIM due with CLEAR, in CLEAR already
too (log 34 where its timer is stopped). -/
def faultShoe (s : State) : State :=
  { s with
    shoe := { s.shoe with
      state := .clear
      wait := .none
      decisionPending := false
      holdOff := .stopped
      waitTimer := .stopped
      retract := .stopped
      extend := .stopped }
    port := { s.port with claimDue := true } }

/-- An accepted CLEAR_FAULT of the THRUST job (R106); while STOPPED is set the shoe stays CLEAR. -/
def clearShoeFault (s : State) : State :=
  if s.shoeMoves && s.shoe.state == .clear then enterExtending s else s

/-- The four timers stopped, everything else as it stood: SILENT or a yield (R91). -/
def stopShoeTimers (s : State) : State :=
  { s with shoe := { s.shoe with holdOff := .stopped, waitTimer := .stopped, retract := .stopped, extend := .stopped } }

/-- A ring close or jump (R107), taken in JOINING too (log 13). -/
def closeShoe (s : State) : State :=
  if s.holds .thrust then { s with shoe := { s.shoe with lastServed := 0, expired := [] } } else s

/-- The extend timer of a start decision taken before the backbone left JOINING (R91, R109). -/
def startPendingExtend (s : State) : State :=
  if s.holds .thrust && s.shoe.state == .extending && !s.shoe.decisionPending && !s.events.stopped then
    { s with shoe := { s.shoe with extend := s.timer s.cfg.extendTimeout } }
  else s

end Sys2Proof.Machine
end

