-- ==== Sys2Proof/Machine/Advance.lean ====
section
/-! DEFINITION. The advance unit (R37 to R46, R51, R52) and what a change of the peer table hands to the blocks: the reference
pressure (R33), the machine advance (R40), the grout weight (R28), the hold causes (R34) and the gates (R156). -/
namespace Sys2Proof.Machine
open Sys2Proof

/-- The grease triggers of a new A_ring (R51). -/
def issueGrease (s : State) : State :=
  let due := s.adv.aRing / s.cfg.greaseStep - s.adv.grease
  let s1 := { s with adv := { s.adv with grease := s.adv.grease + due } }
  if s.holds .grout then greaseTriggers due s1 else s1

/-- The record milestones of a new A_ring (R52). -/
def countMilestone (s : State) : State :=
  let q := s.adv.aRing / s.cfg.recordStep
  if s.adv.milestones < q then triggerSave { s with adv := { s.adv with milestones := q } } else s

/-- A_ring takes a new value (R41): V and M_exp, the hand-offs, the triggers and the milestones (R43 to R45, R51, R52). -/
def setARing (x : Nat) (s : State) : State :=
  let v := voidOf s.cfg x
  let m := expectedMass s.cfg x
  countMilestone (issueGrease (takeExpectedMass m (takeVoid v
    { s with adv := { s.adv with aRing := x, void := v, mExp := m } })))

/-- The update of R41 from A as it stands, in EXCAVATE. -/
def updateARing (s : State) : State :=
  if s.table.mode = .excavate ∧ s.adv.aRing < s.adv.machineA then setARing s.adv.machineA s else s

/-- The machine advance of a contributing set; with none it holds (R40). -/
def machineAdvanceOf (set : List ThrustBody) (before : Nat) : Nat :=
  if set.length = 0 then before else halfUpMean (set.map (·.advance)).sum set.length

/-- A recomputed (R40), with the update of A_ring (R41). In OFFLINE and SILENT A does not change (R54), though slots go on
expiring there (log 29). -/
def recomputeAdvance (s : State) : State :=
  if s.onBackbone then
    updateARing { s with adv := { s.adv with machineA := machineAdvanceOf s.contributingThrust s.adv.machineA } }
  else s

/-- p_ref takes a value in a state (R33); a new value recomputes the grout band, in every job state and after a yield of GROUT
too (R119, R124). -/
def setReference (st : RefState) (p : Nat) (timer : Timer) (s : State) : State :=
  let s1 := { s with table := { s.table with refState := st, pRef := p, staleTimer := timer } }
  if p = s.table.pRef then s1 else recomputeBand s1

/-- The reference chamber pressure recomputed (R33). -/
def refreshReference (s : State) : State :=
  match s.screwSource with
  | some b => setReference .fresh b.pCh .stopped s
  | none =>
    if s.table.refState = .fresh then setReference .stale s.table.pRef (s.timer (10 * s.cfg.lapseTime)) s else s

/-- The live grout weight handed on when it takes a new value (R28). -/
def refreshWeight (s : State) : State := takeWeight s.liveWeight s

/-- A change of a condition of R34 reaches the thrust unit (R76). -/
def refreshCauses (s : State) : State := if s.holdConditions = s.thrust.causes then s else regimeEvent s

/-- Everything a change of the peer table, of the own ring number or of a role can change (section 2.3). Where one change gives
both a new V and a new W, the grout unit is handed V first (log 28). A duty that the change writes is written before the gates it
opens (log 33). -/
def tableChanged (s : State) : State :=
  refreshGates (refreshCauses (refreshWeight (recomputeAdvance (refreshReference s))))

/-! ## The STOPPED latch, the effective mode, ISOLATED -/

/-- The STOPPED latch is set (R165); a setting while it is set changes nothing. -/
def setStopped (s : State) : State :=
  if s.events.stopped then s
  else refreshGates (triggerSave (decideScrew (decideLine (freezeShoe
    { s with events := { s.events with stopped := true } }))))

/-- An accepted RESUME (R166): the gates, then the jobs, as the rule orders them, then the gates for what the jobs changed. -/
def clearStopped (s : State) : State :=
  refreshGates (decideScrew (decideLine (resumeShoe (refreshGates
    { s with events := { s.events with stopped := false } }))))

/-- The effective mode takes a value (R24); at a change to EXCAVATE A_ring takes A as it stands, also where the MODE has just closed
the ring and peers in the new ring have moved A from 0 (R42, log 37). A change is handed to the advance unit (R42), the jobs and the guards. The jobs write
their duties before the gates are re-evaluated (R157, R158, log 33). -/
def setMode (m : EffMode) (s : State) : State :=
  if m = s.table.mode then s
  else
    let s1 := regimeEvent (decideScrew (decideLine (updateARing { s with table := { s.table with mode := m } })))
    refreshGates (if m = .build then s1 else abortBuild s1)

/-- The backbone state changes between ONLINE and ISOLATED, or leaves JOINING for one of them (R15, R16, R102, R157); the line
state is decided at a change between ONLINE and ISOLATED only (R118), before the abort and the gates (log 33). -/
def setBackbone (b : Backbone) (s : State) : State :=
  let s1 := { s with port := { s.port with backbone := b } }
  let s2 := if s.jobsRun then decideLine s1 else s1
  refreshGates (if b = .isolated then abortBuild s2 else s2)

end Sys2Proof.Machine
end

