-- ==== Sys2Proof/Machine/Faults.lean ====
section
/-! DEFINITION. Faults raised, taken and cleared (R159 to R161), with each job's entry into FAULT and its return. -/
namespace Sys2Proof.Machine
open Sys2Proof

/-- Entry of the drive into FAULT (R71), in SILENT too (DEDUCED, log 45). -/
def faultDrive (s : State) : State :=
  writeDuty .driveSpeedOut 0
    { s with drive := { s.drive with
        state := .fault, nSet := 0, trim := 0, cmd := 0, stallPresent := false, stallTimer := .stopped } }

/-- A job enters FAULT (R71, R88 with R105, R125, R145); a STATION fault has no entry of its own. -/
def enterFault (j : Job) (s : State) : State :=
  match j with
  | .station => s
  | .thrust => faultShoe (faultThrust s)
  | .grout => faultGrout s
  | .drive => faultDrive s
  | .screw => faultScrew s

/-- The build step of a fault record (R159, R101). -/
def State.faultStep (s : State) (j : Job) : Nat :=
  match j with
  | .thrust => s.claimStep
  | .station | .grout | .drive | .screw =>
    match s.table.console.build.content with
    | some b => if s.table.mode == .build && b.ring == s.adv.ring then b.step else 0
    | none => 0

/-- A fault is raised (R160): an empty record is filled and the job enters FAULT; a held one counts it. It is taken in every
backbone state: in SILENT a job still enters FAULT, though R72 leaves the drive's state, n_set and command, and R86 the thrust
unit's state, as they stood until the next start (DEDUCED, log 45). -/
def raiseFault (j : Job) (c : FaultCause) (value : Int) (s : State) : State :=
  match s.faults.get j with
  | none =>
    refreshGates (enterFault j (faultAreaChanged
      { s with faults := s.faults.put j (some ⟨c, value, s.adv.ring, s.faultStep j, 0⟩) }))
  | some r =>
    if r.later < 255 then faultAreaChanged { s with faults := s.faults.put j (some { r with later := r.later + 1 }) }
    else s

/-- The first cause of a held record is still present (R71, R88, R101, R126, R145); a STATION cause always is (R161). -/
def State.stillPresent (s : State) (j : Job) (c : FaultCause) : Bool :=
  match j, c with
  | .station, _ => true
  | .thrust, .overpressure => s.thrust.opPresent
  | .thrust, .inputLost => s.inputFailed .stroke || s.inputFailed .groupPressure
  | .grout, .overpressure => s.grout.opPresent
  | .grout, .inputLost => s.inputFailed .linePressure
  | .drive, .stall => decide (s.cfg.stallTorque ≤ s.drive.tau)
  | .drive, .overspeed => s.drive.overspeed
  | .drive, .inputLost => s.inputFailed .torqueA || s.inputFailed .torqueB
  | .screw, .inputLost => s.muck.fbPresent
  | _, _ => false

/-- A job goes to its rest state at an accepted clear (R161 step 2). -/
def leaveFault (j : Job) (s : State) : State :=
  match j with
  | .station => s
  | .thrust => clearShoeFault s
  | .grout => examineBlocked { s with grout := { s.grout with line := .idle } }
  | .drive => { s with drive := { s.drive with state := .off, nSet := 0 } }
  | .screw => examineScrew { s with muck := { s.muck with state := .off } }

/-- An accepted clear (R161): the record emptied, the job at rest, the gates re-evaluated. -/
def acceptClear (j : Job) (s : State) : State :=
  refreshGates (leaveFault j (faultAreaChanged { s with faults := s.faults.put j none }))

/-- CLEAR_FAULT handed to the fault and event unit (R161). -/
def clearJobFault (j : Job) (s : State) : State :=
  match s.faults.get j with
  | none => s
  | some r => if s.stillPresent j r.cause then raiseEvent .clearRefused s else acceptClear j s

end Sys2Proof.Machine
end

