-- ==== Sys2Proof/Machine/Ops.lean ====
section
/-! DEFINITION. Publication: what each bulletin carries, the transmit queue, the publication timers and the publications an event
makes for its changes (R10 to R13, R23); and how every event ends. -/
namespace Sys2Proof.Machine
open Sys2Proof

/-! ## One value per kind -/

def PerKind.get {α : Type} (p : PerKind α) : OwnKind → α
  | .stop => p.stop
  | .claim => p.claim
  | .thrust => p.thrust
  | .drive => p.drive
  | .screw => p.screw
  | .grout => p.grout
  | .status => p.status
  | .id => p.id

def PerKind.put {α : Type} (p : PerKind α) (k : OwnKind) (x : α) : PerKind α :=
  match k with
  | .stop => { p with stop := x }
  | .claim => { p with claim := x }
  | .thrust => { p with thrust := x }
  | .drive => { p with drive := x }
  | .screw => { p with screw := x }
  | .grout => { p with grout := x }
  | .status => { p with status := x }
  | .id => { p with id := x }

/-! ## Contents (R6, R55, R67, R85, R92, R122, R143) -/

def State.claimBody (s : State) : ClaimBody :=
  match s.shoe.claim with
  | some c => ⟨c.ring, c.step, s.sectorCode, s.shoe.state, s.shoe.wait⟩
  | none => ⟨s.adv.ring, s.shoe.lastServed, s.sectorCode, s.shoe.state, .none⟩

def State.thrustBody (s : State) : ThrustBody where
  ring := s.adv.ring
  strokeValid := s.adv.strokeValid
  stroke := s.adv.stroke
  advance := s.adv.advance
  causes := s.thrust.causes
  pressure := s.thrust.pressure
  ceiling := s.cfg.forceCeiling
  floorClamp := s.thrust.floorClamp
  ceilClamp := s.thrust.ceilClamp
  regime := s.thrust.regime.code
  pSet := s.thrust.pSet

def State.driveBody (s : State) : DriveBody :=
  ⟨s.drive.state, s.drive.dir, s.drive.torqueHigh, s.drive.nFb, s.drive.tau, s.drive.cmd⟩

def State.screwBody (s : State) : ScrewBody :=
  ⟨s.adv.ring, s.muck.pCh, s.muck.nOut, s.muck.balance, s.muck.validCount, s.muck.blind, s.muck.overdig, s.muck.underdig⟩

def State.groutBody (s : State) : GroutBody :=
  ⟨s.adv.ring, s.cfg.weight, s.grout.holdRequest, s.grout.line, s.grout.delivered, s.grout.deficit⟩

/-- Job states are sent as 0 for a role not held (R6); a yielded role is not held (log 11). -/
def State.statusBody (s : State) : StatusBody where
  backbone := s.port.backbone
  stopped := s.events.stopped
  drive := if s.holds .drive then s.drive.state else .off
  shoe := if s.holds .thrust then s.shoe.state else .engaged
  screw := if s.holds .screw then s.muck.state else .off
  line := if s.holds .grout then s.grout.line else .off
  flags := s.events.flags
  causeStation := s.faults.code .station
  causeThrust := s.faults.code .thrust
  causeGrout := s.faults.code .grout
  causeDrive := s.faults.code .drive
  causeScrew := s.faults.code .screw
  ring := s.adv.ring
  failures := s.port.failures
  rejected := s.port.rejected

def State.idBody (s : State) : IdBody where
  station := s.boot.station
  roles := s.effectiveRoles
  sector := s.sectorCode
  weight := if s.holds .grout then s.cfg.weight else 0
  digest := s.boot.digest
  startKind := s.boot.startKind

/-- The content of a kind from the state of its owning block at this moment (R10). -/
def State.content (s : State) : OwnKind → Bulletin
  | .stop => .stop ⟨.localInput⟩
  | .claim => .claim s.claimBody
  | .thrust => .thrust s.thrustBody
  | .drive => .drive s.driveBody
  | .screw => .screw s.screwBody
  | .grout => .grout s.groutBody
  | .status => .status s.statusBody
  | .id => .id s.idBody

/-- A content reduced to its change fields (R11): measured and computed quantities at 0. -/
def changePart : Bulletin → Bulletin
  | .thrust b => .thrust { b with stroke := 0, advance := 0, pressure := 0, ceiling := 0, pSet := 0 }
  | .drive b => .drive { b with nFb := 0, tau := 0, cmd := 0 }
  | .screw b => .screw { b with pCh := 0, nOut := 0, balance := 0 }
  | .grout b => .grout { b with delivered := 0, deficit := 0 }
  | .status b => .status { b with failures := 0, rejected := 0 }
  | .id b => .id ⟨0, b.roles, 0, 0, 0#16, .powerOn⟩
  | .stop b => .stop b
  | .claim b => .claim b
  | .build b => .build b
  | .mode b => .mode b
  | .setpoint b => .setpoint b
  | .service b => .service b

/-! ## The transmit queue (R12, R13) -/

/-- The kind code of the frame on the line. -/
def Port.onLineCode (p : Port) : Option Nat := p.onLine.map (·.kindCode)

/-- A content enqueued (R12): inserted at its code's place, replaced in place, or written with the renewed mark while the
frame of its kind is on the line. A mark that an entry still carries after a lost arbitration stands when its content is replaced
(log 36). -/
def enqueueBody (b : Bulletin) (onLine : Option Nat) : List TxEntry → List TxEntry
  | [] => [⟨b, false, false⟩]
  | e :: rest =>
    if b.code < e.body.code then ⟨b, false, false⟩ :: e :: rest
    else if b.code = e.body.code then ⟨b, e.renewed || onLine == some b.code, false⟩ :: rest
    else e :: enqueueBody b onLine rest

/-- The queue when a role is yielded or the stop input is released (R10): the entry of the kind is removed, or marked to be
removed when its frame ends. -/
def dropKind (code : Nat) (onLine : Option Nat) (q : List TxEntry) : List TxEntry :=
  if onLine = some code then q.map fun e => if e.body.code = code then { e with dropped := true } else e
  else q.filter fun e => e.body.code != code

/-- The queue after the frame of a kind lost arbitration (R2, R13): its entry is not altered by the loss; one to be dropped at
the end of its frame goes (R10, log 19). -/
def afterLost (code : Nat) (q : List TxEntry) : List TxEntry := q.filter fun e => !(e.body.code == code && e.dropped)

/-- The queue after the frame of a kind was sent or failed (R13): a renewed entry stays, any other is removed. -/
def afterEnd (code : Nat) (q : List TxEntry) : List TxEntry :=
  (q.filter fun e => e.body.code != code || (e.renewed && !e.dropped)).map fun e =>
    if e.body.code = code then { e with renewed := false } else e

/-! ## Publication -/

/-- The publication timer of a kind is to run (R10). -/
def State.pubDue (s : State) : OwnKind → Bool
  | .id | .status => s.onBackbone
  | .stop => s.pins.stopInput && s.onBackbone
  | .claim | .thrust => s.holds .thrust && s.jobsRun
  | .grout => s.holds .grout && s.jobsRun
  | .drive => s.holds .drive && s.jobsRun
  | .screw => s.holds .screw && s.jobsRun

/-- One publication timer started or stopped with its condition (R10). -/
def refreshPubTimer (k : OwnKind) (s : State) : State :=
  let t := s.port.pubTimer.get k
  if s.pubDue k = t.on then s
  else if s.pubDue k then
    { s with port := { s.port with pubTimer := s.port.pubTimer.put k (s.timer (s.cfg.period k)) } }
  else
    { s with port := { s.port with
        pubTimer := s.port.pubTimer.put k .stopped, queue := dropKind k.code s.port.onLineCode s.port.queue } }

/-- Every publication timer started or stopped with its condition. -/
def refreshPubTimers (s : State) : State :=
  refreshPubTimer .id (refreshPubTimer .status (refreshPubTimer .grout (refreshPubTimer .screw (refreshPubTimer .drive
    (refreshPubTimer .thrust (refreshPubTimer .claim (refreshPubTimer .stop s)))))))

/-- A content taken into the own entry (R23); an own STOP sets the STOPPED latch (R165). -/
def writeOwn (b : Bulletin) (s : State) : State :=
  let s1 := tableChanged (putOwnEntry (s.ownEntry.write (s.timer s.cfg.lapseTime) b) s)
  match b with
  | .stop _ => setStopped s1
  | _ => s1

/-- A content enqueued and the timer of its kind restarted with a full period (R11, R12). -/
def enqueueKind (k : OwnKind) (b : Bulletin) (s : State) : State :=
  { s with port := { s.port with
      queue := enqueueBody b s.port.onLineCode s.port.queue
      pubTimer := s.port.pubTimer.put k
        (if (s.port.pubTimer.get k).on then s.timer (s.cfg.period k) else s.port.pubTimer.get k)
      seen := s.port.seen.put k (some (changePart b)) } }

/-- A kind is published (R10, R12); refused with no effect in OFFLINE and SILENT. -/
def publish (k : OwnKind) (s : State) : State :=
  if s.onBackbone then enqueueKind k (s.content k) (writeOwn (s.content k) s) else s

/-- A change field of the kind has taken a new value, a raised flag makes STATUS due, or a THRUST fault CLAIM (R11, R105, R162). -/
def State.changeDue (s : State) (k : OwnKind) : Bool :=
  s.port.seen.get k != some (changePart (s.content k)) || (k == .status && s.port.statusDue) || (k == .claim && s.port.claimDue)

/-- The change fields of a kind examined. -/
def markSeen (k : OwnKind) (s : State) : State :=
  { s with port := { s.port with
      seen := s.port.seen.put k (some (changePart (s.content k)))
      statusDue := if k = .status then false else s.port.statusDue
      claimDue := if k = .claim then false else s.port.claimDue } }

/-- A kind published for a change, while its timer runs (R11); a publication that a rule of a job asks for comes through here
too, and is made under the same condition (log 34). -/
def publishIfChanged (k : OwnKind) (s : State) : State :=
  if s.changeDue k then
    if (s.port.pubTimer.get k).on then publish k (markSeen k s) else markSeen k s
  else s

/-- Each kind with change fields examined once, in ascending code; STOP has none. -/
def publishRound (s : State) : State :=
  publishIfChanged .id (publishIfChanged .status (publishIfChanged .grout (publishIfChanged .screw (publishIfChanged .drive
    (publishIfChanged .thrust (publishIfChanged .claim s))))))

/-- The publications an event makes for its changes, and for the changes those make in the own view (log 5). -/
def settle (s : State) : State := publishRound (publishRound (publishRound (publishRound s)))

/-- The end of every event: publications for changes, gates and alarm as the state then stands. -/
def finish (s : State) : State := refreshAlarm (refreshGates (settle s))

end Sys2Proof.Machine
end

