-- ==== Sys2Proof/Machine/Starting.lean ====
section
/-! DEFINITION. Starts (R167, R168), the acceptance of the configuration (R170), the restore of the ring record (R174) and the
join (R15): POWER_ON, LINE_RESET, RESET_ASSERTED, CONFIG_READ_COMPLETE, RING_RECORD_READ_COMPLETE, JOIN_TIMER_EXPIRY, and the
start RESTART makes. -/
namespace Sys2Proof.Machine
open Sys2Proof

/-- How every event is answered: its effect, then its end. -/
def answer (s : State) : Host.Outcome State Fault Refusal := .next (finish s)

/-- An event that cannot occur in this state has no effect (log 1). -/
def noEffect (s : State) : Host.Outcome State Fault Refusal := .next s

/-- A change of the fault records made as the reset pin went low, whose write the release starts with (R159, log 9). -/
def State.heldChange (s : State) (kind : StartKind) : Bool :=
  kind == .lineReset && s.boot.phase == .held && s.mem.faultPending

/-- The station at the values of a start (R167); a change of the fault records is a change of the fault area (R159, log 9). -/
def startStation (kind : StartKind) (phase : BootPhase) (straps : BitVec 4) (faults : FaultRecords) (flags : Word16)
    (mem : MemPort) (s : State) : State :=
  let s1 := State.startValues kind phase straps s.cfg s.boot.digest faults flags s.pins mem s.now s.pending
  if s1.faults = s.faults ∧ s.heldChange kind = false then s1 else faultAreaChanged s1

/-- Step 3 of a start with a bad configuration (R168). -/
def configBad (s : State) : State :=
  raiseFault .station .configBad 0 { s with boot := { s.boot with phase := .bad, accepted := false } }

/-- The output pins from the acceptance on (R151, R157). -/
def restPins (s : State) : State :=
  let set (i : Fin 8) (s : State) : State := putChannel i { s.ch i with high := restLevel (s.chCfg i) } s
  set 7 (set 6 (set 5 (set 4 (set 3 (set 2 (set 1 (set 0 s)))))))

/-- The start values that depend on the configuration (R33, R89, R127, R146). -/
def configStartValues (s : State) : State :=
  { s with
    table := { s.table with pRef := s.cfg.pRefFallback }
    thrust := Thrust.start s.cfg
    grout := Grout.start s.cfg s.faults.grout.isSome
    muck := Muck.start s.cfg s.faults.screw.isSome }

/-- Step 3 of a start with a good configuration (R168): accepted; converter, channels, gates and stop input are started. -/
def acceptConfig (s : State) : State :=
  let s1 := configStartValues { s with boot := { s.boot with
    accepted := true, phase := if s.mem.inFlight.isSome then .waitingWrite else .readingRecord } }
  let s2 := refreshGates (restPins { s1 with converting := inputIndices.find? s1.scanned })
  if s2.pins.stopInput then setStopped s2 else s2

/-- POWER_ON (R167): records and flags emptied, a write in flight cut off. While the reset pin is low the station is held. -/
def execPowerOn (straps : BitVec 4) (s : State) : Host.Outcome State Fault Refusal :=
  answer (startStation .powerOn (if s.pins.resetLow then .held else .readingConfig) straps FaultRecords.empty 0#16
    s.mem.cutOff s)

/-- LINE_RESET (R167): job records and flags kept, a write in flight cut off. -/
def execLineReset (straps : BitVec 4) (s : State) : Host.Outcome State Fault Refusal :=
  answer (startStation .lineReset .readingConfig straps { s.faults with station := none } s.events.flags s.mem.cutOff
    { s with pins := { s.pins with resetLow := false } })

/-- RESET_ASSERTED (R167): held at the start values, no configuration accepted, outputs LOW, alarm active. -/
def execResetAsserted (s : State) : Host.Outcome State Fault Refusal :=
  answer (startStation .lineReset .held s.pins.straps { s.faults with station := none } s.events.flags s.mem.cutOff
    { s with pins := { s.pins with resetLow := true } })

/-- The start a RESTART makes (R167, R168): configuration, job records and flags kept, a write in flight left to complete; of
the tests of R170 the station number's alone is taken again. -/
def restartStation (straps : BitVec 4) (s : State) : State :=
  let s1 := startStation .restart .readingConfig straps { s.faults with station := none } s.events.flags s.mem s
  if straps = 0#4 then configBad s1 else acceptConfig s1

/-- CONFIG_READ_COMPLETE (R168 steps 2 and 3, R170). -/
def execConfigReadComplete (image : Option (List Byte)) (s : State) : Host.Outcome State Fault Refusal :=
  if s.boot.phase = .readingConfig then
    let s1 := { s with mem := { s.mem with image := image.getD s.mem.image } }
    match image.bind (loadImage s.boot.station) with
    | some c => answer (acceptConfig { s1 with cfg := c, boot := { s1.boot with digest := c.machineDigest } })
    | none => answer (configBad s1)
  else noEffect s

/-! ## The restore (R174) -/

/-- ADV into the advance unit and the ring-build controller (R53, R108); a station without the THRUST role keeps the stroke base
at 0 (R39). -/
def restoreAdv (r : Option AdvComponent) (s : State) : State :=
  match r with
  | some a =>
    { s with
      adv := { s.adv with
        ring := a.ring, base := if s.holds .thrust then a.base else 0, aRing := a.aRing, grease := a.grease
        milestones := a.milestones }
      shoe := { s.shoe with lastServed := clampNat 0 15 a.lastServed } }
  | none => s

/-- V, M_exp and the rate base from the restored A_ring (R43, R44, R46); the grout and muck units read them (log 12). -/
def completeAdv (s : State) : State :=
  let v := voidOf s.cfg s.adv.aRing
  let m := expectedMass s.cfg s.adv.aRing
  { s with
    adv := { s.adv with void := v, mExp := m, rateBase := s.adv.aRing }
    grout := { s.grout with void := v }
    muck := { s.muck with mExp := m } }

/-- GRT into the grout unit (R127). -/
def restoreGrt (r : Option GrtComponent) (s : State) : State :=
  match r with
  | some g =>
    recomputeDeficit { s with grout := { s.grout with
      delivered := clampNat 0 2000000000 g.delivered
      carry := clampInt (-(s.cfg.carryMax : Int)) s.cfg.carryMax g.carry
      target := clampNat 0 43253100 g.target } }
  | none => s

/-- MCK into the muck unit (R146). -/
def restoreMck (r : Option MckComponent) (s : State) : State :=
  match r with
  | some m =>
    { s with muck := { s.muck with
        mMeas := clampNat 0 4000000000 m.mMeas, overdig := m.overdig, underdig := m.underdig } }
  | none => s

/-- The drive speed setpoint of TRM (R72): a drive not in FAULT starts in STOPPING from a setpoint above 0. -/
def restoreDrive (n : Nat) (s : State) : State :=
  if s.holds .drive && s.faults.drive.isNone then
    let v := clampNat 0 s.cfg.speedMax n
    { s with drive := { s.drive with nSet := v, state := if 0 < v then .stopping else s.drive.state } }
  else s

/-- The integrator of TRM (R146). -/
def restoreIntegrator (i : Int) (s : State) : State :=
  if s.holds .screw then
    { s with muck := { s.muck with integ := clampInt (-(s.cfg.iMax * 1000 : Int)) (s.cfg.iMax * 1000) i } }
  else s

/-- TRM into the drive and muck units. -/
def restoreTrm (r : Option TrmComponent) (s : State) : State :=
  match r with
  | some t => restoreIntegrator t.integ (restoreDrive t.nSet s)
  | none => s

/-- The balance computed once after the restore (R146), on a station in the SCREW role. -/
def restoredBalance (s : State) : State := if s.holds .screw then recomputeBalance s else s

/-- An accepted record loaded (R174). -/
def restoreRecord (r : RingRecord) (s : State) : State :=
  restoredBalance (restoreTrm r.trm (restoreMck r.mck (restoreGrt r.grt (completeAdv (restoreAdv r.adv
    { s with mem := { s.mem with seq := r.seq } })))))

/-- The record as judged (R174): a record cut off mid-write fails its check (R173), until a write has been answered (logs 7, 42). -/
def State.judgedRecord (s : State) (record : Option (List Byte)) : Option RingRecord :=
  if s.mem.recordTorn then none else record.bind (decodeRecord (presentMask s.cfg))

/-- Entry to JOINING (R15, R46): join and rate timers start, ID and STATUS are published. -/
def enterJoining (s : State) : State :=
  let s1 := { s with
    port := { s.port with backbone := .joining, joinTimer := s.timer s.cfg.joinWindow }
    adv := { s.adv with rateTimer := s.timer s.cfg.rateWindow } }
  publish .status (publish .id (refreshPubTimers s1))

/-- The restore completes (R173, R174). -/
def completeRestore (s : State) : State :=
  enterJoining (startPendingWrite { s with boot := { s.boot with phase := .done } })

/-- RING_RECORD_READ_COMPLETE (R174). -/
def execRingRecordReadComplete (record : Option (List Byte)) (s : State) : Host.Outcome State Fault Refusal :=
  if s.boot.phase = .readingRecord then
    let s1 := { s with mem := { s.mem with record := record <|> s.mem.record } }
    match s.judgedRecord record with
    | some r => answer (completeRestore (restoreRecord r s1))
    | none => answer (completeRestore (raiseEvent .recordLost { s1 with mem := { s1.mem with seq := 0 } }))
  else noEffect s

/-- The evaluation timers of the roles in service start as the backbone state leaves JOINING (R58, R75, R117, R133). -/
def startEvaluations (s : State) : State :=
  { s with
    drive := { s.drive with evalTimer := if s.holds .drive then s.timer s.cfg.evalDrive else s.drive.evalTimer }
    thrust := { s.thrust with evalTimer := if s.holds .thrust then s.timer s.cfg.evalThrust else s.thrust.evalTimer }
    grout := { s.grout with evalTimer := if s.holds .grout then s.timer s.cfg.evalGrout else s.grout.evalTimer }
    muck := { s.muck with evalTimer := if s.holds .screw then s.timer s.cfg.evalScrew else s.muck.evalTimer } }

/-- JOIN_TIMER_EXPIRY (R15): ONLINE below 16 failures, ISOLATED at 16. -/
def execJoinTimerExpiry (s : State) : Host.Outcome State Fault Refusal :=
  if s.port.joinTimer.on && s.port.backbone == .joining then
    let s1 := { s with port := { s.port with joinTimer := .stopped } }
    let s2 := setBackbone (if s.port.failures < 16 then .online else .isolated) s1
    answer (startPendingExtend (refreshPubTimers (startEvaluations s2)))
  else noEffect s

end Sys2Proof.Machine
end

