-- ==== Sys2Proof/Machine/Line.lean ====
section
/-! DEFINITION. The line (R2 to R5, R13, R14, R16, R17): LINE_FREE, LOST_ARBITRATION, ACKNOWLEDGED, UNACKNOWLEDGED, BIT_ERROR,
FRAME_ARRIVES, and the backbone port's timers PUBLICATION_TIMER_EXPIRY. -/
namespace Sys2Proof.Machine
open Sys2Proof

/-- LINE_FREE (R2): the head of the queue is offered to the line. -/
def execLineFree (s : State) : Host.Outcome State Fault Refusal :=
  if s.onBackbone && s.port.onLine.isNone then
    match s.port.queue with
    | [] => noEffect s
    | e :: _ => answer { s with port := { s.port with onLine := some (e.body.frame s.boot.station) } }
  else noEffect s

/-- LOST_ARBITRATION (R2, R13): the entry stays; nothing is counted. -/
def execLostArbitration (s : State) : Host.Outcome State Fault Refusal :=
  match s.port.onLine with
  | some f => answer { s with port := { s.port with onLine := none, queue := afterLost f.kindCode s.port.queue } }
  | none => noEffect s

/-- ISOLATED is left for ONLINE with the failure count at 0 (R16). -/
def leaveIsolated (s : State) : State :=
  if s.port.backbone = .isolated then setBackbone .online { s with port := { s.port with failures := 0 } } else s

/-- ACKNOWLEDGED (R3, R13, R16): the frame is sent and the failure count is 0. -/
def execAcknowledged (s : State) : Host.Outcome State Fault Refusal :=
  match s.port.onLine with
  | some f =>
    answer (leaveIsolated
      { s with port := { s.port with onLine := none, failures := 0, queue := afterEnd f.kindCode s.port.queue } })
  | none => noEffect s

/-- A failed transmission (R3, R13, R16): the count raised, saturating at 16; in ONLINE the sixteenth isolates the station. -/
def failTransmission (f : Frame) (s : State) : State :=
  let n := min 16 (s.port.failures + 1)
  let s1 := { s with port := { s.port with onLine := none, failures := n, queue := afterEnd f.kindCode s.port.queue } }
  if s.port.backbone = .online ∧ n = 16 then setBackbone .isolated s1 else s1

/-- UNACKNOWLEDGED (R3). -/
def execUnacknowledged (s : State) : Host.Outcome State Fault Refusal :=
  match s.port.onLine with
  | some f => answer (failTransmission f s)
  | none => noEffect s

/-- BIT_ERROR (R3): the station stops driving the line at once and reads on as a receiver. -/
def execBitError (s : State) : Host.Outcome State Fault Refusal :=
  match s.port.onLine with
  | some f => answer (failTransmission f s)
  | none => noEffect s

/-- Entry to SILENT on a number clash (R17): the port silent, every job out of service (R46, R58, R75, R91, R128, R147), the
STATION fault recorded with the kind code of the frame (R159). -/
def enterSilent (code : Nat) (s : State) : State :=
  let s1 := { s with
    port := { s.port with
      backbone := .silent, queue := [], rx := [], onLine := none, joinTimer := .stopped, pubTimer := PerKind.all .stopped }
    adv := { s.adv with rateTimer := .stopped }
    drive := { s.drive with evalTimer := .stopped }
    thrust := { s.thrust with evalTimer := .stopped } }
  raiseFault .station .numberClash code (refreshGates (stopShoeTimers (silenceMuck (silenceGrout false s1))))

/-- A frame with a good check that is neither a clash nor rejected, offered to the receive buffer (R14). -/
def bufferFrame (sender : Nat) (b : Bulletin) (s : State) : State :=
  if s.port.rx.length < 4 then
    { s with port := { s.port with rx := s.port.rx ++ [⟨sender, b.buffered s.cfg⟩] } }
  else raiseEvent .rxOverrun s

/-- Steps 3 to 5 of R4. -/
def judgeFrame (f : Frame) (s : State) : State :=
  if f.sender = s.boot.station then enterSilent f.kindCode s
  else
    match f.content with
    | some b => bufferFrame f.sender b s
    | none => { s with port := { s.port with rejected := min 255 (s.port.rejected + 1) } }

/-- FRAME_ARRIVES (R4): check, acknowledge, number clash, sender and content, buffer. -/
def execFrameArrives (f : Frame) (s : State) : Host.Outcome State Fault Refusal :=
  if s.onBackbone && f.good then
    answer (judgeFrame f (leaveIsolated { s with port := { s.port with ackDriven := true } }))
  else answer { s with port := { s.port with ackDriven := false } }

/-- PUBLICATION_TIMER_EXPIRY (R10): the kind is published and its timer restarts. -/
def execPublicationTimerExpiry (k : OwnKind) (s : State) : Host.Outcome State Fault Refusal :=
  if (s.port.pubTimer.get k).on then answer (publish k s) else noEffect s

end Sys2Proof.Machine
end

