-- ==== Sys2Proof/Machine/Taking.lean ====
section
/-! DEFINITION. Taking the oldest frame of the receive buffer (R19 to R26): BULLETIN_TAKEN, ID_TAKEN, MODE_TAKEN, BUILD_TAKEN,
STOP_TAKEN, with ring closes (R47 to R50), role yielding (R171), and the peer table's timers SLOT_CURRENCY_EXPIRY and
STALE_TIMER_EXPIRY, and RATE_TIMER_EXPIRY. -/
namespace Sys2Proof.Machine
open Sys2Proof

/-- The oldest frame leaves the buffer (R14). -/
def popFrame (s : State) : State := { s with port := { s.port with rx := s.port.rx.tail } }

/-- The foreign flag after a content is taken (R21). -/
def foreignAfter (digest : Word16) (before : Bool) : Bulletin → Bool
  | .id b => b.digest != digest
  | _ => before

/-- A content taken into a peer's entry (R19 to R21). -/
def takeStation (n : Nat) (b : Bulletin) (s : State) : State :=
  let e := s.table.entry n
  let foreign := foreignAfter s.boot.digest e.foreign b
  let e1 := { e.write (s.timer s.cfg.lapseTime) b with liveness := .live, foreign := foreign }
  let s1 := { s with table := s.table.putEntry n e1 }
  tableChanged (if foreign && !e.foreign then raiseEvent .configMismatch s1 else s1)

/-- A content taken into the console entry (R19). -/
def takeConsole (b : Bulletin) (s : State) : State :=
  tableChanged { s with table := { s.table with console := s.table.console.write (s.timer s.cfg.lapseTime) b } }

/-- A content taken into its sender's entry (R19). -/
def takeContent (sender : Nat) (b : Bulletin) (s : State) : State :=
  if sender = 0 then takeConsole b s else takeStation sender b s

/-- The effective mode the MODE slot asks for while the SETPOINT slot holds content (R24). -/
def State.modeAsked (s : State) : EffMode :=
  match s.table.console.setpoint.content, s.table.console.mode.now? with
  | some _, some m => m.mode.effective
  | _, _ => .hold

/-- The arrivals of BULLETIN_TAKEN handed to the blocks that act on them at once (R24, R32, R96). -/
def handBulletin (b : Bulletin) (setpointWasEmpty : Bool) (s : State) : State :=
  match b with
  | .setpoint _ => if setpointWasEmpty && s.consoleCurrent then setMode s.modeAsked s else s
  | .claim _ => refreshWait s
  | _ => s

/-- BULLETIN_TAKEN (R19): THRUST, CLAIM, GROUT, DRIVE, SCREW, STATUS or SETPOINT. -/
def execBulletinTaken (s : State) : Host.Outcome State Fault Refusal :=
  match s.port.rx with
  | ⟨n, b⟩ :: _ =>
    match b with
    | .thrust _ | .claim _ | .grout _ | .drive _ | .screw _ | .status _ | .setpoint _ =>
      answer (handBulletin b s.table.console.setpoint.content.isNone (takeContent n b (popFrame s)))
    | .stop _ | .build _ | .mode _ | .service _ | .id _ => noEffect s
  | [] => noEffect s

/-! ## ID (R21, R171) -/

/-- The inputs and watched channels of a role leave service at its yield (R148, R150, R153, R154). -/
def stopRoleInputs (r : Role) (s : State) : State :=
  let stopIn (i : Fin 12) (s : State) : State :=
    if (s.inCfg i).function.role = some r then putInput i { s.inRec i with holdTimer := .stopped } s else s
  let stopCh (i : Fin 8) (s : State) : State :=
    if (s.chCfg i).function.role = some r then putChannel i { s.ch i with timeoutTimer := .stopped } s else s
  channelIndices.foldl (fun s i => stopCh i s) (inputIndices.foldl (fun s i => stopIn i s) s)

/-- The own slots of the kinds a role owns are emptied at its yield (R23). -/
def StationEntry.emptyRole (e : StationEntry) : Role → StationEntry
  | .thrust => (e.emptySlot .thrust).emptySlot .claim
  | .grout => e.emptySlot .grout
  | .screw => e.emptySlot .screw
  | .drive => e.emptySlot .drive

/-- Each owning block takes the yield (R39, R86, R91, R128, R147). -/
def yieldUnit (r : Role) (s : State) : State :=
  match r with
  | .thrust =>
    stopShoeTimers
      { s with
        adv := { s.adv with stroke := 0, strokeValid := false, base := 0, advance := 0 }
        thrust := { s.thrust with evalTimer := .stopped } }
  | .grout => silenceGrout true s
  | .screw => silenceMuck s
  | .drive => s

/-- A role is yielded (R171). -/
def yieldRole (r : Role) (s : State) : State :=
  let s1 := yieldUnit r { s with boot := { s.boot with yielded := s.boot.yielded.add r } }
  let s2 := refreshPubTimers (stopRoleInputs r s1)
  tableChanged (putOwnEntry (s2.ownEntry.emptyRole r) s2)

/-- The first row of R171. -/
def yieldScrew (b : IdBody) (s : State) : State :=
  if s.holds .screw && b.roles.screw then raiseEvent .roleYielded (yieldRole .screw s) else s

/-- The second row of R171. THRUST is yielded first, so the A, V and grease triggers that follow still reach the grout unit before it
yields (log 38). -/
def yieldSector (b : IdBody) (s : State) : State :=
  if s.holds .thrust && b.roles.thrust && s.cfg.sector == some b.sector then
    let s1 := yieldRole .thrust s
    raiseEvent .sectorClash (if s.holds .grout then yieldRole .grout s1 else s1)
  else s

/-- The role yielding checks (R171): of an ID from a lower-numbered station that is not foreign. -/
def checkYield (sender : Nat) (b : IdBody) (s : State) : State :=
  if sender < s.boot.station ∧ (s.table.entry sender).foreign = false then yieldSector b (yieldScrew b s) else s

/-- ID_TAKEN (R19, R21, R171). -/
def execIdTaken (s : State) : Host.Outcome State Fault Refusal :=
  match s.port.rx with
  | ⟨n, .id b⟩ :: _ => answer (checkYield n b (takeContent n (.id b) (popFrame s)))
  | _ => noEffect s

/-! ## MODE (R24, R47 to R50) -/

/-- A ring close (R48) or, without carry, the close of a ring jump (R49): steps 1 to 7. -/
def closeRing (withCarry : Bool) (ring : Nat) (s : State) : State :=
  let s1 := { s with adv := { s.adv with
    ring := ring
    base := s.adv.stroke
    advance := 0
    machineA := 0
    aRing := 0
    void := 0
    mExp := 0
    grease := 0
    milestones := 0
    rate := 0
    rateBase := 0
    rateTimer := if s.onBackbone then s.timer s.cfg.rateWindow else s.adv.rateTimer } }
  settle (triggerSave (tableChanged (closeShoe (closeMuck (closeGrout withCarry s1)))))

/-- The ring number of a MODE handed to the advance unit (R47). -/
def takeRing (ring : Nat) (s : State) : State :=
  if ring = s.adv.ring then s
  else if ring = s.adv.ring + 1 then closeRing true ring s
  else if s.adv.ring < ring then raiseEvent .ringJump (closeRing false ring s)
  else raiseEvent .ringBackward s

/-- The effective mode after a MODE is taken (R24): the new mode while the SETPOINT slot holds content, else as it was. -/
def takeMode (m : MachineMode) (s : State) : State :=
  if s.table.console.setpoint.content.isSome then setMode m.effective s else s

/-- MODE_TAKEN (R19, R24, R47). -/
def execModeTaken (s : State) : Host.Outcome State Fault Refusal :=
  match s.port.rx with
  | ⟨n, .mode b⟩ :: _ => answer (takeMode b.mode (takeRing b.ring (takeContent n (.mode b) (popFrame s))))
  | _ => noEffect s

/-- BUILD_TAKEN (R19, R93, R94). -/
def execBuildTaken (s : State) : Host.Outcome State Fault Refusal :=
  match s.port.rx with
  | ⟨n, .build b⟩ :: _ => answer (refreshGates (takeBuild b (takeContent n (.build b) (popFrame s))))
  | _ => noEffect s

/-- STOP_TAKEN (R35, R165). -/
def execStopTaken (s : State) : Host.Outcome State Fault Refusal :=
  match s.port.rx with
  | ⟨n, .stop b⟩ :: _ => answer (setStopped (takeContent n (.stop b) (popFrame s)))
  | _ => noEffect s

/-! ## Timers of the peer table and of the advance unit -/

/-- A station's slot stops being current (R20). -/
def expireStationSlot (n : Nat) (k : OwnKind) (s : State) : State :=
  let e := (s.table.entry n).expire k
  if n ≠ s.boot.station ∧ e.liveness = .live ∧ e.anyCurrent = false then
    raiseEvent .peerLapsed (tableChanged { s with table := s.table.putEntry n { e with liveness := .lapsed } })
  else tableChanged { s with table := s.table.putEntry n e }

/-- The currency of a console slot stopped. -/
def ConsoleEntry.expire (c : ConsoleEntry) : ConsoleSlot → ConsoleEntry
  | .mode => { c with mode := { c.mode with currency := .stopped } }
  | .setpoint => { c with setpoint := { c.setpoint with currency := .stopped } }
  | .build => { c with build := { c.build with currency := .stopped } }
  | .stop => { c with stop := { c.stop with currency := .stopped } }

/-- The currency timer of a console slot. -/
def ConsoleEntry.currency (c : ConsoleEntry) : ConsoleSlot → Timer
  | .mode => c.mode.currency
  | .setpoint => c.setpoint.currency
  | .build => c.build.currency
  | .stop => c.stop.currency

/-- A console slot stops being current; the MODE slot's expiry lapses the console (R24). CONSOLE_CURRENT is handed to its gates after
the duties that HOLD makes the jobs write (R156, R158, log 33). -/
def expireConsoleSlot (sl : ConsoleSlot) (s : State) : State :=
  let s1 := { s with table := { s.table with console := s.table.console.expire sl } }
  match sl with
  | .mode => raiseEvent .consoleLapsed (refreshGates (setMode .hold s1))
  | .setpoint | .build | .stop => refreshGates s1

/-- SLOT_CURRENCY_EXPIRY (R18, R20, R24). -/
def execSlotCurrencyExpiry (slot : SlotRef) (s : State) : Host.Outcome State Fault Refusal :=
  match slot with
  | .station n k => if ((s.table.entry n).currency k).on then answer (expireStationSlot n k s) else noEffect s
  | .console sl => if (s.table.console.currency sl).on then answer (expireConsoleSlot sl s) else noEffect s

/-- STALE_TIMER_EXPIRY (R33). -/
def execStaleTimerExpiry (s : State) : Host.Outcome State Fault Refusal :=
  if s.table.staleTimer.on then answer (refreshGates (setReference .fallback s.cfg.pRefFallback .stopped s)) else noEffect s

/-- RATE_TIMER_EXPIRY (R46): v by the formula in every mode, so the first expiry after a change away from EXCAVATE measures what
the window moved before it (DESIGN CHOICE, log 43). -/
def execRateTimerExpiry (s : State) : Host.Outcome State Fault Refusal :=
  if s.adv.rateTimer.on then
    answer { s with adv := { s.adv with
      rate := rateOf s.cfg s.adv.aRing s.adv.rateBase
      rateBase := s.adv.aRing
      rateTimer := s.timer s.cfg.rateWindow } }
  else noEffect s

end Sys2Proof.Machine
end

