-- ==== Sys2Proof/Machine/Services.lean ====
section
/-! DEFINITION. SERVICE bulletins taken (R6, R25): CLEAR_FAULT, CLEAR_EVENTS, RESUME, RESTART, FORGET, SAVE. -/
namespace Sys2Proof.Machine
open Sys2Proof

/-- The SERVICE of an action at the head of the buffer. -/
def State.serviceHead (s : State) (action : ServiceAction) : Option ServiceBody :=
  match s.port.rx with
  | ⟨_, .service b⟩ :: _ => if b.action = action then some b else none
  | _ => none

/-- The action is handed on: the target is this station or 0 (R6, R25). -/
def State.targeted (s : State) (b : ServiceBody) : Bool := b.target == s.boot.station || b.target == 0

/-- A SERVICE taken: its frame leaves the buffer and writes no slot (R19); `act` runs when it is targeted here. -/
def takeService (b : ServiceBody) (act : State → State) (s : State) : State :=
  if s.targeted b then act (popFrame s) else popFrame s

/-- CLEAR_FAULT (R161). -/
def execClearFault (s : State) : Host.Outcome State Fault Refusal :=
  match s.serviceHead .clearFault with
  | some b =>
    answer (takeService b (fun s => match Job.ofCode b.arg with | some j => clearJobFault j s | none => s) s)
  | none => noEffect s

/-- CLEAR_EVENTS (R163). -/
def execClearEvents (s : State) : Host.Outcome State Fault Refusal :=
  match s.serviceHead .clearEvents with
  | some b => answer (takeService b (clearFlags (BitVec.ofNat 16 b.arg)) s)
  | none => noEffect s

/-- A RESUME handed to the fault and event unit (R166). -/
def resumeStation (s : State) : State :=
  if s.events.stopped = false then s
  else if s.pins.stopInput || s.stopDemand then raiseEvent .clearRefused s
  else clearStopped s

/-- RESUME (R166). -/
def execResume (s : State) : Host.Outcome State Fault Refusal :=
  match s.serviceHead .resume with
  | some b => answer (takeService b resumeStation s)
  | none => noEffect s

/-- RESTART (R167, R168). -/
def execRestart (straps : BitVec 4) (s : State) : Host.Outcome State Fault Refusal :=
  match s.serviceHead .restart with
  | some b => answer (takeService b (restartStation straps) s)
  | none => noEffect s

/-- FORGET of a station (R26): the own entry and an absent one are left alone. -/
def forgetStation (n : Nat) (s : State) : State :=
  if n = s.boot.station ∨ (s.table.entry n).liveness = .absent then s
  else tableChanged { s with table := s.table.putEntry n StationEntry.absent }

/-- FORGET (R26). -/
def execForget (s : State) : Host.Outcome State Fault Refusal :=
  match s.serviceHead .forget with
  | some b => answer (takeService b (forgetStation b.arg) s)
  | none => noEffect s

/-- SAVE (R172). -/
def execSave (s : State) : Host.Outcome State Fault Refusal :=
  match s.serviceHead .save with
  | some b => answer (takeService b triggerSave s)
  | none => noEffect s

end Sys2Proof.Machine
end

