-- ==== Sys2Proof/Machine/Sampling.lean ====
section
/-! DEFINITION. Conversions and their deliveries (R37, R57, R74, R111, R131, R148 to R150): CONVERSION_COMPLETE and
INPUT_HOLD_EXPIRY. -/
namespace Sys2Proof.Machine
open Sys2Proof

/-- The stall condition of the drive re-examined (R68). -/
def examineStall (s : State) : State :=
  let present := s.drive.state == .running && decide (s.drive.nFb < s.cfg.stallSpeed)
    && decide (s.cfg.stallTorque ≤ s.drive.tau)
  { s with drive := { s.drive with
      stallPresent := present
      stallTimer := conditionTimer s.drive.stallPresent present (s.timer s.cfg.stallTime) s.drive.stallTimer } }

/-- A STROKE sample (R37): a value sets s, the stroke-valid flag and a; a failed sample clears the flag. -/
def sampleStroke (value : Option Int) (s : State) : State :=
  match value with
  | some v =>
    let stroke := clampToNat 0 22000 v
    shoeStroke { s with adv := { s.adv with
      stroke := stroke, strokeValid := true, advance := clampToNat 0 22000 ((stroke : Int) - s.adv.base) } }
  | none => { s with adv := { s.adv with strokeValid := false } }

/-- A GROUP_PRESSURE sample (R74): a value goes to the overpressure condition and to the ring-build controller. -/
def sampleGroupPressure (value : Option Int) (s : State) : State :=
  match value with
  | some v =>
    shoePressure (examineThrustPressure
      { s with thrust := { s.thrust with pressure := clampToNat 0 4000 v, pressureValid := true } })
  | none => { s with thrust := { s.thrust with pressureValid := false } }

/-- A LINE_PRESSURE sample (R111): the derate flag and the overpressure condition are re-examined at a new p. -/
def sampleLinePressure (value : Option Int) (s : State) : State :=
  match value with
  | some v =>
    examineGroutPressure (examineDerate
      { s with grout := { s.grout with pressure := clampToNat 0 65535 v, pressureValid := true } })
  | none => { s with grout := { s.grout with pressureValid := false } }

/-- A chamber input after a conversion (R131). -/
def chamberAfter : Option Int → ChamberInput
  | some v => .valid (clampToNat 0 65535 v)
  | none => .failed

/-- A chamber input passes from valid to not valid, or fails at its first conversion (R131). -/
def chamberDegrades (before after : ChamberInput) : Bool := after == .failed && before != .failed

/-- CHAMBER_DEGRADED raised where a conversion degrades the input (R131), then p_ch and the blind flag (R132). -/
def takeChamber (before after : ChamberInput) (s : State) : State :=
  recomputeChamber (if chamberDegrades before after then raiseEvent .chamberDegraded s else s)

/-- A torque conversion (R57): τ is the sum of the torque inputs as the input unit holds them, with the torque-high flag and the
stall condition. -/
def sampleTorque (s : State) : State :=
  let tau := clampToNat 0 2000 (s.inputSum .torqueA + s.inputSum .torqueB)
  examineStall { s with drive := { s.drive with tau := tau, torqueHigh := decide (s.cfg.tauHigh ≤ tau) } }

/-- A conversion delivered to the block named for its function (section 9.1): a value, or failed. -/
def deliverSample (f : InFunction) (value : Option Int) (s : State) : State :=
  match f with
  | .unused => s
  | .stroke => sampleStroke value s
  | .groupPressure => sampleGroupPressure value s
  | .linePressure => sampleLinePressure value s
  | .chamber1 =>
    takeChamber s.muck.chamber1 (chamberAfter value) { s with muck := { s.muck with chamber1 := chamberAfter value } }
  | .chamber2 =>
    takeChamber s.muck.chamber2 (chamberAfter value) { s with muck := { s.muck with chamber2 := chamberAfter value } }
  | .chamber3 =>
    takeChamber s.muck.chamber3 (chamberAfter value) { s with muck := { s.muck with chamber3 := chamberAfter value } }
  | .torqueA | .torqueB => sampleTorque s

/-- A raw reading is good (R149). -/
def goodReading (c : InputCfg) (raw : Nat) : Bool := decide (c.rawMin ≤ raw ∧ raw ≤ c.rawMax)

/-- An input's record after a conversion (R149); the hold timer of a chamber input is never started (R150). -/
def InputRec.converted (r : InputRec) (c : InputCfg) (raw : Nat) (hold : Timer) : InputRec :=
  if goodReading c raw then ⟨scaledValue c raw, .good, .stopped⟩
  else if r.state = .failed then r
  else { r with state := .failed, holdTimer := if isChamber c.function then .stopped else hold }

/-- What a conversion delivers (R149). -/
def deliveredOf (c : InputCfg) (raw : Nat) : Option Int :=
  if goodReading c raw then some (scaledValue c raw) else none

/-- A conversion of a scanned input (R149). -/
def convertInput (i : Fin 12) (raw : Nat) (s : State) : State :=
  let c := s.inCfg i
  deliverSample c.function (deliveredOf c raw)
    (putInput i ((s.inRec i).converted c raw (s.timer s.cfg.inputHoldTime)) s)

/-- CONVERSION_COMPLETE (R148, R149): the conversion of an input that has left the scan is discarded; the converter goes on to
the next scanned input. -/
def execConversionComplete (raw : BitVec 12) (s : State) : Host.Outcome State Fault Refusal :=
  match s.converting with
  | some i =>
    let s1 := { s with converting := s.nextScanned i }
    answer (if s.scanned i then convertInput i raw.toNat s1 else s1)
  | none => noEffect s

/-- INPUT_LOST of an input reported to its owning block (R70, R87, R124, R150). -/
def reportLost (f : InFunction) (value : Int) (s : State) : State :=
  match f with
  | .stroke | .groupPressure => raiseFault .thrust .inputLost value s
  | .linePressure => raiseFault .grout .inputLost value s
  | .torqueA | .torqueB => raiseFault .drive .inputLost value s
  | .unused | .chamber1 | .chamber2 | .chamber3 => s

/-- INPUT_HOLD_EXPIRY (R150). -/
def execInputHoldExpiry (i : Fin 12) (s : State) : Host.Outcome State Fault Refusal :=
  if (s.inRec i).holdTimer.on then
    answer (reportLost (s.inCfg i).function (s.inRec i).value (putInput i { s.inRec i with holdTimer := .stopped } s))
  else noEffect s

end Sys2Proof.Machine
end

