-- ==== Sys2Proof/Machine/Jobs.lean ====
section
/-! DEFINITION. The job evaluations (R58, R75, R117, R133) and the expiries of the jobs' timers. -/
namespace Sys2Proof.Machine
open Sys2Proof

/-! ## The drive (chapter 4) -/

/-- The cutterhead speed demand (section 4.3). -/
def State.demand (s : State) : Nat := s.setpoint.speed

/-- The count of the contributing drive set (section 4.3). -/
def State.driveCount (s : State) : Nat := s.contributingDrives.length

/-- STOPPING and REVERSING complete (R62). -/
def State.driveAtRest (s : State) : Bool := s.drive.nSet == 0 && decide (s.drive.nFb < s.cfg.zeroBand)

/-- Step 1 of R58: the drive state decision (R59 to R63). -/
def decideDrive (s : State) : State :=
  let d := s.drive
  let excavating := s.table.mode == .excavate && decide (0 < s.demand)
  let console := s.setpoint.dir
  match d.state with
  | .off =>
    if excavating && !s.events.stopped then { s with drive := { d with state := .ready, dir := console } } else s
  | .ready =>
    if s.events.stopped || !excavating then { s with drive := { d with state := .off } }
    else if s.cfg.quorum ≤ s.driveCount then { s with drive := { d with state := .running, dir := console, nSet := 0 } }
    else { s with drive := { d with dir := console } }
  | .running =>
    if s.events.stopped then { s with drive := { d with state := .stopping } }
    else if !excavating then { s with drive := { d with state := .stopping } }
    else if s.driveCount < s.cfg.quorum then { s with drive := { d with state := .stopping } }
    else if console ≠ d.dir then { s with drive := { d with state := .reversing } }
    else s
  | .stopping => if s.driveAtRest then { s with drive := { d with state := .off } } else s
  | .reversing =>
    if s.events.stopped then { s with drive := { d with state := .stopping } }
    else if s.driveAtRest then { s with drive := { d with state := .ready, dir := console } }
    else s
  | .fault => s

/-- Step 2 of R58: the speed setpoint step (R64). -/
def stepDrive (s : State) : State :=
  let step := if s.events.stopped then s.cfg.stopStep else s.cfg.rampStep
  match s.drive.state with
  | .running => { s with drive := { s.drive with nSet := stepToward s.drive.nSet s.demand step } }
  | .stopping | .reversing | .off | .ready => { s with drive := { s.drive with nSet := stepToward s.drive.nSet 0 step } }
  | .fault => s

/-- The torque mean of a contributing set; with none it holds (R65). -/
def torqueMeanOf (set : List DriveBody) (before : Nat) : Nat :=
  if set.length = 0 then before else halfUpMean (set.map (·.tau)).sum set.length

/-- Step 3 of R58: the torque mean and the trim (R65). -/
def trimDrive (s : State) : State :=
  let mean := torqueMeanOf s.contributingDrives s.drive.tauMean
  { s with drive := { s.drive with
      tauMean := mean
      trim := if s.drive.state = .running then trimOf s.cfg mean s.drive.tau else 0 } }

/-- The speed command of a drive (R66). -/
def Drive.command (d : Drive) (c : StationConfig) : Nat :=
  match d.state with
  | .running => clampToNat 0 c.speedMax (d.nSet + d.trim)
  | .stopping | .reversing => d.nSet
  | .off | .ready | .fault => 0

/-- Step 4 of R58: the speed command and the output duty (R66). -/
def commandDrive (s : State) : State :=
  let cmd := s.drive.command s.cfg
  writeDuty .driveSpeedOut (dutyOf cmd s.cfg.nFullScale) { s with drive := { s.drive with cmd := cmd } }

/-- The steps of the drive evaluation (R58), with the stall condition at a change of state (R68). -/
def evaluateDrive (s : State) : State := commandDrive (trimDrive (stepDrive (examineStall (decideDrive s))))

/-- DRIVE_EVALUATION (R58). -/
def execDriveEvaluation (s : State) : Host.Outcome State Fault Refusal :=
  if s.drive.evalTimer.on then
    let s1 := evaluateDrive s
    answer { s1 with drive := { s1.drive with evalTimer := s.timer s.cfg.evalDrive } }
  else noEffect s

/-- DRIVE_STALL_TIMER_EXPIRY (R68). -/
def execDriveStallTimerExpiry (s : State) : Host.Outcome State Fault Refusal :=
  if s.drive.stallTimer.on then
    answer (raiseFault .drive .stall s.drive.tau { s with drive := { s.drive with stallTimer := .stopped } })
  else noEffect s

/-! ## The thrust unit (chapter 5) -/

/-- The steps of the thrust evaluation (R75): in FAULT steps 1 to 3 only. -/
def evaluateThrust (s : State) : State :=
  let s1 := computePush (computeHold (decideRegime s))
  if s.faults.thrust.isSome then s1 else writeValves (stepSetpoint (chooseTarget s1))

/-- THRUST_EVALUATION (R75). -/
def execThrustEvaluation (s : State) : Host.Outcome State Fault Refusal :=
  if s.thrust.evalTimer.on then
    let s1 := evaluateThrust s
    answer { s1 with thrust := { s1.thrust with evalTimer := s.timer s.cfg.evalThrust } }
  else noEffect s

/-- THRUST_OVERPRESSURE_EXPIRY (R87). -/
def execThrustOverpressureExpiry (s : State) : Host.Outcome State Fault Refusal :=
  if s.thrust.opTimer.on then
    answer (raiseFault .thrust .overpressure s.thrust.pressure { s with thrust := { s.thrust with opTimer := .stopped } })
  else noEffect s

/-! ## The ring-build controller (chapter 6) -/

/-- HOLD_OFF_EXPIRY (R95). -/
def execHoldOffExpiry (s : State) : Host.Outcome State Fault Refusal :=
  if s.shoe.holdOff.on && s.shoe.state == .claiming then
    answer (testClaim { s with shoe := { s.shoe with holdOff := .stopped } })
  else noEffect s

/-- WAIT_TIMER_EXPIRY (R97). -/
def execWaitTimerExpiry (s : State) : Host.Outcome State Fault Refusal :=
  if s.shoe.waitTimer.on && s.shoe.state == .claiming then answer (expireClaim s) else noEffect s

/-- RETRACT_TIMER_EXPIRY (R101). -/
def execRetractTimerExpiry (s : State) : Host.Outcome State Fault Refusal :=
  if s.shoe.retract.on then
    answer (raiseFault .thrust .retractTimeout s.adv.stroke { s with shoe := { s.shoe with retract := .stopped } })
  else noEffect s

/-- EXTEND_TIMER_EXPIRY (R101). -/
def execExtendTimerExpiry (s : State) : Host.Outcome State Fault Refusal :=
  if s.shoe.extend.on then
    answer (raiseFault .thrust .extendTimeout s.thrust.pressure { s with shoe := { s.shoe with extend := .stopped } })
  else noEffect s

/-! ## The grout unit (chapter 7) -/

/-- φ_eff (R113). -/
def State.fillRatio (s : State) : Nat := s.setpoint.fill + (if s.overdigBoost then s.cfg.overdigBoost else 0)

/-- Step 1 of R117: φ_eff, and T when φ_eff has changed. -/
def deriveFill (s : State) : State :=
  if s.fillRatio = s.grout.phi then s else recomputeTarget { s with grout := { s.grout with phi := s.fillRatio } }

/-- Step 3 of R117: the line state decision, of a line in OFF too. -/
def evaluateLine (s : State) : State := setLine s.lineTable s

/-- The pump rate of an evaluation (R120). -/
def State.rateDue (s : State) : Nat :=
  match s.grout.line with
  | .injecting | .limited => pumpRate s.cfg s.grout.deficit s.grout.pressure s.grout.capLo s.grout.capHi
  | .off | .idle | .held | .fault => 0

/-- Step 4 of R117: the pump rate and the pending duty (R120), with the blocked condition (R123). -/
def writeRate (s : State) : State :=
  examineBlocked (writeDuty .groutPump (dutyOf s.rateDue s.cfg.rFull) { s with grout := { s.grout with rate := s.rateDue } })

/-- The steps of the grout evaluation (R117): in FAULT steps 1 and 2 only. -/
def evaluateGrout (s : State) : State :=
  let s1 := recomputeBand (deriveFill s)
  if s.grout.line = .fault then s1 else writeRate (evaluateLine s1)

/-- GROUT_EVALUATION (R117). -/
def execGroutEvaluation (s : State) : Host.Outcome State Fault Refusal :=
  if s.grout.evalTimer.on then
    let s1 := evaluateGrout s
    answer { s1 with grout := { s1.grout with evalTimer := s.timer s.cfg.evalGrout } }
  else noEffect s

/-- BLOCKED_TIMER_EXPIRY (R123). -/
def execBlockedTimerExpiry (s : State) : Host.Outcome State Fault Refusal :=
  if s.grout.blockedTimer.on then
    answer (raiseFault .grout .lineBlocked s.grout.rate { s with grout := { s.grout with blockedTimer := .stopped } })
  else noEffect s

/-- GROUT_OVERPRESSURE_EXPIRY (R124). -/
def execGroutOverpressureExpiry (s : State) : Host.Outcome State Fault Refusal :=
  if s.grout.opTimer.on then
    answer (raiseFault .grout .overpressure s.grout.pressure { s with grout := { s.grout with opTimer := .stopped } })
  else noEffect s

/-! ## The muck unit (chapter 8) -/

/-- The pressure error of the moment, p_ch − p_target (R135). -/
def State.pressureError (s : State) : Int := (s.muck.pCh : Int) - s.setpoint.chamber

/-- Step 2 of R133: the pressure error e and the feedforward, both held in OFF and FAULT (R135). -/
def feedScrew (s : State) : State :=
  match s.muck.state with
  | .running | .blind =>
    { s with muck := { s.muck with err := s.pressureError, nFf := feedforward s.cfg s.adv.rate } }
  | .off | .fault => s

/-- The integrator after a step in RUNNING (R136), in thousandths; `lastCmd` is the command that the skip test reads. -/
def integratorAfter (c : StationConfig) (integ inc : Int) (lastCmd : Nat) : Int :=
  if (0 < inc ∧ lastCmd = c.nMax) ∨ (inc < 0 ∧ lastCmd = 0) then integ
  else clampInt (-(c.iMax * 1000 : Int)) (c.iMax * 1000) (integ + inc)

/-- Step 3 of R133: the integrator step (R136). The skip test reads n_cmd as held, which OFF and FAULT have set to 0 (DEDUCED,
log 27). -/
def integrateScrew (s : State) : State :=
  if s.muck.state = .running then
    { s with muck := { s.muck with integ := integratorAfter s.cfg s.muck.integ (s.cfg.ki * s.muck.err) s.muck.nCmd } }
  else s

/-- Step 4 of R133: the command (R137). -/
def commandScrew (s : State) : State :=
  let cmd := match s.muck.state with
    | .running => screwCommand s.cfg s.muck.nFf s.muck.err s.muck.integ
    | .blind => clampNat 0 s.cfg.nMax s.muck.nFf
    | .off | .fault => 0
  { s with muck := { s.muck with nCmd := cmd } }

/-- Step 5 of R133: the ramp and the pending duty (R138), with the conditions of R144. -/
def rampScrew (s : State) : State :=
  let out := stepToward s.muck.nOut s.muck.nCmd s.cfg.screwRamp
  examineScrew (writeDuty .screwSpeedOut (dutyOf out s.cfg.screwFullScale) { s with muck := { s.muck with nOut := out } })

/-- The steps of the screw evaluation (R133): in FAULT step 1 only, with the conditions of R144. -/
def evaluateScrew (s : State) : State :=
  let s1 := decideScrew s
  if s1.muck.state = .fault then examineScrew s1 else rampScrew (commandScrew (integrateScrew (feedScrew s1)))

/-- SCREW_EVALUATION (R133). -/
def execScrewEvaluation (s : State) : Host.Outcome State Fault Refusal :=
  if s.muck.evalTimer.on then
    let s1 := evaluateScrew s
    answer { s1 with muck := { s1.muck with evalTimer := s.timer s.cfg.evalScrew } }
  else noEffect s

/-- SCREW_STALL_TIMER_EXPIRY (R144). -/
def execScrewStallTimerExpiry (s : State) : Host.Outcome State Fault Refusal :=
  if s.muck.stallTimer.on then
    answer (raiseFault .screw .screwStall s.muck.nOut { s with muck := { s.muck with stallTimer := .stopped } })
  else noEffect s

/-- FEEDBACK_TIMER_EXPIRY (R144). -/
def execFeedbackTimerExpiry (s : State) : Host.Outcome State Fault Refusal :=
  if s.muck.fbTimer.on then
    answer (raiseFault .screw .inputLost s.muck.nS { s with muck := { s.muck with fbTimer := .stopped } })
  else noEffect s

end Sys2Proof.Machine
end

