-- ==== Sys2Proof/Machine/Pulses.lean ====
section
/-! DEFINITION. The timing channels' events (R152 to R155) and what their deliveries do (R56, R69, R112, R139, R140, R144):
PERIOD_BOUNDARY, ACTIVE_TIME_END, CHANNEL_EDGE, CHANNEL_TIMEOUT_EXPIRY, PULSE_WIDTH_EXPIRY. -/
namespace Sys2Proof.Machine
open Sys2Proof

/-- PERIOD_BOUNDARY (R152). -/
def execPeriodBoundary (i : Fin 8) (s : State) : Host.Outcome State Fault Refusal :=
  if (s.ch i).periodTimer.on then
    answer (putChannel i ((s.ch i).startPeriod (s.chCfg i) s.now (s.ch i).pending) s)
  else noEffect s

/-- ACTIVE_TIME_END (R152): the output goes to its inactive level. -/
def execActiveTimeEnd (i : Fin 8) (s : State) : Host.Outcome State Fault Refusal :=
  if (s.ch i).activeTimer.on then
    answer (putChannel i { s.ch i with activeTimer := .stopped, high := (s.chCfg i).safeHigh } s)
  else noEffect s

/-! ## Deliveries -/

/-- The overspeed condition re-examined (R69): its passage to present raises OVERSPEED. -/
def examineOverspeed (s : State) : State :=
  let present := decide (s.cfg.speedMax + s.cfg.overspeedMargin < s.drive.nFb)
  let s1 := { s with drive := { s.drive with overspeed := present } }
  if present && !s.drive.overspeed then raiseFault .drive .overspeed s.drive.nFb s1 else s1

/-- A speed feedback delivered to the drive unit (R56, R68, R69). -/
def takeDriveSpeed (n : Nat) (s : State) : State :=
  examineOverspeed (examineStall { s with drive := { s.drive with nFb := n } })

/-- A running stall timer restarted by a delivered period (R144). -/
def restartScrewStall (s : State) : State :=
  if s.muck.stallTimer.on then { s with muck := { s.muck with stallTimer := s.timer s.cfg.screwStallTime } } else s

/-- A speed feedback delivered to the muck unit (R139). -/
def takeScrewSpeed (n : Nat) (s : State) : State := examineScrew { s with muck := { s.muck with nS := n } }

/-- A period of `t` µs delivered to the owner of a PERIOD channel (R56, R139). -/
def deliverPeriod (f : ChFunction) (t : Nat) (s : State) : State :=
  match f with
  | .driveSpeedIn => takeDriveSpeed (speedOf t s.cfg.pulsesPerRev) s
  | .screwSpeedIn => takeScrewSpeed (speedOf t s.cfg.screwPpr) (restartScrewStall s)
  | .unused | .thrustExtend | .thrustRetract | .driveSpeedOut | .groutPump | .groutStroke | .greasePulse | .screwSpeedOut
  | .scalePulse => s

/-- "No edge" delivered to the owner of a PERIOD channel (R56, R139). -/
def deliverNoEdge (f : ChFunction) (s : State) : State :=
  match f with
  | .driveSpeedIn => takeDriveSpeed 0 s
  | .screwSpeedIn => takeScrewSpeed 0 s
  | .unused | .thrustExtend | .thrustRetract | .driveSpeedOut | .groutPump | .groutStroke | .greasePulse | .screwSpeedOut
  | .scalePulse => s

/-- A running blocked timer restarted by a counted stroke (R123). -/
def restartBlocked (s : State) : State :=
  if s.grout.blockedTimer.on then { s with grout := { s.grout with blockedTimer := s.timer s.cfg.strokeTimeout } } else s

/-- A counted stroke (R112): one effective stroke added to D after the restore. -/
def countStroke (s : State) : State :=
  restartBlocked
    (if s.restored then
      recomputeDeficit { s with grout := { s.grout with
        delivered := min 2000000000 (s.grout.delivered + s.cfg.effectiveStroke) } }
    else s)

/-- A counted scale edge (R140, R141): kg_per_pulse added to M_meas after the restore. -/
def countScale (s : State) : State :=
  if s.restored then
    recomputeBalance { s with muck := { s.muck with mMeas := min 4000000000 (s.muck.mMeas + s.cfg.kgPerPulse) } }
  else s

/-- A counted edge delivered to the owner of a COUNT channel (R112, R140). -/
def deliverCount (f : ChFunction) (s : State) : State :=
  match f with
  | .groutStroke => countStroke s
  | .scalePulse => countScale s
  | .unused | .thrustExtend | .thrustRetract | .driveSpeedOut | .driveSpeedIn | .groutPump | .greasePulse | .screwSpeedOut
  | .screwSpeedIn => s

/-! ## Edges -/

/-- The channel that watches a pin: mapped, in COUNT or PERIOD mode, of a role in service (R151, R153, R154). -/
def State.watcher (s : State) (pin : Fin 4) : Option (Fin 8) :=
  channelIndices.find? fun i =>
    (s.chCfg i).function.mode.watches && (s.chCfg i).pin == pin
      && (match (s.chCfg i).function.role with | some r => s.holds r | none => false)

/-- A qualifying edge at the moment `t` is counted: the capture is empty, or far enough back (R153). -/
def ChannelRec.counts (r : ChannelRec) (c : ChannelCfg) (t : Nat) : Bool :=
  match r.capture with
  | none => true
  | some t0 => decide (c.minInterval ≤ t - t0)

/-- A counted edge at the moment `s.now` (R153, R154). -/
def countEdge (i : Fin 8) (s : State) : State :=
  let r := s.ch i
  let c := s.chCfg i
  match c.function.mode with
  | .count => deliverCount c.function (putChannel i { r with capture := some s.now } s)
  | .period =>
    let s1 := putChannel i { r with capture := some s.now, timeoutTimer := s.timer c.timeout } s
    match r.capture with
    | some t0 => deliverPeriod c.function (s.now - t0) s1
    | none => s1
  | .none | .duty | .pulse => s

/-- A transition of a watched pin at the moment `s.now` (R153): judged by the direction reported, whatever level the model held
(log 41). -/
def takeEdge (pin : Fin 4) (rising : Bool) (s : State) : State :=
  match s.watcher pin with
  | some i => if (s.chCfg i).edge.qualifies rising && (s.ch i).counts (s.chCfg i) s.now then countEdge i s else s
  | none => s

/-- CHANNEL_EDGE (R153, R154): no channel watches its pin while no configuration is accepted (R151). The clock does not run
backward (log 2). The command is taken as a transition in every state, also where the pin's level held is the one it reports
(DESIGN CHOICE, log 41). -/
def execChannelEdge (pin : Fin 4) (rising : Bool) (time : Nat) (s : State) : Host.Outcome State Fault Refusal :=
  let s1 := { s with now := max s.now time, pins := { s.pins with edge := s.pins.edge.set pin rising } }
  answer (if s.boot.accepted then takeEdge pin rising s1 else s1)

/-- CHANNEL_TIMEOUT_EXPIRY (R154): "no edge" is delivered and the capture emptied. -/
def execChannelTimeoutExpiry (i : Fin 8) (s : State) : Host.Outcome State Fault Refusal :=
  if (s.ch i).timeoutTimer.on then
    answer (deliverNoEdge (s.chCfg i).function (putChannel i { s.ch i with capture := none, timeoutTimer := .stopped } s))
  else noEffect s

/-- The end of a pulse (R130). -/
def endPulse (s : State) : State :=
  match s.grout.pulse with
  | .activePending => startPulse s
  | .idle | .active => clearPulse s

/-- PULSE_WIDTH_EXPIRY (R130, R155). -/
def execPulseWidthExpiry (s : State) : Host.Outcome State Fault Refusal :=
  if s.grout.pulseTimer.on then answer (endPulse s) else noEffect s

end Sys2Proof.Machine
end

