-- ==== Sys2Proof/Machine/PinEvents.lean ====
section
/-! DEFINITION. The stop and permit inputs (R10, R23, R156, R165) and the completion of memory writes (R173):
STOP_INPUT_ACTIVE, STOP_INPUT_RELEASED, PERMIT_INPUT_CHANGE, MEMORY_WRITE_COMPLETE. -/
namespace Sys2Proof.Machine
open Sys2Proof

/-- STOP_INPUT_ACTIVE (R10, R165): STOP is published at once; the latch is set while a configuration is accepted. -/
def execStopInputActive (s : State) : Host.Outcome State Fault Refusal :=
  if s.pins.stopInput then noEffect s
  else
    let s1 := refreshPubTimers { s with pins := { s.pins with stopInput := true } }
    answer (if s.boot.accepted then setStopped (publish .stop s1) else s1)

/-- STOP_INPUT_RELEASED (R10, R23): STOP is no longer published and the own STOP slot is emptied; the latch stays (R165). -/
def execStopInputReleased (s : State) : Host.Outcome State Fault Refusal :=
  if s.pins.stopInput then
    let s1 := refreshPubTimers { s with pins := { s.pins with stopInput := false } }
    answer (tableChanged (putOwnEntry (s1.ownEntry.emptySlot .stop) s1))
  else noEffect s

/-- PERMIT_INPUT_CHANGE (R156): the guards that select PERMIT_INPUT follow the pin. -/
def execPermitInputChange (active : Bool) (s : State) : Host.Outcome State Fault Refusal :=
  answer (refreshGates { s with pins := { s.pins with permitInput := active } })

/-- The start goes on to the record read once a write in flight at its RESTART has completed (R168). -/
def continueStart (s : State) : State :=
  if s.boot.phase = .waitingWrite then { s with boot := { s.boot with phase := .readingRecord } } else s

/-- The write in flight `w` completes: as written, or failed with RECORD_WRITE_FAILED (R173). -/
def completeWrite (w : MemWrite) (answered : Bool) (s : State) : State :=
  if answered then { s with mem := s.mem.written w }
  else raiseEvent .recordWriteFailed { s with mem := s.mem.unanswered w }

/-- MEMORY_WRITE_COMPLETE (R173): then a pending write starts, the fault area first; a start that waited for the write goes on to
the record read at the same completion (R168, log 9). -/
def execMemoryWriteComplete (answered : Bool) (s : State) : Host.Outcome State Fault Refusal :=
  match s.mem.inFlight with
  | some w => answer (startPendingWrite (continueStart (completeWrite w answered s)))
  | none => noEffect s

end Sys2Proof.Machine
end

