-- ==== Sys2Proof/Machine/Dispatch.lean ====
section
/-! DEFINITION. One arm per command, each one direct call of its meaning. -/
namespace Sys2Proof.Machine
open Sys2Proof

/-- The effect of a command on everything but the queue of commands. -/
def exec (i : Instr) (s : State) : Host.Outcome State Fault Refusal :=
  match i with
  | .powerOn straps => Sys2Proof.Machine.execPowerOn straps s
  | .lineReset straps => Sys2Proof.Machine.execLineReset straps s
  | .configReadComplete answer => Sys2Proof.Machine.execConfigReadComplete answer s
  | .ringRecordReadComplete answer => Sys2Proof.Machine.execRingRecordReadComplete answer s
  | .joinTimerExpiry => Sys2Proof.Machine.execJoinTimerExpiry s
  | .lineFree => Sys2Proof.Machine.execLineFree s
  | .lostArbitration => Sys2Proof.Machine.execLostArbitration s
  | .acknowledged => Sys2Proof.Machine.execAcknowledged s
  | .unacknowledged => Sys2Proof.Machine.execUnacknowledged s
  | .bitError => Sys2Proof.Machine.execBitError s
  | .frameArrives frame => Sys2Proof.Machine.execFrameArrives frame s
  | .bulletinTaken => Sys2Proof.Machine.execBulletinTaken s
  | .idTaken => Sys2Proof.Machine.execIdTaken s
  | .modeTaken => Sys2Proof.Machine.execModeTaken s
  | .buildTaken => Sys2Proof.Machine.execBuildTaken s
  | .stopTaken => Sys2Proof.Machine.execStopTaken s
  | .clearFault => Sys2Proof.Machine.execClearFault s
  | .clearEvents => Sys2Proof.Machine.execClearEvents s
  | .resume => Sys2Proof.Machine.execResume s
  | .restart straps => Sys2Proof.Machine.execRestart straps s
  | .forget => Sys2Proof.Machine.execForget s
  | .save => Sys2Proof.Machine.execSave s
  | .slotCurrencyExpiry slot => Sys2Proof.Machine.execSlotCurrencyExpiry slot s
  | .staleTimerExpiry => Sys2Proof.Machine.execStaleTimerExpiry s
  | .publicationTimerExpiry kind => Sys2Proof.Machine.execPublicationTimerExpiry kind s
  | .rateTimerExpiry => Sys2Proof.Machine.execRateTimerExpiry s
  | .conversionComplete raw => Sys2Proof.Machine.execConversionComplete raw s
  | .inputHoldExpiry input => Sys2Proof.Machine.execInputHoldExpiry input s
  | .driveEvaluation => Sys2Proof.Machine.execDriveEvaluation s
  | .driveStallTimerExpiry => Sys2Proof.Machine.execDriveStallTimerExpiry s
  | .thrustEvaluation => Sys2Proof.Machine.execThrustEvaluation s
  | .thrustOverpressureExpiry => Sys2Proof.Machine.execThrustOverpressureExpiry s
  | .holdOffExpiry => Sys2Proof.Machine.execHoldOffExpiry s
  | .waitTimerExpiry => Sys2Proof.Machine.execWaitTimerExpiry s
  | .retractTimerExpiry => Sys2Proof.Machine.execRetractTimerExpiry s
  | .extendTimerExpiry => Sys2Proof.Machine.execExtendTimerExpiry s
  | .groutEvaluation => Sys2Proof.Machine.execGroutEvaluation s
  | .blockedTimerExpiry => Sys2Proof.Machine.execBlockedTimerExpiry s
  | .groutOverpressureExpiry => Sys2Proof.Machine.execGroutOverpressureExpiry s
  | .screwEvaluation => Sys2Proof.Machine.execScrewEvaluation s
  | .screwStallTimerExpiry => Sys2Proof.Machine.execScrewStallTimerExpiry s
  | .feedbackTimerExpiry => Sys2Proof.Machine.execFeedbackTimerExpiry s
  | .periodBoundary channel => Sys2Proof.Machine.execPeriodBoundary channel s
  | .channelEdge pin rising time => Sys2Proof.Machine.execChannelEdge pin rising time s
  | .channelTimeoutExpiry channel => Sys2Proof.Machine.execChannelTimeoutExpiry channel s
  | .pulseWidthExpiry => Sys2Proof.Machine.execPulseWidthExpiry s
  | .stopInputActive => Sys2Proof.Machine.execStopInputActive s
  | .stopInputReleased => Sys2Proof.Machine.execStopInputReleased s
  | .permitInputChange active => Sys2Proof.Machine.execPermitInputChange active s
  | .memoryWriteComplete answered => Sys2Proof.Machine.execMemoryWriteComplete answered s
  | .resetAsserted => Sys2Proof.Machine.execResetAsserted s
  | .activeTimeEnd channel => Sys2Proof.Machine.execActiveTimeEnd channel s

end Sys2Proof.Machine
end

