-- ==== Sys2Proof/Safety.lean ====
section
/-! DEFINITION. The terms claims use: what the end of an event leaves alone (`Kept`, `Settled`), a state with nothing left to
publish (`AtRest`), and the invariants that make a run safe. -/
namespace Sys2Proof.Machine
open Sys2Proof

/-! ## What the end of an event leaves alone -/

/-- Everything that the publications, gates and alarm at the end of an event (R11, R157, R164) never change. -/
structure Kept where
  boot       : Boot
  cfg        : StationConfig
  pins       : Pins
  now        : Nat
  pending    : List Instr
  drive      : Drive
  shoe       : Shoe
  inputs     : Vector InputRec 12
  converting : Option (Fin 12)
  faults     : FaultRecords
  -- backbone port
  backbone   : Backbone
  failures   : Nat
  rejected   : Nat
  onLine     : Option Frame
  rx         : List RxFrame
  ackDriven  : Bool
  joinTimer  : Timer
  -- peer table
  console    : ConsoleEntry
  mode       : EffMode
  others     : List StationEntry
  -- advance unit
  stroke      : Nat
  strokeValid : Bool
  base        : Nat
  advance     : Nat
  ring        : Nat
  rate        : Nat
  rateBase    : Nat
  rateTimer   : Timer
  -- thrust unit
  pressure      : Nat
  pressureValid : Bool
  force         : Int
  pPush         : Nat
  floorClamp    : Bool
  ceilClamp     : Bool
  fReq          : Nat
  share         : Nat
  pHold         : Nat
  pSet          : Nat
  opPresent     : Bool
  opTimer       : Timer
  thrustEval    : Timer
  -- grout unit
  phi           : Nat
  delivered     : Nat
  carry         : Int
  linePressure  : Nat
  lineValid     : Bool
  groutEval     : Timer
  -- muck unit
  chamber1  : ChamberInput
  chamber2  : ChamberInput
  chamber3  : ChamberInput
  pCh       : Nat
  blind     : Bool
  screw     : ScrewState
  err       : Int
  nFf       : Nat
  integ     : Int
  nCmd      : Nat
  nOut      : Nat
  nS        : Nat
  mMeas     : Nat
  screwEval : Timer
  -- channels
  captures : List (Option Nat × Timer)
  duties   : List Nat
  -- stop latch and memory
  stopped      : Bool
  image        : List Byte
  record       : Option (List Byte)
  recordTorn   : Bool
  faultPending : Bool
  faultCopy    : Option FaultRecords
  deriving DecidableEq, Repr

/-- The pending duties of the channels, those of the grout pump read as 0: an event's own changes can set the line to IDLE
(R118). -/
def State.dutiesKept (s : State) : List Nat :=
  channelIndices.map fun i => if (s.chCfg i).function = .groutPump then 0 else (s.ch i).pending

/-- What the end of an event leaves alone. -/
def State.kept (s : State) : Kept where
  boot := s.boot
  cfg := s.cfg
  pins := s.pins
  now := s.now
  pending := s.pending
  drive := s.drive
  shoe := s.shoe
  inputs := s.inputs
  converting := s.converting
  faults := s.faults
  backbone := s.port.backbone
  failures := s.port.failures
  rejected := s.port.rejected
  onLine := s.port.onLine
  rx := s.port.rx
  ackDriven := s.port.ackDriven
  joinTimer := s.port.joinTimer
  console := s.table.console
  mode := s.table.mode
  others := s.table.stations.toList.eraseIdx (s.boot.station - 1)
  stroke := s.adv.stroke
  strokeValid := s.adv.strokeValid
  base := s.adv.base
  advance := s.adv.advance
  ring := s.adv.ring
  rate := s.adv.rate
  rateBase := s.adv.rateBase
  rateTimer := s.adv.rateTimer
  pressure := s.thrust.pressure
  pressureValid := s.thrust.pressureValid
  force := s.thrust.force
  pPush := s.thrust.pPush
  floorClamp := s.thrust.floorClamp
  ceilClamp := s.thrust.ceilClamp
  fReq := s.thrust.fReq
  share := s.thrust.share
  pHold := s.thrust.pHold
  pSet := s.thrust.pSet
  opPresent := s.thrust.opPresent
  opTimer := s.thrust.opTimer
  thrustEval := s.thrust.evalTimer
  phi := s.grout.phi
  delivered := s.grout.delivered
  carry := s.grout.carry
  linePressure := s.grout.pressure
  lineValid := s.grout.pressureValid
  groutEval := s.grout.evalTimer
  chamber1 := s.muck.chamber1
  chamber2 := s.muck.chamber2
  chamber3 := s.muck.chamber3
  pCh := s.muck.pCh
  blind := s.muck.blind
  screw := s.muck.state
  err := s.muck.err
  nFf := s.muck.nFf
  integ := s.muck.integ
  nCmd := s.muck.nCmd
  nOut := s.muck.nOut
  nS := s.muck.nS
  mMeas := s.muck.mMeas
  screwEval := s.muck.evalTimer
  captures := s.channels.toList.map fun r => (r.capture, r.timeoutTimer)
  duties := s.dutiesKept
  stopped := s.events.stopped
  image := s.mem.image
  record := s.mem.record
  recordTorn := s.mem.recordTorn
  faultPending := s.mem.faultPending
  faultCopy := s.mem.faultCopy

/-- `t` is `e` after the end of an event: what `Kept` names is as in `e`, and no flag of `e` has been cleared. -/
structure Settled (e t : State) : Prop where
  kept  : t.kept = e.kept
  flags : e.events.flags &&& t.events.flags = e.events.flags

/-- The command runs in `s`, and what it answers is `e` after the end of the event. -/
def Gives (c : Instr) (s e : State) : Prop := ∃ t, exec c s = .next t ∧ Settled e t

/-- The job of a record stands in FAULT (R71, R88, R105, R125, R145). -/
def InFault (t : State) : Job → Prop
  | .station => True
  | .thrust => t.thrust.pSet = 0 ∧ t.shoe.state = .clear
  | .grout => t.grout.line = .fault ∧ t.grout.rate = 0
  | .drive => t.drive.state = .fault ∧ t.drive.nSet = 0 ∧ t.drive.cmd = 0
  | .screw => t.muck.state = .fault ∧ t.muck.nCmd = 0 ∧ t.muck.nOut = 0

/-- The command fills the record of `j`, leaves the others as they are, and puts the job in FAULT with its gates shut (R160); of
THRUST, a CLAIM with CLEAR is queued where CLAIM is published at all (R105). -/
def Faults (c : Instr) (s : State) (j : Job) (cause : FaultCause) (value : Int) : Prop :=
  ∃ t, exec c s = .next t ∧ t.faults = s.faults.put j (some ⟨cause, value, s.adv.ring, s.faultStep j, 0⟩) ∧ InFault t j ∧
    (∀ i r, (s.chCfg i).function.role = some r → r.job = j → (t.ch i).gate = false) ∧
    (j = .thrust → s.onBackbone = true → s.port.pubTimer.claim.on = true →
      ∃ e ∈ t.port.queue, ∃ b, e.body = .claim b ∧ b.shoe = .clear) ∧
    t.cfg = s.cfg ∧ t.boot = s.boot ∧ t.adv.ring = s.adv.ring ∧ t.events.stopped = s.events.stopped

/-- The command raises a fault of `j`: an empty record is filled; a held one keeps its first cause and counts the fault, at most to
255, and a job in FAULT stays there (R160). -/
def Raises (c : Instr) (s : State) (j : Job) (cause : FaultCause) (value : Int) : Prop :=
  (s.faults.get j = none → Faults c s j cause value) ∧
  ∀ r, s.faults.get j = some r → r.later ≤ 255 →
    ∃ t, exec c s = .next t ∧ t.faults = s.faults.put j (some { r with later := min 255 (r.later + 1) }) ∧
      (InFault s j → InFault t j) ∧
      t.cfg = s.cfg ∧ t.boot = s.boot ∧ t.adv.ring = s.adv.ring ∧ t.events.stopped = s.events.stopped

/-- Nothing is left to publish, every gate stands as its causes say, and the alarm output as its formula says. -/
structure AtRest (s : State) : Prop where
  published : ∀ k : OwnKind, k ≠ .stop → s.changeDue k = false
  gates     : ∀ i : Fin 8, (s.ch i).gate = s.gateDue i
  alarm     : s.events.alarm = s.alarmDue

/-- What the completion of a write makes of the port, which the write has left as `m`: the pending write in flight with the state
of the moment captured, the fault area first, its flag cleared; with nothing pending the port stands (R172, R173). -/
def State.pendingStarted (s : State) (m : MemPort) : MemPort :=
  if s.mem.faultPending then { m with inFlight := some (.faultArea s.faults), faultPending := false }
  else if s.mem.recordPending then
    { m with
      inFlight := some (.record (s.recordBytes ((s.mem.seq + 1) % 65536)))
      recordPending := false
      seq := (s.mem.seq + 1) % 65536 }
  else m

/-! ## Invariants -/

/-- The backbone port's stores keep their bounds (sections 1.5 to 1.7): the transmit queue ascends strictly by kind code and
holds only kinds a station sends, so at most one of each; at most four frames wait, none of them under the own number (R4 step 3);
the counts are in range. -/
structure PortBounded (s : State) : Prop where
  ascending : (s.port.queue.map fun e => e.body.code).Pairwise (· < ·)
  ownKinds  : ∀ e ∈ s.port.queue, e.body.code ∈ OwnKind.all.map OwnKind.code
  buffer    : s.port.rx.length ≤ 4
  foreign   : ∀ f ∈ s.port.rx, f.sender ≠ s.boot.station
  failures  : s.port.failures ≤ 16
  rejected  : s.port.rejected ≤ 255

/-- The phases of a start that hold an accepted configuration (R168). -/
def BootPhase.holdsConfig : BootPhase → Bool
  | .waitingWrite | .readingRecord | .done => true
  | .held | .readingConfig | .bad => false

/-- Every gate stands as the causes of R157 say; a channel whose gate is shut has no period running and its pin at rest: the
safe level once a configuration is accepted, LOW before (R151, R157). -/
structure OutputsGuarded (s : State) : Prop where
  booted  : s.boot.accepted = s.boot.phase.holdsConfig
  offline : s.boot.accepted = false → s.port.backbone = .offline
  gates   : ∀ i : Fin 8, (s.ch i).gate = s.gateDue i
  periods : ∀ i : Fin 8, (s.ch i).gate = false →
    (s.ch i).periodTimer.on = false ∧ (s.ch i).activeTimer.on = false
  pins    : ∀ i : Fin 8, (s.ch i).gate = false → (s.ch i).high = (s.boot.accepted && restLevel (s.chCfg i))

/-- The alarm output is active exactly while R164 says so. -/
def AlarmTrue (s : State) : Prop :=
  s.events.alarm = true ↔
    (s.boot.accepted = false ∨ s.events.flags &&& s.cfg.evAlarm ≠ 0#16 ∨
      ∃ j : Job, (s.faults.get j).isSome)

/-- E = T + C − D (R115). -/
def DeficitBalanced (s : State) : Prop :=
  s.grout.deficit = (s.grout.target : Int) + s.grout.carry - s.grout.delivered

/-- While the THRUST record holds a cause the shoe state is CLEAR and no start decision is pending (R105); the drive is in FAULT
exactly while its record holds a cause, and there its setpoint and command are 0 (R71, R160). -/
structure FaultedJobsStand (s : State) : Prop where
  shoe    : s.faults.thrust.isSome → s.shoe.state = .clear ∧ s.shoe.decisionPending = false
  drive   : s.drive.state = .fault ↔ s.faults.drive.isSome
  command : s.drive.state = .fault → s.drive.nSet = 0 ∧ s.drive.cmd = 0

/-- The drive's speed command is 0 in OFF, READY and FAULT, and never above speed_max (R66). The demand it follows is clamped as
SETPOINT enters the buffer (R9), and nothing is held of it while no configuration is accepted. -/
structure DriveCommandBounded (s : State) : Prop where
  booted  : s.boot.accepted = s.boot.phase.holdsConfig
  zero    : s.drive.state = .off ∨ s.drive.state = .ready ∨ s.drive.state = .fault → s.drive.cmd = 0
  command : s.drive.cmd ≤ s.cfg.speedMax
  set     : s.drive.nSet ≤ s.cfg.speedMax
  demand  : ∀ b, s.table.console.setpoint.content = some b → b.speed ≤ s.cfg.speedMax
  buffer  : ∀ f ∈ s.port.rx, ∀ b, f.body = .setpoint b → b.speed ≤ s.cfg.speedMax
  before  : s.boot.accepted = false →
    s.drive.cmd = 0 ∧ s.drive.nSet = 0 ∧ (s.drive.state = .off ∨ s.drive.state = .fault) ∧
      s.table.console.setpoint.content = none ∧ s.port.rx = [] ∧ s.port.backbone = .offline

/-- The advance accounts stand as their sources say: A is the half-up mean of the contributing set while the station takes part in
the backbone (R40), A_ring is not below it in EXCAVATE (R41), V and M_exp are their functions of A_ring (R43, R44), and the grout
unit holds that V and the live grout weight W (R28, R45). Until the restore is complete nothing is heard and no advance is held. -/
structure AccountsTrue (s : State) : Prop where
  before  : s.boot.phase ≠ .done →
    s.port.backbone = .offline ∧ s.port.rx = [] ∧ s.table.mode = .hold ∧ s.adv.aRing = 0 ∧ s.liveWeight = 0
  mean    : s.onBackbone = true → s.contributingThrust ≠ [] →
    s.adv.machineA = halfUpMean (s.contributingThrust.map (·.advance)).sum s.contributingThrust.length
  follows : s.table.mode = .excavate → s.adv.machineA ≤ s.adv.aRing
  void    : s.adv.void = roundHalfUp (s.adv.aRing * s.cfg.annulusArea) 100
  mass    : s.adv.mExp = roundHalfUp (s.adv.aRing * s.cfg.faceArea * s.cfg.density) 1000000
  grout   : s.holds .grout = true → s.grout.void = s.adv.void ∧ s.grout.weight = s.liveWeight

/-- The thrust setpoint and the pump duty stay in their bounds: the pressures of R78, R80 and R81 lie in their ranges; in ENGAGED and
CLAIMING outside FAULT the setpoint lies between p_floor and p_ceiling (R82, R83), and a seated one is not above p_hold; in FAULT it
is 0 (R88). Outside INJECTING and LIMITED the pump rate and the pending duty of the pump are 0 (R118, R120, R125). Until a
configuration is accepted nothing evaluates, converts or is heard, and no duty is pending. -/
structure SetpointAndPumpBounded (s : State) : Prop where
  ordered : s.cfg.pFloor ≤ s.cfg.pHoldMin ∧ s.cfg.pHoldMin ≤ s.cfg.pCeiling
  push    : s.cfg.pFloor ≤ s.thrust.pPush ∧ s.thrust.pPush ≤ s.cfg.pCeiling
  hold    : s.cfg.pHoldMin ≤ s.thrust.pHold ∧ s.thrust.pHold ≤ s.cfg.pCeiling
  target  : ∀ p, s.thrust.target.pressure? = some p → s.cfg.pFloor ≤ p ∧ p ≤ s.cfg.pCeiling
  set     : s.shoe.state = .engaged ∨ s.shoe.state = .claiming → s.faults.thrust = none →
    s.cfg.pFloor ≤ s.thrust.pSet ∧ s.thrust.pSet ≤ s.cfg.pCeiling
  seated  : s.thrust.seated = true → s.thrust.pSet ≤ s.thrust.pHold
  faulted : s.faults.thrust.isSome →
    s.shoe.state = .clear ∧ s.shoe.decisionPending = false ∧ s.thrust.seated = false ∧ s.thrust.pSet = 0
  pump    : s.grout.line ≠ .injecting → s.grout.line ≠ .limited →
    s.grout.rate = 0 ∧ ∀ i, s.channelOf .groutPump = some i → (s.ch i).pending = 0
  before  : s.boot.phase.holdsConfig = false →
    s.port.backbone = .offline ∧ s.converting = none ∧ (s.shoe.state = .extending ∨ s.shoe.state = .clear) ∧
      s.drive.evalTimer.on = false ∧ s.thrust.evalTimer.on = false ∧ s.grout.evalTimer.on = false ∧
      s.muck.evalTimer.on = false ∧ ∀ i, (s.ch i).pending = 0

/-- The drive stall, blocked, screw stall and feedback conditions stand as R68, R123 and R144 define them, and the timer of an absent
one does not run. Until the restore is complete no drive evaluation runs, and the drive is in OFF or FAULT. -/
structure ConditionsWatched (s : State) : Prop where
  driveStall : s.drive.stallPresent =
    decide (s.drive.state = .running ∧ s.drive.nFb < s.cfg.stallSpeed ∧ s.cfg.stallTorque ≤ s.drive.tau)
  blocked    : s.grout.blockedPresent = decide (0 < s.grout.rate ∧ s.carriesDuty .groutPump = true)
  screwStall : s.muck.stallPresent = decide (0 < s.muck.nOut ∧ s.carriesDuty .screwSpeedOut = true)
  feedback   : s.muck.fbPresent = decide (0 < s.muck.nS ∧ (s.muck.nOut = 0 ∨ s.carriesDuty .screwSpeedOut = false))
  timers     :
    (s.drive.stallPresent = false → s.drive.stallTimer.on = false) ∧
    (s.grout.blockedPresent = false → s.grout.blockedTimer.on = false) ∧
    (s.muck.stallPresent = false → s.muck.stallTimer.on = false) ∧
    (s.muck.fbPresent = false → s.muck.fbTimer.on = false)
  before     : s.boot.phase ≠ .done →
    s.port.backbone = .offline ∧ s.drive.evalTimer.on = false ∧ (s.drive.state = .off ∨ s.drive.state = .fault)

/-- A condition's timer over one command, from `old` to `new`: stopped while the condition is absent afterwards; else started anew
(`fresh`), or, of a condition present before, as it was; or stopped where the command itself stops it. -/
def TimerFollows (before after : Bool) (fresh old new : Timer) (stops : Prop) : Prop :=
  (after = false → new.on = false) ∧
  (after = true → new = fresh ∨ before = true ∧ new = old ∨ stops ∧ new = .stopped)

/-! ## Chamber inputs -/

/-- A chamber input of the muck unit by its function; any other function has none and reads as failed. -/
def Muck.chamber (m : Muck) : InFunction → ChamberInput
  | .chamber1 => m.chamber1
  | .chamber2 => m.chamber2
  | .chamber3 => m.chamber3
  | .unused | .stroke | .groupPressure | .linePressure | .torqueA | .torqueB => .failed

/-- The values of the valid chamber inputs other than that of `f`. -/
def Muck.otherValues (m : Muck) (f : InFunction) : List Nat :=
  ([.chamber1, .chamber2, .chamber3].filter fun g => g != f).filterMap fun g =>
    match m.chamber g with
    | .valid p => some p
    | .unseen | .failed => none

/-! ## Starts and contents that fit their fields -/

/-- The commands that start the station or hold it at its start values (R167). -/
def startsStation : Instr → Bool
  | .powerOn _ | .lineReset _ | .resetAsserted | .restart _ => true
  | .configReadComplete _ | .ringRecordReadComplete _ | .joinTimerExpiry | .lineFree | .lostArbitration | .acknowledged
  | .unacknowledged | .bitError | .frameArrives _ | .bulletinTaken | .idTaken | .modeTaken | .buildTaken | .stopTaken
  | .clearFault | .clearEvents | .resume | .forget | .save | .slotCurrencyExpiry _ | .staleTimerExpiry
  | .publicationTimerExpiry _ | .rateTimerExpiry | .conversionComplete _ | .inputHoldExpiry _ | .driveEvaluation
  | .driveStallTimerExpiry | .thrustEvaluation | .thrustOverpressureExpiry | .holdOffExpiry | .waitTimerExpiry
  | .retractTimerExpiry | .extendTimerExpiry | .groutEvaluation | .blockedTimerExpiry | .groutOverpressureExpiry
  | .screwEvaluation | .screwStallTimerExpiry | .feedbackTimerExpiry | .periodBoundary _ | .channelEdge _ _ _
  | .channelTimeoutExpiry _ | .pulseWidthExpiry | .stopInputActive | .stopInputReleased | .permitInputChange _
  | .memoryWriteComplete _ | .activeTimeEnd _ => false

/-- The command starts nothing in `s`: it is no start of R167, a RESTART is addressed elsewhere, and no answer to a read of a start
is taken. -/
structure StartsNothing (c : Instr) (s : State) : Prop where
  restart : startsStation c = true → ∃ straps, c = .restart straps
  target  : ∀ b, s.serviceHead .restart = some b → startsStation c = true → b.target ≠ s.boot.station ∧ b.target ≠ 0
  image   : ∀ answer, c = .configReadComplete answer → s.boot.phase ≠ .readingConfig
  record  : ∀ answer, c = .ringRecordReadComplete answer → s.boot.phase ≠ .readingRecord

/-- A signed value fits a signed 32-bit field. -/
def fitsInt32 (x : Int) : Prop := -2147483648 ≤ x ∧ x < 2147483648

/-- A content fits the fields of its layout and carries no code that R6 to R9 reject. -/
def fitsLayout : Bulletin → Prop
  | .stop _ => True
  | .claim b => b.ring < 65536 ∧ b.step < 16 ∧ b.sector < 16
  | .build b => b.ring < 65536 ∧ 1 ≤ b.step ∧ b.step ≤ 15 ∧ b.sector ≤ 7
  | .mode b => b.ring < 65536
  | .setpoint b =>
    b.force < 65536 ∧ b.pitch.natAbs < 65536 ∧ b.yaw.natAbs < 65536 ∧ b.fill < 8192 ∧ b.speed < 65536 ∧ b.chamber < 65536
  | .service b => b.target ≤ 15 ∧ b.arg < 65536 ∧ serviceArgGood b.action b.arg = true
  | .thrust b =>
    b.ring < 65536 ∧ b.stroke < 32768 ∧ b.advance < 32768 ∧ b.pressure < 4096 ∧ b.ceiling < 65536 ∧ b.regime < 4
      ∧ b.pSet < 4096
  | .drive b => b.nFb < 65536 ∧ b.tau < 65536 ∧ b.cmd < 65536
  | .screw b => b.ring < 65536 ∧ b.pCh < 65536 ∧ b.nOut < 65536 ∧ b.balance < 65536 ∧ b.valid < 4
  | .grout b => b.ring < 65536 ∧ b.weight < 16 ∧ b.delivered < 4294967296 ∧ fitsInt32 b.deficit
  | .status b =>
    b.ring < 65536 ∧ b.failures < 256 ∧ b.rejected < 256
      ∧ causesInRange b.causeStation b.causeThrust b.causeGrout b.causeDrive b.causeScrew = true
  | .id b => b.station < 256 ∧ (b.sector ≤ 7 ∨ b.sector = 15) ∧ b.weight < 16

/-- The accounts a save captures fit the fields of the ring record (table 11.5). -/
structure FitsRecord (s : State) : Prop where
  adv   : s.adv.ring < 65536 ∧ s.adv.base < 65536 ∧ s.adv.aRing < 65536
  count : s.adv.grease < 256 ∧ s.adv.milestones < 256 ∧ s.shoe.lastServed < 256
  grt   : s.grout.delivered < 4294967296 ∧ fitsInt32 s.grout.carry ∧ s.grout.target < 4294967296
  mck   : s.muck.mMeas < 4294967296
  trm   : fitsInt32 s.muck.integ ∧ s.drive.nSet < 65536

end Sys2Proof.Machine
end

