-- ==== Sys2Proof/Certificates/Slice0/Obligations.lean ====
section
/-! DEFINITION. The statements for the provers. `Gives c s e` and `Settled e t` say the frame of a command: besides what the
statement names, only what the publications, gates and alarm at the end of an event move can differ (`Kept` lists what cannot).
`AtRest` names states in which nothing is left to publish; there a command's next state is given whole. -/
open Sys2Proof Sys2Proof.Machine

/-! ## The machine -/

/-- The command at the front of the queue is run with the rest of the queue; an empty queue idles (log 2). -/
def Obligations.StepRunsFrontCommand : Prop :=
  (∀ (c : Instr) (rest : List Instr) (s : State),
    step { s with pending := c :: rest } = exec c { s with pending := rest }) ∧
  ∀ s : State, s.pending = [] → step s = .next { s with now := s.now + 1 }

/-- Every command is answered with a next state in every state, and leaves the queue of commands alone. -/
def Obligations.EveryCommandCompletes : Prop :=
  ∀ (c : Instr) (s : State), ∃ t, exec c s = .next t ∧ t.pending = s.pending

/-- What reset leaves (R15, R18, R24, R33, R53, R72, R89, R109, R127, R146, R148, R157, R159, R162, R164). -/
def Obligations.ResetValues : Prop :=
  let s := State.reset
  s.port.backbone = .offline ∧ s.port.failures = 0 ∧ s.port.rejected = 0 ∧ s.port.queue = [] ∧ s.port.rx = [] ∧
  s.table.mode = .hold ∧ s.table.refState = .fallback ∧ s.table.pRef = s.cfg.pRefFallback ∧
  s.adv = Advance.start ∧ s.drive.state = .off ∧ s.drive.dir = .cw ∧ s.drive.nSet = 0 ∧ s.drive.cmd = 0 ∧
  s.thrust.regime = .hold ∧ s.thrust.pPush = s.cfg.pFloor ∧ s.thrust.pHold = s.cfg.pHoldMin ∧ s.thrust.pSet = 0 ∧
  s.shoe.state = .extending ∧ s.shoe.decisionPending = true ∧ s.shoe.claim = none ∧
  s.grout.line = .off ∧ s.grout.phi = 1000 ∧ s.grout.deficit = 0 ∧ s.grout.holdRequest = false ∧
  s.muck.state = .off ∧ s.muck.blind = true ∧ s.muck.pCh = s.cfg.pRefFallback ∧ s.muck.validCount = 0 ∧
  (∀ i, (s.inRec i).state = .none ∧ (s.inRec i).value = 0) ∧
  (∀ i, (s.ch i).gate = false ∧ (s.ch i).high = false ∧ (s.ch i).capture = none ∧ (s.ch i).pending = 0) ∧
  s.faults = ⟨none, none, none, none, none⟩ ∧ s.events.flags = 0#16 ∧ s.events.stopped = false ∧ s.events.alarm = true ∧
  s.boot.accepted = false ∧ s.boot.startKind = .powerOn ∧ s.boot.yielded = RoleMask.empty ∧ s.pending = []

/-! ## Invariants every step keeps -/

def Obligations.PortBoundsKept : Prop :=
  ∀ s t, PortBounded s → step s = .next t → PortBounded t

def Obligations.OutputsStayGuarded : Prop :=
  ∀ s t, OutputsGuarded s → step s = .next t → OutputsGuarded t

/-- R164: the alarm output is active exactly while no configuration is accepted, a flag routed ALARM is set or a record is held;
starts that read the image leave it active, a bad image keeps it active with CONFIG_BAD held, and a RESTART keeps the routes,
flags and job records it then follows. -/
def Obligations.AlarmStaysTrue : Prop :=
  (∀ s t, AlarmTrue s → step s = .next t → AlarmTrue t) ∧
  (∀ straps s t, exec (.powerOn straps) s = .next t ∨ exec (.lineReset straps) s = .next t →
    t.boot.accepted = false ∧ t.events.alarm = true) ∧
  (∀ c s t, s.boot.accepted = false → exec c s = .next t → t.boot.accepted = true →
    (∃ straps, c = .restart straps) ∨
      ∃ bytes, c = .configReadComplete (some bytes) ∧ (loadImage s.boot.station bytes).isSome) ∧
  (∀ answer s t, s.boot.phase = .readingConfig → s.faults.station = none →
    (∀ bytes, answer = some bytes → loadImage s.boot.station bytes = none) →
    exec (.configReadComplete answer) s = .next t →
    t.faults.station.map (·.cause) = some .configBad ∧ t.events.alarm = true) ∧
  ∀ straps s t b, s.serviceHead .restart = some b → b.target = s.boot.station ∨ b.target = 0 → straps ≠ 0#4 →
    exec (.restart straps) s = .next t →
    t.boot.accepted = true ∧ t.cfg.evAlarm = s.cfg.evAlarm ∧ t.events.flags = s.events.flags ∧
      t.faults = { s.faults with station := none } ∧ AlarmTrue t

/-- R115: E = T + C − D at every moment, so E lies in its range while T, C and D lie in theirs; D never falls at a command that
starts nothing and keeps the ring number; a new value of E reaches the hold-request decision and the line state decision, the latter
at a command that starts nothing or in a state whose advance accounts are true to their sources; and E is carried in GROUT as it
stands, no change field of it. -/
def Obligations.DeficitStaysBalanced : Prop :=
  (∀ s t, DeficitBalanced s → step s = .next t → DeficitBalanced t) ∧
  (∀ s, DeficitBalanced s → s.grout.delivered ≤ 2000000000 → s.grout.carry.natAbs ≤ 1000000 → s.grout.target ≤ 43253100 →
    -2001000000 ≤ s.grout.deficit ∧ s.grout.deficit ≤ 44253100) ∧
  (∀ c s t, exec c s = .next t → s.grout.delivered ≤ 2000000000 → StartsNothing c s → t.adv.ring = s.adv.ring →
    s.grout.delivered ≤ t.grout.delivered) ∧
  (∀ c s t, DeficitBalanced s → exec c s = .next t → t.grout.deficit ≠ s.grout.deficit → t.holds .grout →
    ((t.cfg.backlogLimit : Int) < t.grout.deficit → t.grout.holdRequest = true) ∧
    (t.grout.deficit ≤ (t.cfg.backlogLimit / 2 : Nat) → t.grout.holdRequest = false) ∧
    (AccountsTrue s ∨ StartsNothing c s → t.grout.line ≠ .off → t.grout.line ≠ .fault → t.grout.line =
      (if t.grout.deficit < (t.cfg.effectiveStroke : Int) then .idle
        else if t.events.stopped = true ∨ t.port.backbone = .isolated ∨ t.table.mode = .hold then .held
        else if t.grout.derate = true then .limited else .injecting))) ∧
  ∀ s : State, ∃ b, s.content .grout = .grout b ∧ b.deficit = s.grout.deficit ∧
    ∀ e : Int, changePart (.grout { b with deficit := e }) = changePart (.grout b)

def Obligations.FaultedJobsStayFaulted : Prop :=
  ∀ s t, FaultedJobsStand s → step s = .next t → FaultedJobsStand t

def Obligations.DriveCommandStaysBounded : Prop :=
  ∀ s t, DriveCommandBounded s → step s = .next t → DriveCommandBounded t

/-- R81 to R83, R88, R118, R120, R125: the thrust setpoint and the pump duty stay in their bounds. -/
def Obligations.SetpointAndPumpStayBounded : Prop :=
  ∀ s t, SetpointAndPumpBounded s → step s = .next t → SetpointAndPumpBounded t

/-- R68, R123, R144: every step keeps the four conditions as they are defined. At every command that starts nothing their timers
follow them: started when the condition becomes present, stopped when it becomes absent, stopped at their own expiry. A number clash
and a yield stop the feedback timer of a condition still present (R147, the model's reading: log 17) and no drive stall timer, where
no rule stops one (log 18). -/
def Obligations.ConditionTimersFollow : Prop :=
  (∀ s t, ConditionsWatched s → step s = .next t → ConditionsWatched t) ∧
  ∀ c s t, ConditionsWatched s → StartsNothing c s → exec c s = .next t →
    TimerFollows s.drive.stallPresent t.drive.stallPresent (t.timer t.cfg.stallTime) s.drive.stallTimer t.drive.stallTimer
      (c = .driveStallTimerExpiry) ∧
    TimerFollows s.grout.blockedPresent t.grout.blockedPresent (t.timer t.cfg.strokeTimeout) s.grout.blockedTimer
      t.grout.blockedTimer (c = .blockedTimerExpiry) ∧
    TimerFollows s.muck.stallPresent t.muck.stallPresent (t.timer t.cfg.screwStallTime) s.muck.stallTimer t.muck.stallTimer
      (c = .screwStallTimerExpiry) ∧
    TimerFollows s.muck.fbPresent t.muck.fbPresent (t.timer t.cfg.screwFeedbackTime) s.muck.fbTimer t.muck.fbTimer
      (c = .feedbackTimerExpiry ∨ c = .idTaken ∨ ∃ f, c = .frameArrives f)

/-- The invariants hold at reset. -/
def Obligations.ResetMeetsInvariants : Prop :=
  PortBounded State.reset ∧ OutputsGuarded State.reset ∧ AlarmTrue State.reset ∧ DeficitBalanced State.reset ∧
  FaultedJobsStand State.reset ∧ DriveCommandBounded State.reset ∧ AccountsTrue State.reset ∧
  SetpointAndPumpBounded State.reset ∧ ConditionsWatched State.reset

/-! ## Rules over all commands -/

/-- Only CLEAR_EVENTS and a POWER_ON start clear an event flag (R162); only RESUME and a start clear the STOPPED latch (R165,
R166); the overdig and underdig latches stand through every command that starts nothing and keeps the ring number, and OVERDIG
and UNDERDIG are raised there exactly as their latch is set (R141, R142). -/
def Obligations.FlagsAndLatchesOnlyClearedByName : Prop :=
  (∀ c s t, exec c s = .next t → c ≠ .clearEvents → (∀ straps, c ≠ .powerOn straps) →
    s.events.flags &&& t.events.flags = s.events.flags) ∧
  (∀ c s t, exec c s = .next t → c ≠ .resume → startsStation c = false → s.events.stopped = true →
    t.events.stopped = true) ∧
  ∀ c s t, exec c s = .next t → StartsNothing c s → t.adv.ring = s.adv.ring →
    (s.muck.overdig = true → t.muck.overdig = true) ∧ (s.muck.underdig = true → t.muck.underdig = true) ∧
    (s.muck.overdig = false → t.muck.overdig = true →
      t.events.flags &&& EventFlag.overdig.mask = EventFlag.overdig.mask) ∧
    (s.muck.underdig = false → t.muck.underdig = true →
      t.events.flags &&& EventFlag.underdig.mask = EventFlag.underdig.mask) ∧
    (t.events.flags &&& ~~~s.events.flags &&& EventFlag.overdig.mask ≠ 0#16 →
      s.muck.overdig = false ∧ t.muck.overdig = true) ∧
    (t.events.flags &&& ~~~s.events.flags &&& EventFlag.underdig.mask ≠ 0#16 →
      s.muck.underdig = false ∧ t.muck.underdig = true)

/-- A held job record keeps its first cause, value, ring and step, and its later count never falls, through every command but
CLEAR_FAULT and a POWER_ON start (R159, R160). -/
def Obligations.HeldRecordsKeepFirstCause : Prop :=
  ∀ c s t j r, exec c s = .next t → c ≠ .clearFault → (∀ straps, c ≠ .powerOn straps) → j ≠ .station →
    s.faults.get j = some r →
    ∃ n, r.later ≤ n ∧ t.faults.get j = some { r with later := n }

/-- The own ring number changes only at a MODE taken, at the restore of the ring record and at a start (R47, R174). -/
def Obligations.RingNumberOnlyFollowsMode : Prop :=
  ∀ c s t, exec c s = .next t → c ≠ .modeTaken → (∀ a, c ≠ .ringRecordReadComplete a) → startsStation c = false →
    t.adv.ring = s.adv.ring

/-- Every step keeps the advance accounts true to their sources. Within a ring A_ring never falls and moves only in EXCAVATE, with
the grease and milestone counts (R41, R42, R51, R52); a T that changes, and the T of a line in the share whose V, W or φ_eff
changes, is the formula of the values then held, and a line out of the share keeps its T (R114); the last is said of a buffer
without a frame under the own number, which no step fills otherwise (`PortBounded`). -/
def Obligations.AccountsStayTrue : Prop :=
  (∀ s t, AccountsTrue s → step s = .next t → AccountsTrue t) ∧
  ∀ c s t, exec c s = .next t → StartsNothing c s → t.adv.ring = s.adv.ring →
    s.adv.aRing ≤ t.adv.aRing ∧
    (t.adv.aRing ≠ s.adv.aRing → s.table.mode = .excavate ∨ t.table.mode = .excavate) ∧
    t.adv.grease = (if t.adv.aRing = s.adv.aRing then s.adv.grease
      else max s.adv.grease (t.adv.aRing / s.cfg.greaseStep)) ∧
    t.adv.milestones = (if t.adv.aRing = s.adv.aRing then s.adv.milestones
      else max s.adv.milestones (t.adv.aRing / s.cfg.recordStep)) ∧
    (t.grout.target ≠ s.grout.target ∨
        s.inShare = true ∧ 0 < s.cfg.weight ∧ t.holds .grout = true ∧
          (t.grout.void ≠ s.grout.void ∨ t.grout.weight ≠ s.grout.weight ∨ t.grout.phi ≠ s.grout.phi) →
      t.inShare = true → 0 < t.grout.weight →
      t.grout.target = roundHalfUp (t.grout.void * t.grout.phi * t.cfg.weight) (1000 * t.grout.weight)) ∧
    ((∀ f ∈ s.port.rx, f.sender ≠ s.boot.station) → s.inShare = false → t.inShare = false → t.grout.target = s.grout.target)

/-! ## Encodings -/

/-- Every content that fits its layout is read back from its frame, whose check is good (R1, R5 to R9). -/
def Obligations.BulletinsRoundTrip : Prop :=
  ∀ (b : Bulletin) (sender : Nat), sender < 16 → senderAllowed b.code sender = true → fitsLayout b →
    (b.frame sender).good = true ∧ (b.frame sender).content = some b ∧ (b.frame sender).sender = sender ∧
      (b.frame sender).kindCode = b.code ∧ (b.frame sender).wellFormed = true

/-- The record a save writes is accepted at a restore of the same configuration and gives back every live component (R172,
R174). That its fields and check stand most significant byte first, and its signed fields in two's complement, is the model's
choice (DESIGN CHOICE, unsafe: log entry 44); the statement would hold of another order too. -/
def Obligations.RingRecordRoundTrips : Prop :=
  ∀ (s : State) (seq : Nat), seq < 65536 → FitsRecord s →
    decodeRecord (presentMask s.cfg) (s.recordBytes seq) = some
      { seq := seq
        adv := if 0 < s.adv.aRing ∨ 0 < s.adv.ring then
            some ⟨s.adv.ring, s.adv.base, s.adv.aRing, s.adv.grease, s.adv.milestones, s.shoe.lastServed⟩ else none
        grt := if s.cfg.roles.grout ∧ (0 < s.grout.delivered ∨ s.grout.carry ≠ 0) then
            some ⟨s.grout.delivered, s.grout.carry, s.grout.target⟩ else none
        mck := if s.cfg.roles.screw ∧ 0 < s.muck.mMeas then
            some ⟨s.muck.mMeas, s.muck.overdig, s.muck.underdig⟩ else none
        trm := if (s.cfg.roles.screw ∨ s.cfg.roles.drive) ∧ (s.muck.integ ≠ 0 ∨ s.drive.nSet ≠ 0) then
            some ⟨s.muck.integ, s.drive.nSet⟩ else none }

/-- A loaded configuration is in order: the pressures of R73, the band and the effective stroke of R110 (neither changes until an
image is read again, and no flag is raised at the load, where the backbone is OFFLINE), the chamber limits and the raw limits
of each input. That the watched pins hold no repeats rests on the model's reading of the pin test, which compares pins as clamped
(log 32). -/
def Obligations.LoadedConfigurationInOrder : Prop :=
  (∀ (station : Nat) (image : List Byte) (c : StationConfig), loadImage station image = some c →
    let ws := imageWords (image.drop 4)
    c.pFloor = min (constant ws 39 0 4000) c.pCeiling ∧
    c.pHoldMin = clampNat c.pFloor c.pCeiling (constant ws 40 0 4000) ∧ c.pFloor ≤ c.pHoldMin ∧ c.pHoldMin ≤ c.pCeiling ∧
    c.pShoe = clampNat c.pFloor c.pCeiling (constant ws 42 0 4000) ∧ c.pFloor ≤ c.pShoe ∧ c.pShoe ≤ c.pCeiling ∧
    c.forceCeiling = c.pCeiling * c.pistonArea / 1000 ∧ c.forceCeiling ≤ 40000 ∧
    c.deltaLo = constant ws 62 0 10000 ∧ c.deltaHi = clampNat (c.deltaLo + 1) 20000 (constant ws 63 1 20000) ∧
    c.deltaLo + 1 ≤ c.deltaHi ∧ c.deltaHi ≤ 20000 ∧
    c.strokeVolume = constant ws 56 100 20000 ∧ c.efficiency = constant ws 57 500 1000 ∧
    c.effectiveStroke = (2 * (c.strokeVolume * c.efficiency) + 1000) / 2000 ∧
    50 ≤ c.effectiveStroke ∧ c.effectiveStroke ≤ 20000 ∧
    c.chamberOkMin ≤ c.chamberOkMax ∧ c.chamberOkMax ≤ 65535 ∧
    (∀ i : Fin 12, c.inputs[i].rawMin ≤ c.inputs[i].rawMax ∧ c.inputs[i].rawMax ≤ 4095) ∧
    (c.roles.thrust ∨ c.roles.grout → ∃ k, c.sector = some k ∧ k < c.sectors) ∧ c.watchedPins.Nodup ∧ 0 < station) ∧
  (∀ c s t, exec c s = .next t → t.cfg = s.cfg ∨ s.boot.phase = .readingConfig ∧ ∃ answer, c = .configReadComplete answer) ∧
  (∀ c s t, exec c s = .next t → t.boot.phase = .readingConfig →
    s.boot.phase = .readingConfig ∨ ∃ straps, c = .powerOn straps ∨ c = .lineReset straps) ∧
  ∀ answer s t, s.port.backbone = .offline → exec (.configReadComplete answer) s = .next t → t.events.flags = s.events.flags

/-! ## Starts -/

/-- POWER_ON: every block at its start values, every record and flag emptied, every output LOW, the alarm active; what the
outside holds (pins, memory contents) and the configuration not yet read again stand as they were. The save sequence of 0 is the
model's choice (log 40). -/
def Obligations.PowerOnStarts : Prop :=
  ∀ straps s, ∃ t, exec (.powerOn straps) s = .next t ∧
    t.boot = ⟨if s.pins.resetLow then .held else .readingConfig, .powerOn, false, straps.toNat, RoleMask.empty, s.boot.digest⟩ ∧
    t.faults = ⟨none, none, none, none, none⟩ ∧ t.events = ⟨0#16, false, true⟩ ∧
    t.port.backbone = .offline ∧ t.port.failures = 0 ∧ t.port.rejected = 0 ∧ t.port.queue = [] ∧ t.port.onLine = none ∧
    t.port.rx = [] ∧ t.table = PeerTable.start straps.toNat s.cfg.pRefFallback ∧ t.adv = Advance.start ∧
    t.drive = Drive.start false ∧ t.thrust = Thrust.start s.cfg ∧ t.shoe = Shoe.start false ∧
    t.grout = Grout.start s.cfg false ∧ t.muck = Muck.start s.cfg false ∧ t.converting = none ∧
    (∀ i, t.inRec i = InputRec.start) ∧ (∀ i, t.ch i = ChannelRec.start) ∧
    t.mem.inFlight = none ∧ t.mem.recordPending = false ∧ t.mem.seq = 0 ∧ t.mem.image = s.mem.image ∧
    t.pins = { s.pins with straps := straps } ∧ t.cfg = s.cfg ∧ t.now = s.now ∧ t.pending = s.pending

/-- LINE_RESET starts the station and RESET_ASSERTED holds it: the job records and the flags are kept, the STATION record is
emptied, each job with a held record is in FAULT, every output is LOW and the alarm is active. -/
def Obligations.ResetPinKeepsRecords : Prop :=
  ∀ (c : Instr) (straps : BitVec 4) (phase : BootPhase) (low : Bool) (s : State),
    (c = .lineReset straps ∧ phase = .readingConfig ∧ low = false ∨
      c = .resetAsserted ∧ straps = s.pins.straps ∧ phase = .held ∧ low = true) →
    ∃ t, exec c s = .next t ∧
      t.boot = ⟨phase, .lineReset, false, straps.toNat, RoleMask.empty, s.boot.digest⟩ ∧
      t.faults = { s.faults with station := none } ∧ t.events = ⟨s.events.flags, false, true⟩ ∧
      t.port.backbone = .offline ∧ t.port.queue = [] ∧ t.port.onLine = none ∧ t.port.rx = [] ∧
      t.adv = Advance.start ∧ t.drive = Drive.start s.faults.drive.isSome ∧ t.thrust = Thrust.start s.cfg ∧
      t.shoe = Shoe.start s.faults.thrust.isSome ∧ t.grout = Grout.start s.cfg s.faults.grout.isSome ∧
      t.muck = Muck.start s.cfg s.faults.screw.isSome ∧ t.converting = none ∧ (∀ i, t.ch i = ChannelRec.start) ∧
      t.mem.inFlight = none ∧ t.pins = { s.pins with straps := straps, resetLow := low } ∧ t.cfg = s.cfg ∧
      t.pending = s.pending

/-- A SERVICE RESTART for this station starts it with its configuration accepted at once: records and flags kept, outputs at
their safe levels, a write in flight left to complete; a stop input that is active sets the latch. -/
def Obligations.RestartKeepsConfiguration : Prop :=
  ∀ straps s b, s.serviceHead .restart = some b → b.target = s.boot.station ∨ b.target = 0 → straps ≠ 0#4 →
    ∃ t, exec (.restart straps) s = .next t ∧ t.cfg = s.cfg ∧
      t.boot = ⟨if s.mem.inFlight.isSome then .waitingWrite else .readingRecord, .restart, true, straps.toNat,
        RoleMask.empty, s.boot.digest⟩ ∧
      t.faults = { s.faults with station := none } ∧ t.events.flags = s.events.flags ∧
      t.events.stopped = s.pins.stopInput ∧ t.port.backbone = .offline ∧ t.port.queue = [] ∧ t.port.rx = [] ∧
      t.adv = Advance.start ∧ t.drive = Drive.start s.faults.drive.isSome ∧ t.thrust = Thrust.start s.cfg ∧
      t.mem.inFlight = s.mem.inFlight ∧
      (∀ i, (t.ch i).gate = false ∧ (t.ch i).high = restLevel (s.chCfg i) ∧ (t.ch i).capture = none) ∧
      t.pending = s.pending

/-- CONFIG_READ_COMPLETE with a good image: it is accepted, the converter starts at the first scanned input, and an active stop
input sets the latch. Without an answer or with a bad image: nothing is accepted and the STATION record takes CONFIG_BAD with the
value 0, the alarm active. -/
def Obligations.ConfigReadDecides : Prop :=
  (∀ bytes s c, s.boot.phase = .readingConfig → loadImage s.boot.station bytes = some c →
    ∃ t, exec (.configReadComplete (some bytes)) s = .next t ∧ t.cfg = c ∧
      t.boot = { s.boot with
        accepted := true, digest := c.machineDigest
        phase := if s.mem.inFlight.isSome then .waitingWrite else .readingRecord } ∧
      t.converting = inputIndices.find? t.scanned ∧ t.mem.image = bytes ∧
      t.events.stopped = (s.events.stopped || s.pins.stopInput) ∧ t.port.backbone = s.port.backbone ∧
      t.faults = s.faults ∧ t.drive = s.drive ∧ t.pins = s.pins ∧ t.pending = s.pending) ∧
  ∀ answer s, s.boot.phase = .readingConfig → s.faults.station = none →
    (∀ bytes, answer = some bytes → loadImage s.boot.station bytes = none) →
    ∃ t, exec (.configReadComplete answer) s = .next t ∧ t.boot = { s.boot with phase := .bad, accepted := false } ∧
      t.faults = { s.faults with station := some ⟨.configBad, 0, s.adv.ring, s.faultStep .station, 0⟩ } ∧
      t.events.alarm = true ∧ t.cfg = s.cfg ∧ t.port.backbone = s.port.backbone ∧ t.drive = s.drive ∧ t.shoe = s.shoe ∧
      t.pending = s.pending

/-- RING_RECORD_READ_COMPLETE with an accepted record: the live components are loaded within their ranges, each that is not live
leaves its accounts, V and M_exp are computed from the restored A_ring, the balance is examined once, and the backbone state becomes
JOINING with the join and rate timers running. What follows A_ring, T, the latches and the save sequence is said of a station not in
EXCAVATE, which no start is, T of one that has heard no GROUT. A write left pending takes the next sequence number at once. The
byte order that the record is read in is the model's choice (log entry 44). -/
def Obligations.AcceptedRecordRestores : Prop :=
  ∀ bytes s r, s.boot.phase = .readingRecord → s.mem.recordTorn = false → decodeRecord (presentMask s.cfg) bytes = some r →
    ∃ t, exec (.ringRecordReadComplete (some bytes)) s = .next t ∧ t.boot = { s.boot with phase := .done } ∧
      t.port.backbone = .joining ∧ t.port.joinTimer = s.timer s.cfg.joinWindow ∧ t.adv.rateTimer = s.timer s.cfg.rateWindow ∧
      (∀ a, r.adv = some a → t.adv.ring = a.ring ∧ t.adv.base = (if s.holds .thrust then a.base else 0) ∧
        t.shoe.lastServed = min a.lastServed 15 ∧ t.adv.rateBase = a.aRing) ∧
      (r.adv = none → t.adv.ring = s.adv.ring ∧ t.adv.base = s.adv.base ∧ t.shoe.lastServed = s.shoe.lastServed ∧
        t.adv.rateBase = s.adv.aRing) ∧
      (s.table.mode ≠ .excavate →
        (∀ a, r.adv = some a →
          t.adv.aRing = a.aRing ∧ t.adv.grease = a.grease ∧ t.adv.milestones = a.milestones) ∧
        (r.adv = none →
          t.adv.aRing = s.adv.aRing ∧ t.adv.grease = s.adv.grease ∧ t.adv.milestones = s.adv.milestones) ∧
        t.adv.void = roundHalfUp (t.adv.aRing * s.cfg.annulusArea) 100 ∧
        t.adv.mExp = roundHalfUp (t.adv.aRing * s.cfg.faceArea * s.cfg.density) 1000000 ∧
        t.grout.void = t.adv.void ∧ t.muck.mExp = t.adv.mExp ∧
        (s.grout.weight = 0 → (∀ n ∈ stationNumbers, (s.table.entry n).grout.content = none) →
          t.grout.target = (match r.grt with | some g => min g.target 43253100 | none => s.grout.target)) ∧
        (let examined : Prop := s.holds .screw ∧ s.cfg.balanceMin ≤ t.adv.aRing ∧ 0 < t.adv.mExp
          let balance := if examined then clampNat 0 65535 (roundHalfUp (t.muck.mMeas * 1000) t.adv.mExp) else s.muck.balance
          let overdig := match r.mck with | some m => m.overdig | none => s.muck.overdig
          let underdig := match r.mck with | some m => m.underdig | none => s.muck.underdig
          t.muck.balance = balance ∧
          t.muck.overdig = decide (overdig = true ∨ examined ∧ s.cfg.overThreshold < balance) ∧
          t.muck.underdig = decide (underdig = true ∨ examined ∧ balance < s.cfg.underThreshold)) ∧
        t.mem.seq =
          (if s.mem.inFlight = none ∧ s.mem.faultPending = false ∧ s.mem.recordPending = true then (r.seq + 1) % 65536
            else r.seq)) ∧
      (∀ g, r.grt = some g → t.grout.delivered = min g.delivered 2000000000 ∧
        t.grout.carry = clampInt (-(s.cfg.carryMax : Int)) s.cfg.carryMax g.carry) ∧
      (r.grt = none → t.grout.delivered = s.grout.delivered ∧ t.grout.carry = s.grout.carry) ∧
      (∀ m, r.mck = some m → t.muck.mMeas = min m.mMeas 4000000000) ∧
      (r.mck = none → t.muck.mMeas = s.muck.mMeas) ∧
      (∀ m, r.trm = some m → s.holds .screw →
        t.muck.integ = clampInt (-(s.cfg.iMax * 1000 : Int)) (s.cfg.iMax * 1000) m.integ) ∧
      (r.trm = none ∨ s.holds .screw = false → t.muck.integ = s.muck.integ) ∧
      (∀ m, r.trm = some m → s.holds .drive → s.faults.drive = none →
        t.drive = { s.drive with
          nSet := min m.nSet s.cfg.speedMax
          state := if 0 < min m.nSet s.cfg.speedMax then .stopping else s.drive.state }) ∧
      (r.trm = none ∨ s.holds .drive = false ∨ s.faults.drive.isSome → t.drive = s.drive) ∧
      t.cfg = s.cfg ∧ t.faults = s.faults ∧ t.events.stopped = s.events.stopped ∧ t.pending = s.pending

/-- RING_RECORD_READ_COMPLETE with no answer, a record that is refused or one torn by a reset: RECORD_LOST is raised, every
component keeps its initial value and the backbone state becomes JOINING. The advance accounts, T, the balance, the latches and the
save sequence are said of a station not in EXCAVATE, which no start is, T of one that has heard no GROUT. That a torn record is
refused whatever bytes the read brings, until a write has been answered, and after a write that failed too, is the model's choice
(DESIGN CHOICE: log entries 7 and 42), and so is the byte order that a record is read in (log entry 44). -/
def Obligations.RefusedRecordIsLost : Prop :=
  ∀ answer s, s.boot.phase = .readingRecord →
    (s.mem.recordTorn = true ∨ ∀ bytes, answer = some bytes → decodeRecord (presentMask s.cfg) bytes = none) →
    ∃ t, exec (.ringRecordReadComplete answer) s = .next t ∧
      Settled
        { s with
          boot := { s.boot with phase := .done }
          port := { s.port with backbone := .joining, joinTimer := s.timer s.cfg.joinWindow }
          adv := { s.adv with rateTimer := s.timer s.cfg.rateWindow }
          mem := { s.mem with record := answer <|> s.mem.record, faultPending := t.mem.faultPending }
          events := { s.events with flags := s.events.flags ||| EventFlag.recordLost.mask } } t ∧
      (s.table.mode ≠ .excavate →
        t.adv.aRing = s.adv.aRing ∧ t.adv.void = s.adv.void ∧ t.adv.mExp = s.adv.mExp ∧
        t.adv.grease = s.adv.grease ∧ t.adv.milestones = s.adv.milestones ∧ t.grout.void = s.grout.void ∧
        (s.grout.weight = 0 → (∀ n ∈ stationNumbers, (s.table.entry n).grout.content = none) →
          t.grout.target = s.grout.target) ∧
        t.muck.mExp = s.muck.mExp ∧ t.muck.balance = s.muck.balance ∧ t.muck.overdig = s.muck.overdig ∧
        t.muck.underdig = s.muck.underdig ∧
        t.mem.seq =
          (if s.mem.inFlight = none ∧ s.mem.faultPending = false ∧ s.mem.recordPending = true then 1 else 0))

/-- JOIN_TIMER_EXPIRY: ONLINE below 16 failures, else ISOLATED; the evaluation timers of the roles in service start one period
away. -/
def Obligations.JoinTimerLeavesJoining : Prop :=
  ∀ s, s.port.joinTimer.on = true → s.port.backbone = .joining →
    ∃ t, exec .joinTimerExpiry s = .next t ∧
      t.port.backbone = (if s.port.failures < 16 then .online else .isolated) ∧ t.port.joinTimer = .stopped ∧
      t.drive.evalTimer = (if s.holds .drive then s.timer s.cfg.evalDrive else s.drive.evalTimer) ∧
      t.thrust.evalTimer = (if s.holds .thrust then s.timer s.cfg.evalThrust else s.thrust.evalTimer) ∧
      t.grout.evalTimer = (if s.holds .grout then s.timer s.cfg.evalGrout else s.grout.evalTimer) ∧
      t.muck.evalTimer = (if s.holds .screw then s.timer s.cfg.evalScrew else s.muck.evalTimer) ∧
      t.drive.state = s.drive.state ∧ t.adv.ring = s.adv.ring ∧ t.faults = s.faults ∧ t.cfg = s.cfg ∧
      t.port.failures = s.port.failures ∧ t.events.stopped = s.events.stopped ∧ t.pending = s.pending ∧
      (s.shoe.state = .extending → s.shoe.decisionPending = false → s.holds .thrust → s.events.stopped = false →
        t.shoe.extend = s.timer s.cfg.extendTimeout)

/-! ## The line -/

/-- LINE_FREE offers the head of the queue, and LOST_ARBITRATION leaves its entry queued, holding what was written into it, with its
renewed mark; an entry that R10 marked to be dropped goes at the loss, which is the model's reading (log 19). -/
def Obligations.LineOffersHeadAndKeepsLoser : Prop :=
  (∀ s e rest, AtRest s → s.onBackbone = true → s.port.onLine = none → s.port.queue = e :: rest →
    exec .lineFree s = .next { s with port := { s.port with onLine := some (e.body.frame s.boot.station) } }) ∧
  ∀ s f, AtRest s → s.port.onLine = some f →
    exec .lostArbitration s =
      .next { s with port := { s.port with onLine := none, queue := afterLost f.kindCode s.port.queue } }

/-- ACKNOWLEDGED: the failure count is 0, the entry leaves the queue unless it was renewed, and ISOLATED is left for ONLINE.
UNACKNOWLEDGED and BIT_ERROR: the failure count rises, at most to 16; the frame is not repeated. In ONLINE the sixteenth
failure makes the state ISOLATED, which aborts a ring build. -/
def Obligations.FrameOutcomesCounted : Prop :=
  (∀ s f, AtRest s → s.port.onLine = some f → s.port.backbone ≠ .isolated →
    exec .acknowledged s =
      .next { s with port := { s.port with onLine := none, failures := 0, queue := afterEnd f.kindCode s.port.queue } }) ∧
  (∀ s f, s.port.onLine = some f →
    Gives .acknowledged s
      { s with port := { s.port with
        onLine := none
        failures := 0
        backbone := if s.port.backbone = .isolated then .online else s.port.backbone } }) ∧
  ∀ (c : Instr), c = .unacknowledged ∨ c = .bitError →
    (∀ s f, AtRest s → s.port.onLine = some f → (s.port.backbone = .online → s.port.failures + 1 < 16) →
      exec c s = .next { s with port := { s.port with
        onLine := none
        failures := min 16 (s.port.failures + 1)
        queue := afterEnd f.kindCode s.port.queue } }) ∧
    ∀ s f, s.port.onLine = some f → s.port.backbone = .online → 15 ≤ s.port.failures →
      ∃ t, exec c s = .next t ∧ t.port.backbone = .isolated ∧ t.port.failures = 16 ∧ t.port.onLine = none ∧
        t.port.rx = s.port.rx ∧ t.drive = s.drive ∧ t.adv.ring = s.adv.ring ∧ t.faults = s.faults ∧ t.cfg = s.cfg ∧
        (s.holds .thrust → s.events.stopped = false → s.faults.thrust = none →
          t.shoe.state = (match s.shoe.state with
            | .engaged | .claiming => .engaged
            | .retracting | .clear | .extending => .extending))

/-- FRAME_ARRIVES with a good frame of another station and room in the buffer: it is acknowledged and its content, clamped, is
appended; in ISOLATED the station returns to ONLINE. -/
def Obligations.GoodFrameIsBuffered : Prop :=
  ∀ s f b, s.onBackbone = true → f.good = true → f.sender ≠ s.boot.station → f.content = some b → s.port.rx.length < 4 →
    Gives (.frameArrives f) s
      { s with port := { s.port with
        ackDriven := true
        rx := s.port.rx ++ [⟨f.sender, b.buffered s.cfg⟩]
        backbone := if s.port.backbone = .isolated then .online else s.port.backbone
        failures := if s.port.backbone = .isolated then 0 else s.port.failures } }

/-- FRAME_ARRIVES that buffers nothing: a full buffer raises RX_OVERRUN, a content that R4 step 4 rejects raises the rejected
count, and a frame with a bad check, or any frame in OFFLINE or SILENT, is not acknowledged and changes nothing (R4). -/
def Obligations.OtherFramesAreDropped : Prop :=
  (∀ s f b, s.onBackbone = true → f.good = true → f.sender ≠ s.boot.station → f.content = some b → 4 ≤ s.port.rx.length →
    Gives (.frameArrives f) s
      { s with
        port := { s.port with
          ackDriven := true
          backbone := if s.port.backbone = .isolated then .online else s.port.backbone
          failures := if s.port.backbone = .isolated then 0 else s.port.failures }
        events := { s.events with flags := s.events.flags ||| EventFlag.rxOverrun.mask } }) ∧
  (∀ s f, s.onBackbone = true → f.good = true → f.sender ≠ s.boot.station → f.content = none →
    Gives (.frameArrives f) s
      { s with port := { s.port with
        ackDriven := true
        rejected := min 255 (s.port.rejected + 1)
        backbone := if s.port.backbone = .isolated then .online else s.port.backbone
        failures := if s.port.backbone = .isolated then 0 else s.port.failures } }) ∧
  ∀ s f, AtRest s → f.good = false ∨ s.onBackbone = false →
    exec (.frameArrives f) s = .next { s with port := { s.port with ackDriven := false } }

/-- FRAME_ARRIVES with the own number: the station is SILENT, its queue and buffer empty, every gate shut, every evaluation
stopped, and the STATION record holds NUMBER_CLASH with the frame's kind code. -/
def Obligations.NumberClashSilences : Prop :=
  ∀ s f, s.onBackbone = true → f.good = true → f.sender = s.boot.station → s.faults.station = none →
    ∃ t, exec (.frameArrives f) s = .next t ∧ t.port.backbone = .silent ∧ t.port.queue = [] ∧ t.port.rx = [] ∧
      t.port.onLine = none ∧ t.port.ackDriven = true ∧ (∀ i, (t.ch i).gate = false) ∧
      t.drive.evalTimer = .stopped ∧ t.thrust.evalTimer = .stopped ∧ t.grout.evalTimer = .stopped ∧
      t.muck.evalTimer = .stopped ∧ t.adv.rateTimer = .stopped ∧
      (∃ r, t.faults = { s.faults with station := some r } ∧ r.cause = .numberClash ∧ r.value = f.kindCode ∧
        r.ring = s.adv.ring ∧ r.later = 0) ∧
      t.events.alarm = true ∧ t.drive.state = s.drive.state ∧ t.drive.nSet = s.drive.nSet ∧
      t.adv.ring = s.adv.ring ∧ t.cfg = s.cfg ∧ t.events.stopped = s.events.stopped

/-! ## Taking frames -/

/-- BULLETIN_TAKEN of a peer's THRUST, CLAIM, GROUT, DRIVE, SCREW or STATUS: the frame leaves the buffer, the slot of its kind holds
it with its currency restarted, and the entry is LIVE. A CLAIM refreshes the own wait reason in CLAIMING, the first failing test of
R95 over the table with that CLAIM (R96), and nothing else of the shoe. Where a counted SCREW slot then gives the reference, it is
FRESH at that chamber pressure. -/
def Obligations.PeerBulletinFillsSlot : Prop :=
  ∀ s n b rest, s.port.rx = ⟨n, b⟩ :: rest → 1 ≤ n → n ≤ 15 → n ≠ s.boot.station →
    b.code = 1 ∨ b.code = 6 ∨ b.code = 7 ∨ b.code = 8 ∨ b.code = 9 ∨ b.code = 10 →
    ∃ t, exec .bulletinTaken s = .next t ∧
      t.table.entry n = { (s.table.entry n).write (s.timer s.cfg.lapseTime) b with liveness := .live } ∧
      Settled
        { s with
          port := { s.port with rx := rest }
          table := s.table.putEntry n { (s.table.entry n).write (s.timer s.cfg.lapseTime) b with liveness := .live }
          shoe := { s.shoe with wait := t.shoe.wait } } t ∧
      (∀ source, t.screwSource = some source →
        t.table.refState = .fresh ∧ t.table.pRef = source.pCh ∧ t.table.staleTimer = .stopped) ∧
      (b.code = 1 → s.shoeMoves = true → s.shoe.state = .claiming →
        let u := { s with
          port := { s.port with rx := rest }
          table := s.table.putEntry n { (s.table.entry n).write (s.timer s.cfg.lapseTime) b with liveness := .live } }
        t.shoe.wait =
          (if 1 ≤ u.neighbourBlock then .adjacent
            else if u.cfg.retractLimit ≤ u.retractedCount then .limit
            else if u.priorityBlock then .priority
            else if u.engagedCeilingSum < u.thrust.fReq then .holdShort
            else .none)) ∧
      (b.code ≠ 1 ∨ s.shoe.state ≠ .claiming ∨ s.shoeMoves = false → t.shoe.wait = s.shoe.wait)

/-- BULLETIN_TAKEN of a SETPOINT: the console's slot holds it; the first one gives the machine the mode of a current MODE. -/
def Obligations.SetpointFillsSlot : Prop :=
  ∀ s b rest, s.port.rx = ⟨0, .setpoint b⟩ :: rest →
    (s.table.console.setpoint.content ≠ none ∨ s.consoleCurrent = false →
      Gives .bulletinTaken s
        { s with
          port := { s.port with rx := rest }
          table := { s.table with console :=
            { s.table.console with setpoint := ⟨some b, s.timer s.cfg.lapseTime⟩ } } }) ∧
    ∀ m, s.table.console.setpoint.content = none → s.consoleCurrent = true → s.table.console.mode.content = some m →
      ∃ t, exec .bulletinTaken s = .next t ∧ t.table.mode = m.mode.effective ∧
        t.table.console.setpoint = ⟨some b, s.timer s.cfg.lapseTime⟩ ∧ t.port.rx = rest ∧ t.drive = s.drive ∧
        t.adv.ring = s.adv.ring ∧ t.faults = s.faults ∧ t.events.stopped = s.events.stopped

/-- ID_TAKEN from a station whose ID gives no reason to yield: the slot, the entry LIVE and its foreign flag after the digest; a
first difference raises CONFIG_MISMATCH. -/
def Obligations.IdIdentifiesEntry : Prop :=
  ∀ s n b rest, s.port.rx = ⟨n, .id b⟩ :: rest → 1 ≤ n → n ≤ 15 → n ≠ s.boot.station →
    s.boot.station < n ∨ b.digest ≠ s.boot.digest ∨
      ((s.holds .screw && b.roles.screw) = false ∧
        (s.holds .thrust && b.roles.thrust && s.cfg.sector == some b.sector) = false) →
    ∃ t, exec .idTaken s = .next t ∧
      t.table.entry n = { s.table.entry n with
        id := ⟨some b, s.timer s.cfg.lapseTime⟩, liveness := .live, foreign := decide (b.digest ≠ s.boot.digest) } ∧
      Settled
        { s with
          port := { s.port with rx := rest }
          table := s.table.putEntry n { s.table.entry n with
            id := ⟨some b, s.timer s.cfg.lapseTime⟩, liveness := .live, foreign := decide (b.digest ≠ s.boot.digest) }
          events := { s.events with flags :=
            if b.digest ≠ s.boot.digest ∧ (s.table.entry n).foreign = false then
              s.events.flags ||| EventFlag.configMismatch.mask else s.events.flags } } t

/-- ID_TAKEN from a lower-numbered station with the own digest: SCREW is yielded where both hold it, THRUST and GROUT where both
hold THRUST for one sector, each with its event, the outputs of a yielded role at rest. -/
def Obligations.LowerStationTakesRoles : Prop :=
  ∀ s n b rest, s.port.rx = ⟨n, .id b⟩ :: rest → 1 ≤ n → n < s.boot.station → s.boot.station ≤ 15 →
    b.digest = s.boot.digest →
    ∃ t, exec .idTaken s = .next t ∧ t.port.rx = rest ∧ t.cfg = s.cfg ∧ t.drive = s.drive ∧ t.faults = s.faults ∧
      t.events.stopped = s.events.stopped ∧ t.adv.ring = s.adv.ring ∧
      t.boot = { s.boot with yielded :=
        { thrust := s.boot.yielded.thrust ||
            (s.holds .thrust && b.roles.thrust && s.cfg.sector == some b.sector)
          grout := s.boot.yielded.grout ||
            (s.holds .thrust && b.roles.thrust && s.cfg.sector == some b.sector && s.holds .grout)
          drive := s.boot.yielded.drive
          screw := s.boot.yielded.screw || (s.holds .screw && b.roles.screw) } } ∧
      (∀ i r, (s.chCfg i).function.role = some r → t.boot.yielded.has r = true → (t.ch i).gate = false) ∧
      (s.holds .screw && b.roles.screw →
        t.events.flags &&& EventFlag.roleYielded.mask = EventFlag.roleYielded.mask ∧
        (t.muck.state = .off ∨ t.muck.state = .fault) ∧ t.muck.nOut = 0) ∧
      (s.holds .thrust && b.roles.thrust && s.cfg.sector == some b.sector →
        t.events.flags &&& EventFlag.sectorClash.mask = EventFlag.sectorClash.mask ∧
        t.adv.stroke = 0 ∧ t.adv.base = 0 ∧ t.adv.advance = 0 ∧ t.adv.strokeValid = false)

/-- MODE_TAKEN with the own ring number. With a SETPOINT held the effective mode is the console's; a change of mode decides the screw
anew, and a change away from BUILD aborts a ring build. With the SETPOINT slot empty the slot of MODE is filled and the effective
mode stays as it was (R24). -/
def Obligations.ModeTakesEffect : Prop :=
  (∀ s b rest, s.port.rx = ⟨0, .mode b⟩ :: rest → b.ring = s.adv.ring → s.table.console.setpoint.content = none →
    Gives .modeTaken s
      { s with
        port := { s.port with rx := rest }
        table := { s.table with console :=
          { s.table.console with mode := ⟨some b, s.timer s.cfg.lapseTime⟩ } } }) ∧
  ∀ s b rest, s.port.rx = ⟨0, .mode b⟩ :: rest → b.ring = s.adv.ring → s.table.console.setpoint.content ≠ none →
    ∃ t, exec .modeTaken s = .next t ∧ t.table.mode = b.mode.effective ∧
      t.table.console = { s.table.console with mode := ⟨some b, s.timer s.cfg.lapseTime⟩ } ∧ t.port.rx = rest ∧
      t.adv.ring = s.adv.ring ∧ t.adv.base = s.adv.base ∧ t.drive = s.drive ∧ t.faults = s.faults ∧ t.boot = s.boot ∧
      t.cfg = s.cfg ∧ t.events.stopped = s.events.stopped ∧ t.thrust.pSet = s.thrust.pSet ∧
      t.grout.delivered = s.grout.delivered ∧ t.muck.mMeas = s.muck.mMeas ∧
      (b.mode.effective = s.table.mode → t.shoe = s.shoe ∧ t.muck.state = s.muck.state) ∧
      (b.mode.effective ≠ s.table.mode → s.holds .screw → t.muck.state =
        (if s.faults.screw.isSome then .fault
          else if s.events.stopped ∨ b.mode = .standby then .off
          else if s.muck.blind then .blind else .running)) ∧
      (b.mode.effective ≠ s.table.mode → b.mode ≠ .build → s.shoeMoves = true → s.faults.thrust = none →
        t.shoe.state = (match s.shoe.state with
          | .engaged | .claiming => .engaged
          | .retracting | .clear | .extending => .extending)) ∧
      (b.mode = .build → t.shoe = s.shoe)

/-- MODE_TAKEN with another ring number: one above closes the ring with the carry, more than one above closes it without and
raises RING_JUMP, and a lower one leaves every account as it is and raises RING_BACKWARD. The shoe's step accounts are reset in every
backbone state, JOINING among them: there that is the model's choice, against the letter of R91 (log 13). The carry is said of a
state whose accounts are true to their sources, or, outside EXCAVATE, whose grout weight is, so that E stands until the close. After
the close the accounts are those of the new ring: A_ring is 0, but that in EXCAVATE the peers already in that ring move it on at
once, with V, M_exp and both counts (where the same MODE enters EXCAVATE that is the model's reading against R42's last words,
log 37); and below balance_min no balance is struck and no latch stands. -/
def Obligations.RingNumberClosesRing : Prop :=
  ∀ s b rest, s.port.rx = ⟨0, .mode b⟩ :: rest → b.ring ≠ s.adv.ring →
    ∃ t, exec .modeTaken s = .next t ∧ t.port.rx = rest ∧ t.cfg = s.cfg ∧ t.boot = s.boot ∧ t.faults = s.faults ∧
      t.drive = s.drive ∧ t.events.stopped = s.events.stopped ∧ t.adv.stroke = s.adv.stroke ∧
      (s.adv.ring < b.ring →
        t.adv.ring = b.ring ∧ t.adv.base = s.adv.stroke ∧ t.adv.advance = 0 ∧ t.adv.rate = 0 ∧ t.adv.rateBase = 0 ∧
        t.adv.void = roundHalfUp (t.adv.aRing * s.cfg.annulusArea) 100 ∧
        t.adv.mExp = roundHalfUp (t.adv.aRing * s.cfg.faceArea * s.cfg.density) 1000000 ∧
        t.adv.grease = t.adv.aRing / s.cfg.greaseStep ∧ t.adv.milestones = t.adv.aRing / s.cfg.recordStep ∧
        (s.table.mode ≠ .excavate ∧ b.mode ≠ .excavate ∨
            (∀ n ∈ stationNumbers, ∀ c, (s.table.entry n).thrust.content = some c → c.ring ≠ b.ring) →
          t.adv.aRing = 0) ∧
        (s.holds .grout → t.grout.delivered = 0 ∧ t.grout.void = t.adv.void) ∧
        (s.holds .grout → AccountsTrue s ∨ s.grout.weight = s.liveWeight ∧ s.table.mode ≠ .excavate → t.grout.carry =
          (if b.ring = s.adv.ring + 1 then clampInt (-(s.cfg.carryMax : Int)) s.cfg.carryMax s.grout.deficit else 0)) ∧
        (s.holds .screw → t.muck.mMeas = 0 ∧
          (t.adv.aRing < s.cfg.balanceMin → t.muck.balance = 0 ∧ t.muck.overdig = false ∧ t.muck.underdig = false)) ∧
        (s.holds .thrust → t.shoe.lastServed = 0 ∧ t.shoe.expired = [])) ∧
      (s.adv.ring + 1 < b.ring →
        t.events.flags &&& EventFlag.ringJump.mask = EventFlag.ringJump.mask) ∧
      (b.ring < s.adv.ring →
        t.adv.ring = s.adv.ring ∧ t.adv.base = s.adv.base ∧ t.adv.advance = s.adv.advance ∧
        t.grout.delivered = s.grout.delivered ∧ t.grout.carry = s.grout.carry ∧ t.muck.mMeas = s.muck.mMeas ∧
        t.shoe.lastServed = s.shoe.lastServed ∧
        t.events.flags &&& EventFlag.ringBackward.mask = EventFlag.ringBackward.mask)

/-- BUILD_TAKEN: a claimable PLACE creates the claim with both timers, a matching PLACED in CLEAR moves the shoe to EXTENDING; in
RETRACTING and EXTENDING, and in CLEAR while the THRUST record is held (R105), it only sets the placed flag (R94). Any other BUILD,
and any while STOPPED is set or the jobs do not run (R91, R103), fills the console's slot and does no more. -/
def Obligations.BuildStartsAndEndsClaim : Prop :=
  ∀ s b rest, s.port.rx = ⟨0, .build b⟩ :: rest →
    let console := { s.table.console with build := (⟨some b, s.timer s.cfg.lapseTime⟩ : Slot BuildBody) }
    (s.holds .thrust = true → s.events.stopped = false → s.shoe.state = .engaged → s.table.mode = .build →
      s.port.backbone = .online → b.phase = .place → s.cfg.sector = some b.sector → b.ring = s.adv.ring →
      s.shoe.lastServed < b.step → b.step ∉ s.shoe.expired →
      Gives .buildTaken s
        { s with
          port := { s.port with rx := rest }
          table := { s.table with console := console }
          shoe := { s.shoe with
            state := .claiming
            claim := some ⟨b.ring, b.step, b.sector, none, false⟩
            wait := .none
            holdOff := s.timer s.cfg.effectiveHoldoff
            waitTimer := s.timer s.cfg.waitTime } }) ∧
    (∀ c, s.shoeMoves = true → s.shoe.state = .clear → s.shoe.claim = some c → s.faults.thrust = none →
      b.phase = .placed → b.ring = c.ring → b.step = c.step → b.sector = c.sector →
      Gives .buildTaken s
        (writeDuty .thrustRetract 0 (writeDuty .thrustExtend (dutyOf s.cfg.pShoe s.cfg.pFull)
          { s with
            port := { s.port with rx := rest }
            table := { s.table with console := console }
            shoe := { s.shoe with
              state := .extending
              claim := some { c with placed := true }
              retract := .stopped
              extend := s.timer s.cfg.extendTimeout } }))) ∧
    (∀ c, s.shoeMoves = true → s.shoe.claim = some c →
      s.shoe.state = .retracting ∨ s.shoe.state = .extending ∨ s.shoe.state = .clear ∧ s.faults.thrust.isSome →
      b.phase = .placed → b.ring = c.ring → b.step = c.step → b.sector = c.sector →
      Gives .buildTaken s
        { s with
          port := { s.port with rx := rest }
          table := { s.table with console := console }
          shoe := { s.shoe with claim := some { c with placed := true } } }) ∧
    (s.shoeMoves = false ∨ s.shoe.state = .claiming ∨
        s.shoe.state = .engaged ∧
          (s.table.mode ≠ .build ∨ s.port.backbone ≠ .online ∨ b.phase ≠ .place ∨ s.cfg.sector ≠ some b.sector ∨
            b.ring ≠ s.adv.ring ∨ b.step ≤ s.shoe.lastServed ∨ b.step ∈ s.shoe.expired) ∨
        s.shoe.state ≠ .engaged ∧
          (b.phase ≠ .placed ∨ ∀ c, s.shoe.claim = some c → b.ring ≠ c.ring ∨ b.step ≠ c.step ∨ b.sector ≠ c.sector) →
      Gives .buildTaken s
        { s with port := { s.port with rx := rest }, table := { s.table with console := console } })

/-- STOP_TAKEN from the console or a peer: the latch is set, every gate shut, a save triggered; set from clear, it freezes the shoe
and the screw goes OFF. -/
def Obligations.StopTakenSetsLatch : Prop :=
  ∀ s n b rest, s.port.rx = ⟨n, .stop b⟩ :: rest → n ≤ 15 → n ≠ s.boot.station →
    ∃ t, exec .stopTaken s = .next t ∧ t.events.stopped = true ∧ t.port.rx = rest ∧ (∀ i, (t.ch i).gate = false) ∧
      t.cfg = s.cfg ∧ t.boot = s.boot ∧ t.faults = s.faults ∧ t.drive = s.drive ∧ t.adv.ring = s.adv.ring ∧
      t.thrust.pSet = s.thrust.pSet ∧ t.grout.delivered = s.grout.delivered ∧
      (s.events.stopped = true → t.shoe = s.shoe ∧ t.muck.state = s.muck.state) ∧
      (s.events.stopped = false →
        t.shoe = { s.shoe with
          holdOff := .stopped, retract := .stopped, extend := .stopped, waitTimer := s.shoe.waitTimer.pausedAt s.now } ∧
        (s.holds .screw → t.muck.state = (if s.faults.screw.isSome then .fault else .off)) ∧
        (s.boot.accepted = true → s.mem.inFlight ≠ none ∨ s.boot.phase ≠ .done → t.mem.recordPending = true) ∧
        (s.boot.accepted = true → s.mem.inFlight = none → s.boot.phase = .done →
          ∃ bytes, t.mem.inFlight = some (.record bytes)))

/-! ## Services -/

/-- CLEAR_FAULT for this station: an empty record is left alone, a cause still present (a STATION cause always) refuses with
CLEAR_REFUSED, and otherwise the record is emptied and the job goes to its rest state. The grout line goes to IDLE; but where the
publication of that IDLE gives a new E at the same event, or the derate flag changes, the line stands at the first row of its
table, which is the model's reading (log 31). -/
def Obligations.ClearFaultDecides : Prop :=
  let row (t : State) : LineState :=
    if t.grout.deficit < (t.cfg.effectiveStroke : Int) then .idle
    else if t.events.stopped = true ∨ t.port.backbone = .isolated ∨ t.table.mode = .hold then .held
    else if t.grout.derate = true then .limited else .injecting
  ∀ s b j rest, s.port.rx = ⟨0, .service b⟩ :: rest → b.action = .clearFault → Job.ofCode b.arg = some j →
    b.target = s.boot.station ∨ b.target = 0 →
    (s.faults.get j = none → AtRest s → exec .clearFault s = .next { s with port := { s.port with rx := rest } }) ∧
    (∀ r, s.faults.get j = some r → s.stillPresent j r.cause = true ∨ j = .station →
      Gives .clearFault s
        { s with
          port := { s.port with rx := rest }
          events := { s.events with flags := s.events.flags ||| EventFlag.clearRefused.mask } }) ∧
    ∀ r, s.faults.get j = some r → s.stillPresent j r.cause = false →
      ∃ t, exec .clearFault s = .next t ∧ t.faults = s.faults.put j none ∧ t.port.rx = rest ∧ t.cfg = s.cfg ∧
        t.boot = s.boot ∧ t.events.stopped = s.events.stopped ∧ t.adv.ring = s.adv.ring ∧
        (j = .drive → t.drive = { s.drive with state := .off, nSet := 0 }) ∧ (j ≠ .drive → t.drive = s.drive) ∧
        (j = .screw → t.muck.state = .off) ∧
        (j = .grout → (t.grout.line = .idle ∨ t.grout.line = row t) ∧
          (s.holds .grout → t.grout.deficit ≠ s.grout.deficit ∨ t.grout.derate ≠ s.grout.derate → t.grout.line = row t) ∧
          (AtRest s → tableChanged s = s → s.table.mode ≠ .excavate → t.grout.deficit = s.grout.deficit →
            t.grout.line = .idle)) ∧
        (j = .thrust → s.shoe.state = .clear → s.shoeMoves = true →
          t.shoe.state = .extending ∧ t.shoe.extend = s.timer s.cfg.extendTimeout) ∧
        (j ≠ .thrust → t.shoe = s.shoe)

/-- CLEAR_EVENTS for this station clears the flags of its mask and no other. Outside EXCAVATE no event follows from it, nor in any
mode where nothing is left to publish and the blocks have all that the peer table gives. -/
def Obligations.ClearEventsClearsMask : Prop :=
  ∀ s b rest, s.port.rx = ⟨0, .service b⟩ :: rest → b.action = .clearEvents →
    b.target = s.boot.station ∨ b.target = 0 →
    Gives .clearEvents s
      { s with
        port := { s.port with rx := rest }
        events := { s.events with flags := s.events.flags &&& ~~~(BitVec.ofNat 16 b.arg) } } ∧
    (s.table.mode ≠ .excavate ∨ AtRest s ∧ tableChanged s = s → ∃ t, exec .clearEvents s = .next t ∧
      t.events.flags = s.events.flags &&& ~~~(BitVec.ofNat 16 b.arg))

/-- RESUME for this station: without STOPPED no effect; refused with CLEAR_REFUSED while the stop input or a STOP stands;
otherwise the latch is cleared and the shoe and the screw are resumed. -/
def Obligations.ResumeDecides : Prop :=
  ∀ s b rest, s.port.rx = ⟨0, .service b⟩ :: rest → b.action = .resume → b.target = s.boot.station ∨ b.target = 0 →
    (s.events.stopped = false → AtRest s → exec .resume s = .next { s with port := { s.port with rx := rest } }) ∧
    (s.events.stopped = true → s.pins.stopInput = true ∨ s.stopDemand = true →
      Gives .resume s
        { s with
          port := { s.port with rx := rest }
          events := { s.events with flags := s.events.flags ||| EventFlag.clearRefused.mask } }) ∧
    (s.events.stopped = true → s.pins.stopInput = false → s.stopDemand = false →
      ∃ t, exec .resume s = .next t ∧ t.events.stopped = false ∧ t.port.rx = rest ∧ t.cfg = s.cfg ∧ t.boot = s.boot ∧
        t.faults = s.faults ∧ t.drive = s.drive ∧ t.adv.ring = s.adv.ring ∧ t.thrust.pressure = s.thrust.pressure ∧
        (s.holds .screw → t.muck.state =
          (if s.faults.screw.isSome then .fault
            else if s.table.mode = .standby ∨ s.table.mode = .hold then .off
            else if s.muck.blind then .blind else .running)) ∧
        (s.shoeActs = true → s.table.mode = .build → s.port.backbone = .online → s.shoe.state = .claiming →
          t.shoe.state = .claiming ∧ t.shoe.holdOff = s.timer s.cfg.effectiveHoldoff ∧
          t.shoe.waitTimer = s.shoe.waitTimer.resumedAt s.now) ∧
        (s.shoeActs = true → s.shoe.state = .retracting → t.shoe.state = .extending))

/-- FORGET of another station's entry makes it ABSENT; SAVE starts a record write, or leaves one pending while the port is
busy. A SERVICE of any action that names another station leaves the buffer and does nothing else (R6, R25). The byte order of the
record written is the model's choice (log entry 44). -/
def Obligations.ForgetSaveAndUntargetedServices : Prop :=
  (∀ s n b rest straps c, AtRest s → s.port.rx = ⟨n, .service b⟩ :: rest → b.target ≠ s.boot.station → b.target ≠ 0 →
    c = (match b.action with
      | .clearFault => Instr.clearFault
      | .clearEvents => .clearEvents
      | .resume => .resume
      | .restart => .restart straps
      | .forget => .forget
      | .save => .save) →
    exec c s = .next { s with port := { s.port with rx := rest } }) ∧
  (∀ s b rest, s.port.rx = ⟨0, .service b⟩ :: rest → b.action = .forget → b.target = s.boot.station ∨ b.target = 0 →
    1 ≤ b.arg → b.arg ≤ 15 → b.arg ≠ s.boot.station → (s.table.entry b.arg).liveness ≠ .absent →
    ∃ t, exec .forget s = .next t ∧ t.table.entry b.arg = StationEntry.absent ∧
      Settled { s with port := { s.port with rx := rest }, table := s.table.putEntry b.arg StationEntry.absent } t) ∧
  ∀ s b rest, AtRest s → s.port.rx = ⟨0, .service b⟩ :: rest → b.action = .save →
    b.target = s.boot.station ∨ b.target = 0 → s.boot.accepted = true →
    exec .save s = .next { s with
      port := { s.port with rx := rest }
      mem := if s.mem.inFlight = none ∧ s.boot.phase = .done then
          { s.mem with
            inFlight := some (.record (s.recordBytes ((s.mem.seq + 1) % 65536)))
            recordPending := false
            seq := (s.mem.seq + 1) % 65536 }
        else { s.mem with recordPending := true } }

/-! ## Timers of the table, the port and the advance unit -/

/-- SLOT_CURRENCY_EXPIRY: a peer's slot keeps its content and is no longer current; with the last one the entry is LAPSED and
PEER_LAPSED is raised; where it leaves a FRESH reference without a source, the reference is STALE at the pressure it had, its timer
running. An own slot stops being current, unless the event publishes its kind anew, and the own entry stays as LIVE as it was. The
console's MODE slot makes the effective mode HOLD and raises CONSOLE_LAPSED; its SETPOINT, BUILD and STOP slots stop being current
and no more. In SILENT no expiry moves the thrust unit's state, the regime and the causes included: R86's words, read over R76
(DEDUCED, unsafe: log entry 30). -/
def Obligations.SlotExpiryLapses : Prop :=
  (∀ s n k, 1 ≤ n → n ≤ 15 → n ≠ s.boot.station → ((s.table.entry n).currency k).on = true →
    let e := (s.table.entry n).expire k
    let lapses : Bool := (s.table.entry n).liveness == .live && !e.anyCurrent
    ∃ t, exec (.slotCurrencyExpiry (.station n k)) s = .next t ∧
      t.table.entry n = (if lapses then { e with liveness := .lapsed } else e) ∧
      Settled
        { s with
          table := s.table.putEntry n (if lapses then { e with liveness := .lapsed } else e)
          events := { s.events with flags :=
            if lapses then s.events.flags ||| EventFlag.peerLapsed.mask else s.events.flags } } t ∧
      (AtRest s → (s.port.pubTimer.get .screw).on = false → s.table.refState = .fresh →
        { s with table := s.table.putEntry n e }.screwSource = none →
        t.table.refState = .stale ∧ t.table.pRef = s.table.pRef ∧ t.table.staleTimer = s.timer (10 * s.cfg.lapseTime))) ∧
  (∀ s k, 1 ≤ s.boot.station → s.boot.station ≤ 15 → (s.ownEntry.currency k).on = true →
    ∃ t, exec (.slotCurrencyExpiry (.station s.boot.station k)) s = .next t ∧
      t = finish (tableChanged { s with table := s.table.putEntry s.boot.station (s.ownEntry.expire k) }) ∧ Settled s t ∧
      (t.ownEntry.currency k = .stopped ∨ t.ownEntry.currency k = s.timer s.cfg.lapseTime) ∧
      t.ownEntry.liveness = s.ownEntry.liveness ∧
      t.events.flags &&& EventFlag.peerLapsed.mask = s.events.flags &&& EventFlag.peerLapsed.mask) ∧
  (∀ s slot, slot ≠ .mode → (s.table.console.currency slot).on = true →
    Gives (.slotCurrencyExpiry (.console slot)) s
      { s with table := { s.table with console := (match slot with
          | .mode => s.table.console
          | .setpoint => { s.table.console with setpoint := { s.table.console.setpoint with currency := .stopped } }
          | .build => { s.table.console with build := { s.table.console.build with currency := .stopped } }
          | .stop => { s.table.console with stop := { s.table.console.stop with currency := .stopped } }) } }) ∧
  (∀ s, s.table.console.mode.currency.on = true →
    ∃ t, exec (.slotCurrencyExpiry (.console .mode)) s = .next t ∧ t.table.mode = .hold ∧
      t.table.console = { s.table.console with mode := { s.table.console.mode with currency := .stopped } } ∧
      t.events.flags &&& EventFlag.consoleLapsed.mask = EventFlag.consoleLapsed.mask ∧ t.drive = s.drive ∧
      t.adv.ring = s.adv.ring ∧ t.port.rx = s.port.rx ∧ t.faults = s.faults ∧ t.events.stopped = s.events.stopped) ∧
  ∀ s slot, s.port.backbone = .silent →
    ∃ t, exec (.slotCurrencyExpiry slot) s = .next t ∧ t.thrust = s.thrust

/-- STALE_TIMER_EXPIRY makes a reference without a source FALLBACK at p_ref_fallback, with the grout band of the new value (said of
a station that publishes no SCREW of its own, which would be a source); RATE_TIMER_EXPIRY measures v over the window and starts
the next one. That it does so by the formula outside EXCAVATE too, where R46 also says that each expiry yields v = 0, is the model's
choice for the first expiry after a change away from EXCAVATE (DESIGN CHOICE, unsafe: log entry 43). -/
def Obligations.StaleAndRateExpiries : Prop :=
  (∀ s, AtRest s → s.table.staleTimer.on = true → s.screwSource = none → (s.port.pubTimer.get .screw).on = false →
    ∃ t, exec .staleTimerExpiry s = .next t ∧ t.table.refState = .fallback ∧ t.table.pRef = s.cfg.pRefFallback ∧
      t.table.staleTimer = .stopped ∧
      (s.table.pRef ≠ s.cfg.pRefFallback →
        t.grout.capLo = bandLow s.cfg s.cfg.pRefFallback ∧ t.grout.capHi = bandHigh s.cfg s.cfg.pRefFallback) ∧
      Settled s t) ∧
  ∀ s, s.adv.rateTimer.on = true →
    Gives .rateTimerExpiry s
      { s with adv := { s.adv with
        rate := (s.adv.aRing - s.adv.rateBase) * 60000 / s.cfg.rateWindow
        rateBase := s.adv.aRing
        rateTimer := s.timer s.cfg.rateWindow } }

/-- PUBLICATION_TIMER_EXPIRY: the kind's content of this moment enters the transmit queue and its timer starts a full period again;
every kind but STOP leaves alone what the end of an event leaves alone, and STOP keeps the latch set. The own entry holds that
content, its currency restarted (R12, R23). -/
def Obligations.PublicationEnqueues : Prop :=
  ∀ s k, (s.port.pubTimer.get k).on = true → s.onBackbone = true →
    ∃ t, exec (.publicationTimerExpiry k) s = .next t ∧ t = finish (publish k s) ∧
      (∃ e ∈ (publish k s).port.queue, e.body = s.content k) ∧ (∃ e ∈ t.port.queue, e.body.code = k.code) ∧
      (1 ≤ s.boot.station → s.boot.station ≤ 15 →
        (publish k s).ownEntry = s.ownEntry.write (s.timer s.cfg.lapseTime) (s.content k) ∧
        t.ownEntry.currency k = s.timer s.cfg.lapseTime) ∧
      t.port.pubTimer.get k = s.timer (s.cfg.period k) ∧ (k ≠ .stop → Settled s t) ∧
      (k = .stop → t.events.stopped = true ∧ t.port.rx = s.port.rx ∧ t.drive = s.drive ∧ t.faults = s.faults ∧
        t.adv.ring = s.adv.ring)

/-! ## Inputs -/

/-- CONVERSION_COMPLETE of a thrust input: a good STROKE sets s, the valid flag and a, and a retraction at its target is CLEAR; a
good GROUP_PRESSURE at or above p_shoe completes an extension, which seats the setpoint and serves a placed step of the own
ring. The first good GROUP_PRESSURE of a start takes the start decision: at or above p_shoe the group is ENGAGED and its setpoint
seated, below it the extension begins, its timer at once only in ONLINE and ISOLATED outside STOPPED. Any other good GROUP_PRESSURE
moves the pressure and its overpressure condition alone; that a pressure at or above p_shoe completes nothing while STOPPED is set
follows R103, and that it completes nothing in JOINING, the decision taken, is the model's reading of R91 over R100 (log 13). -/
def Obligations.ThrustSamplesTaken : Prop :=
  ∀ s i (raw : BitVec 12), s.converting = some i → s.scanned i = true →
    (s.inCfg i).rawMin ≤ raw.toNat → raw.toNat ≤ (s.inCfg i).rawMax →
    let value := scaledValue (s.inCfg i) raw.toNat
    let inputs := s.inputs.set i ⟨value, .good, .stopped⟩
    let stroke := clampToNat 0 22000 value
    let pressure := clampToNat 0 4000 value
    let present := decide (s.cfg.pCeiling + 100 < pressure)
    let thrust := { s.thrust with
      pressure := pressure
      pressureValid := true
      opPresent := present
      opTimer := if present then (if s.thrust.opPresent then s.thrust.opTimer else s.timer 1000) else .stopped }
    let taken := { s with converting := s.nextScanned i, inputs := inputs, thrust := thrust }
    let decided := { s.shoe with decisionPending := false }
    let seat := clampNat s.cfg.pFloor s.cfg.pCeiling pressure
    ((s.inCfg i).function = .stroke → s.shoe.state ≠ .retracting ∨ s.retractTarget < stroke ∨ s.shoeMoves = false →
      Gives (.conversionComplete raw) s
        { s with
          converting := s.nextScanned i
          inputs := inputs
          adv := { s.adv with
            stroke := stroke, strokeValid := true, advance := clampToNat 0 22000 ((stroke : Int) - s.adv.base) } }) ∧
    ((s.inCfg i).function = .stroke → s.shoeMoves = true → s.shoe.state = .retracting → stroke ≤ s.retractTarget →
      s.shoe.placed = false →
      Gives (.conversionComplete raw) s
        (writeDuty .thrustRetract 0 (writeDuty .thrustExtend 0
          { s with
            converting := s.nextScanned i
            inputs := inputs
            adv := { s.adv with
              stroke := stroke, strokeValid := true, advance := clampToNat 0 22000 ((stroke : Int) - s.adv.base) }
            shoe := { s.shoe with state := .clear, retract := .stopped } }))) ∧
    ((s.inCfg i).function = .stroke → s.shoeMoves = true → s.shoe.state = .retracting → stroke ≤ s.retractTarget →
      s.shoe.placed = true →
      Gives (.conversionComplete raw) s
        (writeDuty .thrustRetract 0 (writeDuty .thrustExtend (dutyOf s.cfg.pShoe s.cfg.pFull)
          { s with
            converting := s.nextScanned i
            inputs := inputs
            adv := { s.adv with
              stroke := stroke, strokeValid := true, advance := clampToNat 0 22000 ((stroke : Int) - s.adv.base) }
            shoe := { s.shoe with state := .extending, retract := .stopped, extend := s.timer s.cfg.extendTimeout } }))) ∧
    ((s.inCfg i).function = .groupPressure → s.shoeMoves = true → s.shoe.state = .extending →
      s.shoe.decisionPending = false → s.cfg.pShoe ≤ pressure →
      ∃ t, exec (.conversionComplete raw) s = .next t ∧ t.inputs = inputs ∧ t.converting = s.nextScanned i ∧
        t.thrust.pressure = pressure ∧ t.thrust.pressureValid = true ∧ t.thrust.pSet = seat ∧
        t.shoe = { s.shoe with
          state := .engaged
          extend := .stopped
          claim := none
          lastServed := (match s.shoe.claim with
            | some c => if c.placed = true ∧ c.ring = s.adv.ring then c.step else s.shoe.lastServed
            | none => s.shoe.lastServed) } ∧
        t.adv.stroke = s.adv.stroke ∧ t.adv.ring = s.adv.ring ∧ t.drive = s.drive ∧ t.faults = s.faults ∧
        t.port.rx = s.port.rx ∧ t.muck.pCh = s.muck.pCh) ∧
    ((s.inCfg i).function = .groupPressure → s.shoe.decisionPending = true →
      (s.cfg.pShoe ≤ pressure →
        Gives (.conversionComplete raw) s
          (writeDuty .thrustRetract 0 (writeDuty .thrustExtend (dutyOf seat s.cfg.pFull)
            { taken with thrust := { thrust with pSet := seat }, shoe := { decided with state := .engaged } }))) ∧
      (pressure < s.cfg.pShoe →
        Gives (.conversionComplete raw) s
          (writeDuty .thrustRetract 0 (writeDuty .thrustExtend (dutyOf s.cfg.pShoe s.cfg.pFull)
            { taken with shoe := { decided with
                extend := if s.jobsRun = true ∧ s.events.stopped = false then s.timer s.cfg.extendTimeout
                  else s.shoe.extend } })))) ∧
    ((s.inCfg i).function = .groupPressure → s.shoe.decisionPending = false →
      s.shoe.state ≠ .extending ∨ pressure < s.cfg.pShoe ∨ s.shoeMoves = false → Gives (.conversionComplete raw) s taken)

/-- CONVERSION_COMPLETE of a torque input, good or failed, sets τ and the torque-high flag from the values then held. A good
LINE_PRESSURE sets p, with the derate flag and the overpressure condition of the band. A chamber input, good or failed, gives p_ch
and the blind flag from the inputs then valid (one value, the half-up mean of two, the median of three; with none p_ch is held);
its loss raises CHAMBER_DEGRADED, and a change of the blind flag decides the screw state. -/
def Obligations.TorqueLineAndChamberSamplesTaken : Prop :=
  ∀ s i (raw : BitVec 12), s.converting = some i → s.scanned i = true →
    let c := s.inCfg i
    let f := c.function
    let good : Prop := c.rawMin ≤ raw.toNat ∧ raw.toNat ≤ c.rawMax
    (f = .torqueA ∨ f = .torqueB →
      let inputs := s.inputs.set i
        (if good then ⟨scaledValue c raw.toNat, .good, .stopped⟩
          else if (s.inRec i).state = .failed then s.inRec i
          else { s.inRec i with state := .failed, holdTimer := s.timer s.cfg.inputHoldTime })
      let tau := clampToNat 0 2000
        ({ s with inputs := inputs }.inputSum .torqueA + { s with inputs := inputs }.inputSum .torqueB)
      ∃ t, exec (.conversionComplete raw) s = .next t ∧ t.drive.tau = tau ∧ t.drive.torqueHigh = decide (s.cfg.tauHigh ≤ tau) ∧
      Settled
        { s with
          converting := s.nextScanned i
          inputs := inputs
          drive := { s.drive with
            tau := tau
            torqueHigh := decide (s.cfg.tauHigh ≤ tau)
            stallPresent := t.drive.stallPresent
            stallTimer := t.drive.stallTimer } } t) ∧
    (f = .linePressure → good →
      let p := clampToNat 0 65535 (scaledValue c raw.toNat)
      ∃ t, exec (.conversionComplete raw) s = .next t ∧ t.grout.derate = decide (t.grout.capLo < p) ∧
        t.grout.opPresent = decide (t.grout.capHi + s.cfg.opMargin ≤ p) ∧
        Settled
          { s with
            converting := s.nextScanned i
            inputs := s.inputs.set i ⟨scaledValue c raw.toNat, .good, .stopped⟩
            grout := { s.grout with pressure := p, pressureValid := true } } t) ∧
    (isChamber f = true →
      let p := clampToNat 0 65535 (scaledValue c raw.toNat)
      let others := s.muck.otherValues f
      let screwDecided (t : State) : Prop := t.muck.blind ≠ s.muck.blind → s.holds .screw → s.faults.screw = none →
        s.events.stopped = false → s.table.mode = .excavate ∨ s.table.mode = .build →
        t.muck.state = if t.muck.blind then .blind else .running
      let stands (t : State) : Prop := (∀ g, g ≠ f → t.muck.chamber g = s.muck.chamber g) ∧
        (t.muck.blind = s.muck.blind → t.muck.state = s.muck.state) ∧ t.muck.mMeas = s.muck.mMeas ∧
        t.muck.integ = s.muck.integ ∧ t.drive = s.drive ∧ t.shoe = s.shoe ∧ t.adv.ring = s.adv.ring ∧ t.faults = s.faults
      (good → ∃ t, exec (.conversionComplete raw) s = .next t ∧ t.muck.chamber f = .valid p ∧ t.muck.blind = false ∧
        t.muck.pCh = (match others with
          | [] => p
          | [x] => (p + x + 1) / 2
          | x :: y :: _ => max (min p x) (min (max p x) y)) ∧
        t.inRec i = ⟨scaledValue c raw.toNat, .good, .stopped⟩ ∧ screwDecided t ∧ stands t) ∧
      (¬good → ∃ t, exec (.conversionComplete raw) s = .next t ∧ t.muck.chamber f = .failed ∧
        t.muck.blind = decide (others = []) ∧
        t.muck.pCh = (match others with
          | [] => s.muck.pCh
          | [x] => x
          | x :: y :: _ => (x + y + 1) / 2) ∧
        t.inRec i = (if (s.inRec i).state = .failed then s.inRec i
          else { s.inRec i with state := .failed, holdTimer := .stopped }) ∧
        (s.muck.chamber f ≠ .failed →
          t.events.flags &&& EventFlag.chamberDegraded.mask = EventFlag.chamberDegraded.mask) ∧
        screwDecided t ∧ stands t))

/-- CONVERSION_COMPLETE out of range: the value is held, a first failure makes the input FAILED and starts its hold timer, and the
owner's valid flag is cleared; the conversion of an input that has left the scan delivers nothing. -/
def Obligations.FailedSampleHoldsValue : Prop :=
  ∀ s i (raw : BitVec 12), s.converting = some i →
    (s.scanned i = true → ¬((s.inCfg i).rawMin ≤ raw.toNat ∧ raw.toNat ≤ (s.inCfg i).rawMax) →
      let inputs := s.inputs.set i
        (if (s.inRec i).state = .failed then s.inRec i
          else { s.inRec i with state := .failed, holdTimer := s.timer s.cfg.inputHoldTime })
      ((s.inCfg i).function = .stroke →
        Gives (.conversionComplete raw) s
          { s with
            converting := s.nextScanned i
            inputs := inputs
            adv := { s.adv with strokeValid := false } }) ∧
      ((s.inCfg i).function = .groupPressure →
        Gives (.conversionComplete raw) s
          { s with
            converting := s.nextScanned i
            inputs := inputs
            thrust := { s.thrust with pressureValid := false } }) ∧
      ((s.inCfg i).function = .linePressure →
        Gives (.conversionComplete raw) s
          { s with
            converting := s.nextScanned i
            inputs := inputs
            grout := { s.grout with pressureValid := false } })) ∧
    (s.scanned i = false →
      Gives (.conversionComplete raw) s { s with converting := s.nextScanned i })

/-! ## Faults of the jobs -/

/-- Each timer expiry that raises a fault fills an empty record with its cause and value and puts the job in FAULT, and counts the
fault in a held record: the input hold time, the drive and screw stalls, the two overpressures, the retract and extend timeouts,
the blocked line and the lost speed feedback. A first THRUST fault publishes CLAIM with CLEAR, whatever the shoe state was. That a
job enters FAULT in SILENT too is the model's reading of R160 over R72 and R86 (DEDUCED, unsafe: log entry 45), and that the
overpressure timers and the drive stall timer still run there is log entry 18 (DEDUCED, unsafe). -/
def Obligations.ExpiriesRaiseFaults : Prop :=
  ∀ s,
    (s.drive.stallTimer.on = true → Raises .driveStallTimerExpiry s .drive .stall s.drive.tau) ∧
    (s.thrust.opTimer.on = true → Raises .thrustOverpressureExpiry s .thrust .overpressure s.thrust.pressure) ∧
    (s.shoe.retract.on = true → Raises .retractTimerExpiry s .thrust .retractTimeout s.adv.stroke) ∧
    (s.shoe.extend.on = true → Raises .extendTimerExpiry s .thrust .extendTimeout s.thrust.pressure) ∧
    (s.grout.blockedTimer.on = true → Raises .blockedTimerExpiry s .grout .lineBlocked s.grout.rate) ∧
    (s.grout.opTimer.on = true → Raises .groutOverpressureExpiry s .grout .overpressure s.grout.pressure) ∧
    (s.muck.stallTimer.on = true → Raises .screwStallTimerExpiry s .screw .screwStall s.muck.nOut) ∧
    (s.muck.fbTimer.on = true → Raises .feedbackTimerExpiry s .screw .inputLost s.muck.nS) ∧
    ∀ i, (s.inRec i).holdTimer.on = true →
      ((s.inCfg i).function = .stroke ∨ (s.inCfg i).function = .groupPressure →
        Raises (.inputHoldExpiry i) s .thrust .inputLost (s.inRec i).value) ∧
      ((s.inCfg i).function = .linePressure → Raises (.inputHoldExpiry i) s .grout .inputLost (s.inRec i).value) ∧
      ((s.inCfg i).function = .torqueA ∨ (s.inCfg i).function = .torqueB →
        Raises (.inputHoldExpiry i) s .drive .inputLost (s.inRec i).value)

/-! ## Evaluations -/

/-- DRIVE_EVALUATION: the state decision of R59 to R63, then the setpoint step, the torque mean and trim, the command and the
pending duty, each from the state the step before left. -/
def Obligations.DriveEvaluated : Prop :=
  ∀ s, s.drive.evalTimer.on = true →
    let d := s.drive
    let runs := s.table.mode = .excavate ∧ 0 < s.setpoint.speed
    let rest := d.nSet = 0 ∧ d.nFb < s.cfg.zeroBand
    let state : DriveState := match d.state with
      | .off => if runs ∧ s.events.stopped = false then .ready else .off
      | .ready =>
        if s.events.stopped = true ∨ ¬runs then .off
        else if s.cfg.quorum ≤ s.contributingDrives.length then .running else .ready
      | .running =>
        if s.events.stopped = true ∨ ¬runs ∨ s.contributingDrives.length < s.cfg.quorum then .stopping
        else if s.setpoint.dir ≠ d.dir then .reversing else .running
      | .stopping => if rest then .off else .stopping
      | .reversing => if s.events.stopped = true then .stopping else if rest then .ready else .reversing
      | .fault => .fault
    let dir : Direction :=
      if (d.state = .off ∨ d.state = .ready ∨ d.state = .reversing) ∧ (state = .ready ∨ state = .running) then s.setpoint.dir
      else d.dir
    let before := if d.state = .ready ∧ state = .running then 0 else d.nSet
    let target := if state = .running then s.setpoint.speed else 0
    let nSet := if state = .fault then before
      else stepToward before target (if s.events.stopped then s.cfg.stopStep else s.cfg.rampStep)
    let mean := if s.contributingDrives.length = 0 then d.tauMean
      else halfUpMean (s.contributingDrives.map (·.tau)).sum s.contributingDrives.length
    let trim := if state = .running then trimOf s.cfg mean d.tau else 0
    let cmd := match state with
      | .running => clampToNat 0 s.cfg.speedMax (nSet + trim)
      | .stopping | .reversing => nSet
      | .off | .ready | .fault => 0
    ∃ t, exec .driveEvaluation s = .next t ∧
      t.drive = { d with
        state := state, dir := dir, nSet := nSet, tauMean := mean, trim := trim, cmd := cmd
        stallPresent := t.drive.stallPresent, stallTimer := t.drive.stallTimer
        evalTimer := s.timer s.cfg.evalDrive } ∧
      Settled (writeDuty .driveSpeedOut (dutyOf cmd s.cfg.nFullScale) { s with drive := t.drive }) t

/-- THRUST_EVALUATION: the conditions in force and the regime, the hold force, share and pressure, in PUSH the push force and
pressure, and outside FAULT the target, the setpoint step, the seated flag and the valve duties; in FAULT these stand. -/
def Obligations.ThrustEvaluated : Prop :=
  ∀ s, s.thrust.evalTimer.on = true →
    let u := s.thrust
    let causes := s.holdConditions
    let regime := regimeOf s.table.mode causes
    let fReq := roundHalfUp (s.table.pRef * s.cfg.faceArea * s.cfg.holdMargin) 1000000
    let share := if s.engagedCount = 0 then u.share else roundHalfUp fReq s.engagedCount
    let pHold := clampNat s.cfg.pHoldMin s.cfg.pCeiling (roundHalfUp (share * 1000) s.cfg.pistonArea)
    let f0 := pushForce s.cfg s.setpoint
    let f := if causes.torqueDerate then truncated (f0 * s.cfg.derate) 1000 else f0
    let raw := roundHalfAway (f * 1000) s.cfg.pistonArea
    let pPush := if regime = .push then clampToNat s.cfg.pFloor s.cfg.pCeiling raw else u.pPush
    let drives := (s.shoe.state = .engaged ∨ s.shoe.state = .claiming) ∧ s.faults.thrust = none
    let pSet :=
      if ¬drives then u.pSet
      else if regime = .push then stepToward u.pSet pPush s.cfg.rampDp
      else if u.seated = true ∧ pHold < u.pSet then pHold
      else stepToward u.pSet pHold s.cfg.rampDp
    let target : ThrustTarget :=
      if s.faults.thrust.isSome then u.target
      else if ¬drives then .none
      else if regime = .push then .push pPush else .hold pHold
    let seated : Bool :=
      if s.faults.thrust.isSome then u.seated
      else decide (drives ∧ regime ≠ .push ∧ (u.seated = true ∨ pSet ≤ pHold))
    let e := { s with thrust := { u with
      causes := causes
      regime := regime
      target := target
      seated := seated
      force := if regime = .push then f else u.force
      pPush := pPush
      floorClamp := decide (regime = .push ∧ raw < s.cfg.pFloor)
      ceilClamp := decide (regime = .push ∧ (s.cfg.pCeiling : Int) < raw)
      fReq := fReq
      share := share
      pHold := pHold
      pSet := pSet
      evalTimer := s.timer s.cfg.evalThrust } }
    let after := if drives then writeDuty .thrustRetract 0 (writeDuty .thrustExtend (dutyOf pSet s.cfg.pFull) e) else e
    exec .thrustEvaluation s = .next (finish after) ∧ Settled after (finish after)

/-- HOLD_OFF_EXPIRY in CLAIMING: the first failing test of R95 is the wait reason and the hold-off restarts; when none fails the
group retracts. WAIT_TIMER_EXPIRY gives the claim up, expires its step and raises CLAIM_EXPIRED. -/
def Obligations.ClaimTimersDecide : Prop :=
  (∀ s, s.shoe.holdOff.on = true → s.shoe.state = .claiming →
    let reason : WaitReason :=
      if 1 ≤ s.neighbourBlock then .adjacent
      else if s.cfg.retractLimit ≤ s.retractedCount then .limit
      else if s.priorityBlock then .priority
      else if s.engagedCeilingSum < s.thrust.fReq then .holdShort
      else .none
    (reason ≠ .none →
      Gives .holdOffExpiry s
        { s with shoe := { s.shoe with wait := reason, holdOff := s.timer s.cfg.effectiveHoldoff } }) ∧
    (reason = .none → 0 < s.adv.stroke → 0 < s.cfg.retractClearance → ∀ c, s.shoe.claim = some c →
      Gives .holdOffExpiry s
        (writeDuty .thrustRetract s.cfg.retractDuty (writeDuty .thrustExtend 0
          { s with shoe := { s.shoe with
              state := .retracting
              claim := some { c with strokeAtEntry := some s.adv.stroke }
              wait := .none
              holdOff := .stopped
              waitTimer := .stopped
              retract := s.timer s.cfg.retractTimeout } })))) ∧
  ∀ s c, s.shoe.waitTimer.on = true → s.shoe.state = .claiming → s.shoe.claim = some c →
    Gives .waitTimerExpiry s
      { s with
        shoe := { s.shoe with
          state := .engaged
          claim := none
          wait := .none
          holdOff := .stopped
          waitTimer := .stopped
          expired := if c.step ∈ s.shoe.expired then s.shoe.expired else s.shoe.expired ++ [c.step] }
        events := { s.events with flags := s.events.flags ||| EventFlag.claimExpired.mask } }

/-- GROUT_EVALUATION of a line that goes on pumping in its state, with its fill ratio and band unchanged: the rate from the
deficit strokes, banded with the line pressure, and its duty. And of any line: the fill ratio is the one of the moment, the
accounts stand; outside FAULT the line stands at the first row of its table, from OFF too, with rate and duty 0 outside INJECTING and
LIMITED (R118, R120); in FAULT line and rate stand. -/
def Obligations.GroutEvaluated : Prop :=
  (∀ s t, s.grout.evalTimer.on = true → s.holds .grout = true → exec .groutEvaluation s = .next t →
    (s.grout.line = .fault → t.grout.line = .fault ∧ t.grout.rate = s.grout.rate) ∧
    (s.grout.line ≠ .fault →
      t.grout.line =
        (if t.grout.deficit < (t.cfg.effectiveStroke : Int) then .idle
          else if t.events.stopped = true ∨ t.port.backbone = .isolated ∨ t.table.mode = .hold then .held
          else if t.grout.derate = true then .limited else .injecting) ∧
      (t.grout.line ≠ .injecting → t.grout.line ≠ .limited →
        t.grout.rate = 0 ∧ ∀ i, s.channelOf .groutPump = some i → (t.ch i).pending = 0))) ∧
  (∀ s, AtRest s → s.grout.evalTimer.on = true → s.grout.line = .injecting ∨ s.grout.line = .limited →
    s.lineTable = s.grout.line → s.grout.phi = s.setpoint.fill + (if s.overdigBoost then s.cfg.overdigBoost else 0) →
    s.grout.capLo = bandLow s.cfg s.table.pRef → s.grout.capHi = bandHigh s.cfg s.table.pRef →
    s.grout.derate = decide (s.grout.capLo < s.grout.pressure) →
    let strokes := s.grout.deficit.toNat / s.cfg.effectiveStroke
    let full := min (strokes * s.cfg.gainG) s.cfg.rMax
    let rate :=
      if s.grout.pressure ≤ s.grout.capLo then full
      else if s.grout.capHi ≤ s.grout.pressure then 0
      else full * (s.grout.capHi - s.grout.pressure) / (s.grout.capHi - s.grout.capLo)
    ∃ t, exec .groutEvaluation s = .next t ∧
      t = { writeDuty .groutPump (dutyOf rate s.cfg.rFull) s with
        grout := { s.grout with
          rate := rate
          blockedPresent := decide (0 < rate) && s.carriesDuty .groutPump
          blockedTimer := t.grout.blockedTimer
          opPresent := t.grout.opPresent
          opTimer := t.grout.opTimer
          evalTimer := s.timer s.cfg.evalGrout } }) ∧
  ∀ s, s.grout.evalTimer.on = true →
    Gives .groutEvaluation s { s with grout := { s.grout with
      phi := s.setpoint.fill + (if s.overdigBoost then s.cfg.overdigBoost else 0)
      evalTimer := s.timer s.cfg.evalGrout } }

/-- SCREW_EVALUATION: the state by R134; in RUNNING the integrator step and the command of R136 and R137, in BLIND the
feedforward alone, in OFF 0; then the ramp and the duty. e and n_ff are computed in RUNNING and BLIND and keep their values in OFF
and FAULT (R135). In FAULT everything stands. The skip test of the integrator takes n_cmd as held (`lastCmd`), which OFF and FAULT
have set to 0: for a positive increment after a stop that found n_cmd at n_max this clause is the model's reading (DEDUCED, unsafe:
log entry 27), not a rule's words. -/
def Obligations.ScrewEvaluated : Prop :=
  ∀ s, s.muck.evalTimer.on = true → s.holds .screw = true →
    let m := s.muck
    let state : ScrewState :=
      if s.faults.screw.isSome then .fault
      else if s.events.stopped ∨ s.table.mode = .standby ∨ s.table.mode = .hold then .off
      else if m.blind then .blind else .running
    let off := state = .off ∧ m.state ≠ .off
    let lastCmd := if off then 0 else m.nCmd
    let lastOut := if off then 0 else m.nOut
    let e : Int := if state = .running ∨ state = .blind then (m.pCh : Int) - s.setpoint.chamber else m.err
    let nFf := if state = .running ∨ state = .blind then clampNat 0 65535 (s.adv.rate * s.cfg.kFf / 100) else m.nFf
    let inc : Int := s.cfg.ki * e
    let integ : Int :=
      if state ≠ .running ∨ (0 < inc ∧ lastCmd = s.cfg.nMax) ∨ (inc < 0 ∧ lastCmd = 0) then m.integ
      else clampInt (-(s.cfg.iMax * 1000 : Int)) (s.cfg.iMax * 1000) (m.integ + inc)
    let nCmd := match state with
      | .running => clampToNat 0 s.cfg.nMax (roundHalfAway ((nFf : Int) * 1000 + s.cfg.kp * e + integ) 1000)
      | .blind => clampNat 0 s.cfg.nMax nFf
      | .off => 0
      | .fault => m.nCmd
    let nOut := if state = .fault then m.nOut else stepToward lastOut nCmd s.cfg.screwRamp
    let after := { s with muck := { m with
      state := state, err := e, nFf := nFf, integ := integ, nCmd := nCmd, nOut := nOut, evalTimer := s.timer s.cfg.evalScrew } }
    Gives .screwEvaluation s
      (if state = .fault then after else writeDuty .screwSpeedOut (dutyOf nOut s.cfg.screwFullScale) after)

/-! ## Channels -/

/-- PERIOD_BOUNDARY: the active duty takes the pending one, the next period starts and the output is at its active level unless
the active time is 0. ACTIVE_TIME_END: the output goes to its inactive level, the safe one. -/
def Obligations.DutyPeriodsRun : Prop :=
  ∀ s i, AtRest s →
    ((s.ch i).periodTimer.on = true →
      let width := (s.chCfg i).period * (s.ch i).pending / 1000
      exec (.periodBoundary i) s = .next { s with channels := s.channels.set i { s.ch i with
        active := (s.ch i).pending
        periodTimer := .running (s.now + (s.chCfg i).period)
        activeTimer := if 0 < width ∧ width < (s.chCfg i).period then .running (s.now + width) else .stopped
        high := if 0 < width then !(s.chCfg i).safeHigh else (s.chCfg i).safeHigh } }) ∧
    ((s.ch i).activeTimer.on = true →
      exec (.activeTimeEnd i) s = .next { s with channels := s.channels.set i { s.ch i with
        activeTimer := .stopped, high := (s.chCfg i).safeHigh } })

/-- CHANNEL_EDGE on a watched pin: a qualifying edge that is far enough from the capture is counted and delivered (a stroke to
the grout unit, restarting a blocked timer that runs, a scale pulse to the muck unit with its balance and latches, a period to the
drive or the muck unit, where a drive speed that passes the limit raises OVERSPEED), any other is ignored; a stroke or a scale pulse
counted before the restore moves the capture and adds nothing (R112, R140). That OVERSPEED puts the drive in FAULT in SILENT too is
the model's reading of R160 over R72 (DEDUCED, unsafe: log entry 45). Two clauses are the model's choice and no rule's words.
`counted` asks only the reported direction and the distance from the capture, so that an edge in the direction of the level the pin
already holds, which R153 does not call a transition, is counted too (DESIGN CHOICE, unsafe: log entry 41); and the edge's moment is
an operand that moves the clock (DESIGN CHOICE: log entry 2). -/
def Obligations.EdgesAreCounted : Prop :=
  ∀ s pin rising time i, s.boot.accepted = true → s.watcher pin = some i →
    let now := max s.now time
    let f := (s.chCfg i).function
    let counted : Prop := (s.chCfg i).edge.qualifies rising = true ∧
      (match (s.ch i).capture with | none => True | some t0 => (s.chCfg i).minInterval ≤ now - t0)
    let base := { s with now := now, pins := { s.pins with edge := s.pins.edge.set pin rising } }
    let counting := { base with channels := s.channels.set i { s.ch i with capture := some now } }
    let timing := { base with channels := s.channels.set i { s.ch i with
      capture := some now, timeoutTimer := .running (now + (s.chCfg i).timeout * 1000) } }
    (¬counted → Gives (.channelEdge pin rising time) s base) ∧
    (counted → f = .groutStroke → s.boot.phase = .done →
      Gives (.channelEdge pin rising time) s
        { counting with
          grout := { s.grout with delivered := min 2000000000 (s.grout.delivered + s.cfg.effectiveStroke) } } ∧
      ∀ t, exec (.channelEdge pin rising time) s = .next t → s.grout.blockedTimer.on = true →
        t.grout.blockedPresent = true → t.grout.blockedTimer = .running (now + s.cfg.strokeTimeout * 1000)) ∧
    (counted → f = .groutStroke ∨ f = .scalePulse → s.boot.phase ≠ .done → Gives (.channelEdge pin rising time) s counting) ∧
    (counted → f = .scalePulse → s.boot.phase = .done →
      ∃ t, exec (.channelEdge pin rising time) s = .next t ∧
        (s.cfg.balanceMin ≤ t.adv.aRing → 0 < t.muck.mExp →
          t.muck.balance = clampNat 0 65535 (roundHalfUp (t.muck.mMeas * 1000) t.muck.mExp) ∧
          (s.cfg.overThreshold < t.muck.balance → t.muck.overdig = true) ∧
          (t.muck.balance < s.cfg.underThreshold → t.muck.underdig = true)) ∧
        Settled { counting with
          muck := { s.muck with mMeas := min 4000000000 (s.muck.mMeas + s.cfg.kgPerPulse) } } t) ∧
    (counted → f = .driveSpeedIn ∨ f = .screwSpeedIn → (s.ch i).capture = none →
      Gives (.channelEdge pin rising time) s timing) ∧
    (∀ t0, counted → f = .driveSpeedIn → (s.ch i).capture = some t0 →
      let speed := clampNat 0 65535 (6000000000 / ((now - t0) * s.cfg.pulsesPerRev))
      let fast := decide (s.cfg.speedMax + s.cfg.overspeedMargin < speed)
      (fast = false ∨ s.drive.overspeed = true →
        ∃ t, exec (.channelEdge pin rising time) s = .next t ∧
          t.drive = { s.drive with
            nFb := speed, overspeed := fast, stallPresent := t.drive.stallPresent, stallTimer := t.drive.stallTimer } ∧
          Settled { timing with drive := t.drive } t) ∧
      (fast = true → s.drive.overspeed = false →
        Raises (.channelEdge pin rising time) s .drive .overspeed speed ∧
        ∃ t, exec (.channelEdge pin rising time) s = .next t ∧ t.drive.nFb = speed ∧ t.drive.overspeed = true ∧
          (t.ch i).capture = some now ∧ (t.ch i).timeoutTimer = (timing.ch i).timeoutTimer)) ∧
    ∀ t0, counted → f = .screwSpeedIn → (s.ch i).capture = some t0 →
      ∃ t, exec (.channelEdge pin rising time) s = .next t ∧
        (s.muck.stallTimer.on = true → t.muck.stallPresent = true →
          t.muck.stallTimer = .running (now + s.cfg.screwStallTime * 1000)) ∧
        Settled { timing with
          muck := { s.muck with nS := clampNat 0 65535 (6000000000 / ((now - t0) * s.cfg.screwPpr)) } } t

/-- CHANNEL_TIMEOUT_EXPIRY empties the capture and the speed reads 0. PULSE_WIDTH_EXPIRY ends the pulse, or starts the pending
one. -/
def Obligations.TimeoutsAndPulsesEnd : Prop :=
  (∀ s i, (s.ch i).timeoutTimer.on = true → (s.chCfg i).function = .driveSpeedIn →
    ∃ t, exec (.channelTimeoutExpiry i) s = .next t ∧
      t.drive = { s.drive with
        nFb := 0, overspeed := false, stallPresent := t.drive.stallPresent, stallTimer := t.drive.stallTimer } ∧
      Settled
        { s with
          channels := s.channels.set i { s.ch i with capture := none, timeoutTimer := .stopped }
          drive := t.drive } t) ∧
  (∀ s i, (s.ch i).timeoutTimer.on = true → (s.chCfg i).function = .screwSpeedIn →
    Gives (.channelTimeoutExpiry i) s
      { s with
        channels := s.channels.set i { s.ch i with capture := none, timeoutTimer := .stopped }
        muck := { s.muck with nS := 0 } }) ∧
  ∀ s, AtRest s → s.grout.pulseTimer.on = true →
    (s.grout.pulse = .active →
      exec .pulseWidthExpiry s =
        .next (setPulseFlag false { s with grout := { s.grout with pulse := .idle, pulseTimer := .stopped } })) ∧
    (s.grout.pulse = .activePending →
      exec .pulseWidthExpiry s =
        .next (setPulseFlag true { s with grout := { s.grout with
          pulse := .active, pulseTimer := s.timer s.cfg.greaseWidth } }))

/-! ## Pins and memory -/

/-- STOP_INPUT_ACTIVE publishes STOP on the backbone and sets the latch, every gate shut; STOP_INPUT_RELEASED empties the own
STOP slot and leaves the latch; PERMIT_INPUT_CHANGE moves the pin and with it the gates that its guards hold. -/
def Obligations.PinEventsAct : Prop :=
  (∀ s, s.pins.stopInput = false → s.boot.accepted = true →
    ∃ t, exec .stopInputActive s = .next t ∧ t.pins = { s.pins with stopInput := true } ∧ t.events.stopped = true ∧
      (∀ i, (t.ch i).gate = false) ∧ (s.onBackbone = true → ∃ e ∈ t.port.queue, e.body = .stop ⟨.localInput⟩) ∧
      t.drive = s.drive ∧ t.adv.ring = s.adv.ring ∧ t.faults = s.faults ∧ t.port.rx = s.port.rx ∧ t.cfg = s.cfg ∧
      t.boot = s.boot) ∧
  (∀ s, s.pins.stopInput = true → 1 ≤ s.boot.station → s.boot.station ≤ 15 →
    ∃ t, exec .stopInputReleased s = .next t ∧ t.ownEntry.stop = ⟨none, .stopped⟩ ∧
      (t.port.pubTimer.stop).on = false ∧ Settled { s with pins := { s.pins with stopInput := false } } t) ∧
  ∀ s active, ∃ t, exec (.permitInputChange active) s = .next t ∧
    Settled { s with pins := { s.pins with permitInput := active } } t ∧ ∀ i, (t.ch i).gate = t.gateDue i

/-- MEMORY_WRITE_COMPLETE answered: what the write carried stands in the memory; not answered: RECORD_WRITE_FAILED is raised.
Either way a pending write starts, the fault area first, before the restore too (R173), and a start that waited for the write goes
on to the record read (R168). After a failed write, in EXCAVATE, the end of the event can cross a record step, which sets the record
pending flag again or, with nothing pending, starts a record write (R52). That the record read goes on beside the pending write
which that completion starts is the model's reading (DEDUCED, unsafe: log entry 9). That the content is unknown after a failed
write is the model's choice (DESIGN CHOICE: log entry 7), and that a torn record stays torn then (DESIGN CHOICE, unsafe: log entry
42), and so is the byte order of the record written (DESIGN CHOICE, unsafe: log entry 44). -/
def Obligations.MemoryWriteCompletes : Prop :=
  (∀ s w, AtRest s → s.mem.inFlight = some w →
    exec (.memoryWriteComplete true) s = .next { s with
      mem := s.pendingStarted (match w with
        | .record bytes => { s.mem with inFlight := none, record := some bytes, recordTorn := false }
        | .faultArea records => { s.mem with inFlight := none, faultCopy := some records })
      boot := { s.boot with phase := if s.boot.phase = .waitingWrite then .readingRecord else s.boot.phase } }) ∧
  ∀ s w, s.mem.inFlight = some w →
    let m := match w with
      | .record _ => { s.mem with inFlight := none, record := none }
      | .faultArea _ => { s.mem with inFlight := none, faultCopy := none }
    ∃ t, exec (.memoryWriteComplete false) s = .next t ∧
      t.events.flags &&& EventFlag.recordWriteFailed.mask = EventFlag.recordWriteFailed.mask ∧
      t.boot = { s.boot with phase := if s.boot.phase = .waitingWrite then .readingRecord else s.boot.phase } ∧
      (s.table.mode ≠ .excavate → t.mem = s.pendingStarted m) ∧
      (s.boot.phase ≠ .done ∨ s.mem.faultPending = true ∨ s.mem.recordPending = true →
        t.mem = { s.pendingStarted m with recordPending := t.mem.recordPending }) ∧
      t.mem.record = m.record ∧ t.mem.faultCopy = m.faultCopy ∧ t.mem.recordTorn = s.mem.recordTorn ∧
      t.mem.image = s.mem.image ∧ t.drive = s.drive ∧ t.adv.ring = s.adv.ring ∧ t.faults = s.faults ∧
      t.events.stopped = s.events.stopped ∧ t.port.rx = s.port.rx ∧ t.cfg = s.cfg
end

