-- ==== Sys2Proof/Laws/Kept.lean ====
section
/-! SUPPORT. For every operation that the end of an event is made of: it leaves `State.kept` alone. -/
namespace Sys2Proof.Machine
open Sys2Proof

/-! ## Channels -/

theorem channelIndices_mem (i : Fin 8) : i ∈ channelIndices := by
  revert i; decide

theorem channelOf_function {s : State} {f : ChFunction} {i : Fin 8} (h : s.channelOf f = some i) :
    (s.chCfg i).function = f := by
  have := List.find?_some h
  simpa using this

theorem ch_putChannel (s : State) (i j : Fin 8) (r : ChannelRec) :
    (putChannel i r s).ch j = if i = j then r else s.ch j := by
  simp only [putChannel, State.ch, Fin.getElem_fin, Vector.getElem_set, Fin.ext_iff]

/-- A channel record replaced by one with the same capture, timeout timer and, but for the grout pump, pending duty. -/
theorem kept_putChannel {s : State} {i : Fin 8} {r : ChannelRec} (hc : r.capture = (s.ch i).capture)
    (ht : r.timeoutTimer = (s.ch i).timeoutTimer)
    (hp : r.pending = (s.ch i).pending ∨ (s.chCfg i).function = .groutPump) : (putChannel i r s).kept = s.kept := by
  have hcap : (putChannel i r s).channels.toList.map (fun r => (r.capture, r.timeoutTimer))
      = s.channels.toList.map (fun r => (r.capture, r.timeoutTimer)) := by
    apply List.ext_getElem
    · simp [putChannel]
    · intro n h1 h2
      simp only [putChannel, List.getElem_map, Vector.getElem_toList, Vector.getElem_set]
      split
      · rename_i h
        subst h
        simp only [hc, ht]
        rfl
      · rfl
  have hd : (putChannel i r s).dutiesKept = s.dutiesKept := by
    simp only [State.dutiesKept]
    apply List.map_congr_left
    intro j _
    show (if (s.chCfg j).function = .groutPump then 0 else ((putChannel i r s).ch j).pending) = _
    rw [ch_putChannel]
    by_cases hj : i = j
    · subst hj
      rcases hp with hp | hp
      · simp [hp]
      · simp [hp]
    · simp [hj]
  show State.kept _ = _
  simp only [State.kept, hcap, hd]
  rfl

theorem kept_writeDuty_groutPump (d : Nat) (s : State) : (writeDuty .groutPump d s).kept = s.kept := by
  unfold writeDuty
  split
  · rename_i i h
    exact kept_putChannel rfl rfl (Or.inr (channelOf_function h))
  · rfl

theorem kept_setPulseFlag (on : Bool) (s : State) : (setPulseFlag on s).kept = s.kept := by
  unfold setPulseFlag
  split
  · exact kept_putChannel rfl rfl (Or.inl rfl)
  · rfl

/-! ## Grout, muck and events -/

theorem kept_raiseEvent (e : EventFlag) (s : State) : (raiseEvent e s).kept = s.kept := rfl

theorem kept_examineBlocked (s : State) : (examineBlocked s).kept = s.kept := rfl

theorem kept_examineGroutPressure (s : State) : (examineGroutPressure s).kept = s.kept := rfl

theorem kept_decideHoldRequest (s : State) : (decideHoldRequest s).kept = s.kept := rfl

theorem kept_setLine (l : LineState) (s : State) : (setLine l s).kept = s.kept := by
  unfold setLine
  split
  · rfl
  · split
    · rw [kept_examineBlocked, kept_writeDuty_groutPump]; rfl
    · rw [kept_examineBlocked]; rfl

theorem kept_decideLine (s : State) : (decideLine s).kept = s.kept := by
  unfold decideLine
  split
  · exact kept_setLine _ _
  · rfl

theorem kept_recomputeDeficit (s : State) : (recomputeDeficit s).kept = s.kept := by
  unfold recomputeDeficit
  dsimp only
  split
  · rfl
  · rw [kept_decideLine, kept_decideHoldRequest]; rfl

theorem kept_recomputeTarget (s : State) : (recomputeTarget s).kept = s.kept := by
  unfold recomputeTarget
  split
  · rw [kept_recomputeDeficit]; rfl
  · rfl

theorem kept_examineDerate (s : State) : (examineDerate s).kept = s.kept := by
  unfold examineDerate
  dsimp only
  split
  · rfl
  · rw [kept_decideLine]; rfl

theorem kept_recomputeBand (s : State) : (recomputeBand s).kept = s.kept := by
  unfold recomputeBand
  rw [kept_examineGroutPressure, kept_examineDerate]; rfl

theorem kept_takeVoid (v : Nat) (s : State) : (takeVoid v s).kept = s.kept := by
  unfold takeVoid
  split
  · rw [kept_recomputeTarget]; rfl
  · rfl

theorem kept_takeWeight (w : Nat) (s : State) : (takeWeight w s).kept = s.kept := by
  unfold takeWeight
  split
  · rw [kept_recomputeTarget]; rfl
  · rfl

theorem kept_startPulse (s : State) : (startPulse s).kept = s.kept := by
  unfold startPulse
  rw [kept_setPulseFlag]; rfl

theorem kept_greaseTrigger (s : State) : (greaseTrigger s).kept = s.kept := by
  unfold greaseTrigger
  split
  · exact kept_startPulse s
  · rfl
  · exact kept_raiseEvent _ s

theorem kept_greaseTriggers (n : Nat) (s : State) : (greaseTriggers n s).kept = s.kept := by
  induction n generalizing s with
  | zero => rfl
  | succ n ih => unfold greaseTriggers; rw [ih, kept_greaseTrigger]

theorem kept_clearPulse (s : State) : (clearPulse s).kept = s.kept := by
  unfold clearPulse
  rw [kept_setPulseFlag]; rfl

theorem kept_examineScrew (s : State) : (examineScrew s).kept = s.kept := rfl

theorem kept_examineOverdig (s : State) : (examineOverdig s).kept = s.kept := by
  unfold examineOverdig
  split <;> rfl

theorem kept_examineUnderdig (s : State) : (examineUnderdig s).kept = s.kept := by
  unfold examineUnderdig
  split <;> rfl

theorem kept_recomputeBalance (s : State) : (recomputeBalance s).kept = s.kept := by
  unfold recomputeBalance
  split
  · rw [kept_examineUnderdig, kept_examineOverdig]; rfl
  · rfl

theorem kept_takeExpectedMass (m : Nat) (s : State) : (takeExpectedMass m s).kept = s.kept := by
  unfold takeExpectedMass
  split
  · rw [kept_recomputeBalance]; rfl
  · rfl

/-! ## Gates -/

theorem kept_opened (i : Fin 8) (s : State) (c : ChannelCfg) :
    (putChannel i ((s.ch i).opened c s.now) s).kept = s.kept := by
  apply kept_putChannel
  · unfold ChannelRec.opened; split <;> rfl
  · unfold ChannelRec.opened; split <;> rfl
  · left; unfold ChannelRec.opened; split <;> rfl

theorem kept_gateChanged (f : ChFunction) (s : State) : (gateChanged f s).kept = s.kept := by
  unfold gateChanged
  split <;> rfl

theorem kept_refreshGate (i : Fin 8) (s : State) : (refreshGate i s).kept = s.kept := by
  unfold refreshGate
  split
  · rfl
  · split
    · rw [kept_gateChanged, kept_opened]
    · rw [kept_gateChanged]; exact kept_putChannel rfl rfl (Or.inl rfl)

theorem kept_refreshGates (s : State) : (refreshGates s).kept = s.kept := by
  simp only [refreshGates, kept_refreshGate]

/-! ## The advance unit and the peer table -/

theorem kept_startRecordWrite (s : State) : (startRecordWrite s).kept = s.kept := rfl

theorem kept_triggerSave (s : State) : (triggerSave s).kept = s.kept := by
  unfold triggerSave
  split
  · split <;> rfl
  · rfl

theorem kept_issueGrease (s : State) : (issueGrease s).kept = s.kept := by
  unfold issueGrease
  dsimp only
  split
  · rw [kept_greaseTriggers]; rfl
  · rfl

theorem kept_countMilestone (s : State) : (countMilestone s).kept = s.kept := by
  unfold countMilestone
  dsimp only
  split
  · rw [kept_triggerSave]; rfl
  · rfl

theorem kept_setARing (x : Nat) (s : State) : (setARing x s).kept = s.kept := by
  unfold setARing
  dsimp only
  rw [kept_countMilestone, kept_issueGrease, kept_takeExpectedMass, kept_takeVoid]; rfl

theorem kept_updateARing (s : State) : (updateARing s).kept = s.kept := by
  unfold updateARing
  split
  · exact kept_setARing _ s
  · rfl

/-- In OFFLINE and SILENT a change of the peer table moves no advance (R54, log 29). -/
theorem recomputeAdvance_of_off {s : State} (h : s.onBackbone = false) : recomputeAdvance s = s := by
  simp [recomputeAdvance, h]

/-- A reference that keeps its pressure leaves the band alone (R33, R119). -/
theorem setReference_same (st : RefState) (t : Timer) (s : State) :
    setReference st s.table.pRef t s = { s with table := { s.table with refState := st, staleTimer := t } } := by
  simp [setReference]

/-- A lost arbitration alters no entry, renewed ones included (R2, R13). -/
theorem afterLost_eq_self {code : Nat} {q : List TxEntry} (h : ∀ e ∈ q, e.dropped = false) : afterLost code q = q := by
  unfold afterLost
  rw [List.filter_eq_self]
  intro e he
  simp [h e he]

theorem kept_recomputeAdvance (s : State) : (recomputeAdvance s).kept = s.kept := by
  unfold recomputeAdvance
  split
  · rw [kept_updateARing]; rfl
  · rfl

theorem kept_setReference (st : RefState) (p : Nat) (t : Timer) (s : State) : (setReference st p t s).kept = s.kept := by
  unfold setReference
  dsimp only
  split
  · rfl
  · rw [kept_recomputeBand]; rfl

theorem kept_refreshReference (s : State) : (refreshReference s).kept = s.kept := by
  unfold refreshReference
  split
  · exact kept_setReference _ _ _ s
  · split
    · exact kept_setReference _ _ _ s
    · rfl

theorem kept_refreshWeight (s : State) : (refreshWeight s).kept = s.kept := kept_takeWeight _ s

theorem kept_regimeEvent (s : State) : (regimeEvent s).kept = s.kept := by
  unfold regimeEvent
  split <;> rfl

theorem kept_refreshCauses (s : State) : (refreshCauses s).kept = s.kept := by
  unfold refreshCauses
  split
  · rfl
  · exact kept_regimeEvent s

theorem kept_tableChanged (s : State) : (tableChanged s).kept = s.kept := by
  unfold tableChanged
  rw [kept_refreshGates, kept_refreshCauses, kept_refreshWeight, kept_recomputeAdvance, kept_refreshReference]

/-! ## Publication -/

theorem kept_putOwnEntry (e : StationEntry) (s : State) : (putOwnEntry e s).kept = s.kept := by
  have h : (s.table.putEntry s.boot.station e).stations.toList.eraseIdx (s.boot.station - 1)
      = s.table.stations.toList.eraseIdx (s.boot.station - 1) := by
    unfold PeerTable.putEntry
    split
    · simp [Vector.toList_setIfInBounds, List.eraseIdx_set_eq]
    · rfl
  have h2 : (s.table.putEntry s.boot.station e).console = s.table.console := by
    unfold PeerTable.putEntry; split <;> rfl
  have h3 : (s.table.putEntry s.boot.station e).mode = s.table.mode := by
    unfold PeerTable.putEntry; split <;> rfl
  simp only [State.kept, putOwnEntry, h, h2, h3]
  rfl

theorem kept_writeOwn {b : Bulletin} (hb : b.code ≠ 0) (s : State) : (writeOwn b s).kept = s.kept := by
  unfold writeOwn
  dsimp only
  split
  · exact absurd rfl hb
  · rw [kept_tableChanged, kept_putOwnEntry]

theorem kept_enqueueKind (k : OwnKind) (b : Bulletin) (s : State) : (enqueueKind k b s).kept = s.kept := rfl

theorem content_code (s : State) (k : OwnKind) : (s.content k).code = k.code := by
  cases k <;> rfl

theorem kept_publish {k : OwnKind} (hk : k ≠ .stop) (s : State) : (publish k s).kept = s.kept := by
  have hc : (s.content k).code ≠ 0 := by
    rw [content_code]; cases k <;> simp_all [OwnKind.code]
  unfold publish
  split
  · rw [kept_enqueueKind, kept_writeOwn hc]
  · rfl

theorem kept_markSeen (k : OwnKind) (s : State) : (markSeen k s).kept = s.kept := rfl

theorem kept_publishIfChanged {k : OwnKind} (hk : k ≠ .stop) (s : State) : (publishIfChanged k s).kept = s.kept := by
  unfold publishIfChanged
  split
  · split
    · rw [kept_publish hk, kept_markSeen]
    · rfl
  · rfl

theorem kept_publishRound (s : State) : (publishRound s).kept = s.kept := by
  unfold publishRound
  rw [kept_publishIfChanged, kept_publishIfChanged, kept_publishIfChanged, kept_publishIfChanged, kept_publishIfChanged,
    kept_publishIfChanged, kept_publishIfChanged] <;> decide

theorem kept_settle (s : State) : (settle s).kept = s.kept := by
  simp only [settle, kept_publishRound]

theorem kept_refreshAlarm (s : State) : (refreshAlarm s).kept = s.kept := rfl

/-- The end of an event leaves `State.kept` alone. -/
theorem kept_finish (s : State) : (finish s).kept = s.kept := by
  unfold finish
  rw [kept_refreshAlarm, kept_refreshGates, kept_settle]

end Sys2Proof.Machine
end

