-- ==== Sys2Proof/Laws/Settled.lean ====
section
/-! SUPPORT. The end of an event clears no event flag and leaves the stop latch as it is. -/
namespace Sys2Proof.Machine
open Sys2Proof

/-! ## Operations that leave the event unit alone -/

theorem events_writeDuty (f : ChFunction) (d : Nat) (s : State) : (writeDuty f d s).events = s.events := by
  unfold writeDuty
  split <;> rfl

theorem events_setPulseFlag (on : Bool) (s : State) : (setPulseFlag on s).events = s.events := by
  unfold setPulseFlag
  split <;> rfl

theorem events_examineBlocked (s : State) : (examineBlocked s).events = s.events := rfl

theorem events_examineScrew (s : State) : (examineScrew s).events = s.events := rfl

theorem events_setLine (l : LineState) (s : State) : (setLine l s).events = s.events := by
  unfold setLine
  split
  · rfl
  · split
    · rw [events_examineBlocked, events_writeDuty]
    · rfl

theorem events_decideLine (s : State) : (decideLine s).events = s.events := by
  unfold decideLine
  split
  · exact events_setLine _ s
  · rfl

theorem events_recomputeDeficit (s : State) : (recomputeDeficit s).events = s.events := by
  unfold recomputeDeficit
  dsimp only
  split
  · rfl
  · rw [events_decideLine]; rfl

theorem events_recomputeTarget (s : State) : (recomputeTarget s).events = s.events := by
  unfold recomputeTarget
  split
  · rw [events_recomputeDeficit]
  · rfl

theorem events_examineDerate (s : State) : (examineDerate s).events = s.events := by
  unfold examineDerate
  dsimp only
  split
  · rfl
  · rw [events_decideLine]

theorem events_recomputeBand (s : State) : (recomputeBand s).events = s.events := by
  show (examineDerate _).events = _
  rw [events_examineDerate]

theorem events_takeVoid (v : Nat) (s : State) : (takeVoid v s).events = s.events := by
  unfold takeVoid
  split
  · rw [events_recomputeTarget]
  · rfl

theorem events_takeWeight (w : Nat) (s : State) : (takeWeight w s).events = s.events := by
  unfold takeWeight
  split
  · rw [events_recomputeTarget]
  · rfl

theorem events_startPulse (s : State) : (startPulse s).events = s.events := by
  unfold startPulse
  rw [events_setPulseFlag]

theorem events_refreshGate (i : Fin 8) (s : State) : (refreshGate i s).events = s.events := by
  unfold refreshGate
  split
  · rfl
  · split <;> (unfold gateChanged; split <;> rfl)

theorem events_refreshGates (s : State) : (refreshGates s).events = s.events := by
  simp only [refreshGates, events_refreshGate]

theorem events_triggerSave (s : State) : (triggerSave s).events = s.events := by
  unfold triggerSave
  split
  · split <;> rfl
  · rfl

theorem events_countMilestone (s : State) : (countMilestone s).events = s.events := by
  unfold countMilestone
  dsimp only
  split
  · rw [events_triggerSave]
  · rfl

theorem events_setReference (st : RefState) (p : Nat) (t : Timer) (s : State) : (setReference st p t s).events = s.events := by
  unfold setReference
  dsimp only
  split
  · rfl
  · rw [events_recomputeBand]

theorem events_refreshReference (s : State) : (refreshReference s).events = s.events := by
  unfold refreshReference
  split
  · exact events_setReference _ _ _ s
  · split
    · exact events_setReference _ _ _ s
    · rfl

theorem events_refreshWeight (s : State) : (refreshWeight s).events = s.events := events_takeWeight _ s

theorem events_refreshCauses (s : State) : (refreshCauses s).events = s.events := by
  unfold refreshCauses regimeEvent
  split
  · rfl
  · split <;> rfl

/-! ## Flags are only set -/

/-- `t` holds every flag that `s` holds. -/
def Grows (s t : State) : Prop := ∃ m, t.events.flags = s.events.flags ||| m

theorem Grows.of_eq {s t : State} (h : t.events = s.events) : Grows s t := ⟨0#16, by rw [h]; simp⟩

theorem Grows.trans {s t u : State} (h : Grows s t) (k : Grows t u) : Grows s u := by
  obtain ⟨m, h⟩ := h
  obtain ⟨n, k⟩ := k
  exact ⟨m ||| n, by rw [k, h, BitVec.or_assoc]⟩

theorem Grows.from {s s1 t : State} (h : Grows s1 t) (e : s1.events = s.events) : Grows s t := (Grows.of_eq e).trans h

theorem Grows.and_eq {s t : State} (h : Grows s t) : s.events.flags &&& t.events.flags = s.events.flags := by
  obtain ⟨m, h⟩ := h
  rw [h]
  ext i
  simp only [BitVec.getElem_and, BitVec.getElem_or]
  cases s.events.flags[i] <;> simp

theorem grows_raiseEvent (e : EventFlag) (s : State) : Grows s (raiseEvent e s) := ⟨e.mask, rfl⟩

theorem grows_greaseTrigger (s : State) : Grows s (greaseTrigger s) := by
  unfold greaseTrigger
  split
  · exact .of_eq (events_startPulse s)
  · exact .of_eq rfl
  · exact grows_raiseEvent _ s

theorem grows_greaseTriggers (n : Nat) (s : State) : Grows s (greaseTriggers n s) := by
  induction n generalizing s with
  | zero => exact .of_eq rfl
  | succ n ih => exact (grows_greaseTrigger s).trans (ih _)

theorem grows_issueGrease (s : State) : Grows s (issueGrease s) := by
  unfold issueGrease
  dsimp only
  split
  · exact (grows_greaseTriggers _ _).from rfl
  · exact .of_eq rfl

theorem grows_examineOverdig (s : State) : Grows s (examineOverdig s) := by
  unfold examineOverdig
  split
  · exact ⟨_, rfl⟩
  · exact .of_eq rfl

theorem grows_examineUnderdig (s : State) : Grows s (examineUnderdig s) := by
  unfold examineUnderdig
  split
  · exact ⟨_, rfl⟩
  · exact .of_eq rfl

theorem grows_recomputeBalance (s : State) : Grows s (recomputeBalance s) := by
  unfold recomputeBalance
  split
  · exact ((grows_examineOverdig _).trans (grows_examineUnderdig _)).from rfl
  · exact .of_eq rfl

theorem grows_takeExpectedMass (m : Nat) (s : State) : Grows s (takeExpectedMass m s) := by
  unfold takeExpectedMass
  split
  · exact (grows_recomputeBalance _).from rfl
  · exact .of_eq rfl

theorem grows_setARing (x : Nat) (s : State) : Grows s (setARing x s) := by
  unfold setARing
  dsimp only
  refine Grows.trans ?_ (Grows.of_eq (events_countMilestone _))
  refine Grows.trans ?_ (grows_issueGrease _)
  refine Grows.trans ?_ (grows_takeExpectedMass _ _)
  exact Grows.of_eq (events_takeVoid _ _)

theorem grows_updateARing (s : State) : Grows s (updateARing s) := by
  unfold updateARing
  split
  · exact grows_setARing _ s
  · exact .of_eq rfl

theorem grows_recomputeAdvance (s : State) : Grows s (recomputeAdvance s) := by
  unfold recomputeAdvance
  split
  · exact (grows_updateARing _).from rfl
  · exact Grows.of_eq rfl

theorem grows_tableChanged (s : State) : Grows s (tableChanged s) := by
  unfold tableChanged
  refine Grows.trans ?_ (Grows.of_eq (events_refreshGates _))
  refine Grows.trans ?_ (Grows.of_eq (events_refreshCauses _))
  refine Grows.trans ?_ (Grows.of_eq (events_refreshWeight _))
  exact (grows_recomputeAdvance _).from (events_refreshReference s)

theorem grows_writeOwn {b : Bulletin} (hb : b.code ≠ 0) (s : State) : Grows s (writeOwn b s) := by
  unfold writeOwn
  dsimp only
  split
  · exact absurd rfl hb
  · exact (grows_tableChanged _).from rfl

theorem grows_publish {k : OwnKind} (hk : k ≠ .stop) (s : State) : Grows s (publish k s) := by
  have hc : (s.content k).code ≠ 0 := by
    rw [content_code]; cases k <;> simp_all [OwnKind.code]
  unfold publish
  split
  · exact (grows_writeOwn hc s)
  · exact .of_eq rfl

theorem grows_publishIfChanged {k : OwnKind} (hk : k ≠ .stop) (s : State) : Grows s (publishIfChanged k s) := by
  unfold publishIfChanged
  split
  · split
    · exact (grows_publish hk _).from rfl
    · exact .of_eq rfl
  · exact .of_eq rfl

theorem grows_publishRound (s : State) : Grows s (publishRound s) := by
  unfold publishRound
  have h {k : OwnKind} (hk : k ≠ .stop) {u : State} (hu : Grows s u) : Grows s (publishIfChanged k u) :=
    hu.trans (grows_publishIfChanged hk u)
  exact h (by decide) (h (by decide) (h (by decide) (h (by decide) (h (by decide) (h (by decide)
    (grows_publishIfChanged (by decide) s))))))

theorem grows_settle (s : State) : Grows s (settle s) :=
  (grows_publishRound s).trans ((grows_publishRound _).trans ((grows_publishRound _).trans (grows_publishRound _)))

theorem flags_refreshAlarm (s : State) : (refreshAlarm s).events.flags = s.events.flags := rfl

theorem grows_finish (s : State) : Grows s (finish s) :=
  (grows_settle s).trans ⟨0#16, by simp [finish, flags_refreshAlarm, events_refreshGates]⟩

/-- The end of an event settles the state an event has made. -/
theorem settled_finish (s : State) : Settled s (finish s) := ⟨kept_finish s, (grows_finish s).and_eq⟩

theorem Settled.of_eq {e e' t : State} (h : Settled e t) (he : e = e') : Settled e' t := he ▸ h

theorem Settled.rfl (s : State) : Settled s s := ⟨Eq.refl _, BitVec.and_self⟩

end Sys2Proof.Machine
end

