-- ==== Sys2Proof/Laws/Gates.lean ====
section
/-! SUPPORT. Re-evaluating the gates leaves every gate as its causes say (R157), and so does the end of every event. -/
namespace Sys2Proof.Machine
open Sys2Proof

theorem gateDue_putChannel (i j : Fin 8) (r : ChannelRec) (s : State) : (putChannel i r s).gateDue j = s.gateDue j := rfl

theorem gateDue_gateChanged (f : ChFunction) (j : Fin 8) (s : State) : (gateChanged f s).gateDue j = s.gateDue j := by
  unfold gateChanged
  split <;> rfl

theorem ch_gateChanged (f : ChFunction) (j : Fin 8) (s : State) : (gateChanged f s).ch j = s.ch j := by
  unfold gateChanged
  split <;> rfl

theorem gateDue_refreshGate (i j : Fin 8) (s : State) : (refreshGate i s).gateDue j = s.gateDue j := by
  unfold refreshGate
  split
  · rfl
  · split <;> rw [gateDue_gateChanged, gateDue_putChannel]

theorem ch_refreshGate_of_ne {i j : Fin 8} (h : i ≠ j) (s : State) : (refreshGate i s).ch j = s.ch j := by
  unfold refreshGate
  split
  · rfl
  · split <;> rw [ch_gateChanged, ch_putChannel, if_neg h]

/-- An open gate is on a gated channel (R157). -/
theorem gated_of_gateDue {s : State} {i : Fin 8} (h : s.gateDue i = true) : (s.chCfg i).function.mode.gated = true := by
  unfold State.gateDue at h
  split at h
  · simp_all
  · simp at h

theorem opened_gate {r : ChannelRec} {c : ChannelCfg} {now : Nat} (h : c.function.mode.gated = true) :
    (r.opened c now).gate = true := by
  unfold ChannelRec.opened
  split <;> simp_all [ChMode.gated]

theorem gate_refreshGate (i : Fin 8) (s : State) : ((refreshGate i s).ch i).gate = s.gateDue i := by
  unfold refreshGate
  split
  · rename_i h
    exact h.symm
  · split
    · rename_i h
      rw [ch_gateChanged, ch_putChannel, if_pos rfl, opened_gate (gated_of_gateDue h), h]
    · rename_i h
      rw [ch_gateChanged, ch_putChannel, if_pos rfl]
      simp only [ChannelRec.shut]
      simpa using (Bool.not_eq_true _ ▸ h : s.gateDue i = false).symm

theorem gateTrue_base (i : Fin 8) (s : State) : ((refreshGate i s).ch i).gate = (refreshGate i s).gateDue i := by
  rw [gate_refreshGate, gateDue_refreshGate]

theorem gateTrue_keep (i : Fin 8) {j : Fin 8} {s : State} (h : (s.ch j).gate = s.gateDue j) :
    ((refreshGate i s).ch j).gate = (refreshGate i s).gateDue j := by
  by_cases hij : i = j
  · subst hij
    exact gateTrue_base i s
  · rw [ch_refreshGate_of_ne hij, gateDue_refreshGate, h]

/-- Every gate stands as its causes say once the gates are re-evaluated. -/
theorem gate_refreshGates (i : Fin 8) (s : State) : ((refreshGates s).ch i).gate = (refreshGates s).gateDue i :=
  match i with
  | 0 => gateTrue_keep 7 (gateTrue_keep 6 (gateTrue_keep 5 (gateTrue_keep 4 (gateTrue_keep 3 (gateTrue_keep 2 (gateTrue_keep 1 (gateTrue_base 0 _)))))))
  | 1 => gateTrue_keep 7 (gateTrue_keep 6 (gateTrue_keep 5 (gateTrue_keep 4 (gateTrue_keep 3 (gateTrue_keep 2 (gateTrue_base 1 _))))))
  | 2 => gateTrue_keep 7 (gateTrue_keep 6 (gateTrue_keep 5 (gateTrue_keep 4 (gateTrue_keep 3 (gateTrue_base 2 _)))))
  | 3 => gateTrue_keep 7 (gateTrue_keep 6 (gateTrue_keep 5 (gateTrue_keep 4 (gateTrue_base 3 _))))
  | 4 => gateTrue_keep 7 (gateTrue_keep 6 (gateTrue_keep 5 (gateTrue_base 4 _)))
  | 5 => gateTrue_keep 7 (gateTrue_keep 6 (gateTrue_base 5 _))
  | 6 => gateTrue_keep 7 (gateTrue_base 6 _)
  | 7 => gateTrue_base 7 _

theorem gateDue_refreshGates (i : Fin 8) (s : State) : (refreshGates s).gateDue i = s.gateDue i := by
  simp only [refreshGates, gateDue_refreshGate]

/-- The alarm output is as due once it is re-evaluated. -/
theorem alarm_refreshAlarm (s : State) : (refreshAlarm s).events.alarm = (refreshAlarm s).alarmDue := rfl

theorem ch_refreshAlarm (i : Fin 8) (s : State) : (refreshAlarm s).ch i = s.ch i := rfl

theorem gateDue_refreshAlarm (i : Fin 8) (s : State) : (refreshAlarm s).gateDue i = s.gateDue i := rfl

/-- At the end of an event every gate stands as its causes say. -/
theorem gate_finish (i : Fin 8) (s : State) : ((finish s).ch i).gate = (finish s).gateDue i := by
  unfold finish
  rw [ch_refreshAlarm, gateDue_refreshAlarm]
  exact gate_refreshGates i _

/-- At the end of an event the alarm output is as due. -/
theorem alarm_finish (s : State) : (finish s).events.alarm = (finish s).alarmDue := by
  unfold finish
  exact alarm_refreshAlarm _

end Sys2Proof.Machine
end

