-- ==== Sys2Proof/Laws/Exec.lean ====
section
/-! SUPPORT. How a command can be answered: with the end of an event after its effect, or, where the event cannot occur, with the
state as it is (log 1). -/
namespace Sys2Proof.Machine
open Sys2Proof

/-- Every command ends an event or leaves the state as it is. -/
theorem exec_answers (c : Instr) (s : State) : (∃ e, exec c s = answer e) ∨ exec c s = noEffect s := by
  cases c <;> simp only [exec]
  case powerOn => exact .inl ⟨_, rfl⟩
  case lineReset => exact .inl ⟨_, rfl⟩
  case resetAsserted => exact .inl ⟨_, rfl⟩
  case permitInputChange => exact .inl ⟨_, rfl⟩
  case channelEdge => exact .inl ⟨_, rfl⟩
  case frameArrives => unfold execFrameArrives; split <;> exact .inl ⟨_, rfl⟩
  case configReadComplete =>
    unfold execConfigReadComplete; split
    · dsimp only; split <;> exact .inl ⟨_, rfl⟩
    · exact .inr rfl
  case ringRecordReadComplete =>
    unfold execRingRecordReadComplete; split
    · dsimp only; split <;> exact .inl ⟨_, rfl⟩
    · exact .inr rfl
  case lineFree =>
    unfold execLineFree; split
    · split
      · exact .inr rfl
      · exact .inl ⟨_, rfl⟩
    · exact .inr rfl
  case bulletinTaken =>
    unfold execBulletinTaken; split
    · split
      iterate 7 exact .inl ⟨_, rfl⟩
      iterate 5 exact .inr rfl
    · exact .inr rfl
  case slotCurrencyExpiry slot =>
    unfold execSlotCurrencyExpiry; split <;> split
    exacts [.inl ⟨_, rfl⟩, .inr rfl, .inl ⟨_, rfl⟩, .inr rfl]
  case stopInputActive =>
    unfold execStopInputActive; split
    · exact .inr rfl
    · dsimp only; exact .inl ⟨_, rfl⟩
  case joinTimerExpiry => unfold execJoinTimerExpiry; dsimp only; split; exacts [.inl ⟨_, rfl⟩, .inr rfl]
  case lostArbitration => unfold execLostArbitration; split; exacts [.inl ⟨_, rfl⟩, .inr rfl]
  case acknowledged => unfold execAcknowledged; split; exacts [.inl ⟨_, rfl⟩, .inr rfl]
  case unacknowledged => unfold execUnacknowledged; split; exacts [.inl ⟨_, rfl⟩, .inr rfl]
  case bitError => unfold execBitError; split; exacts [.inl ⟨_, rfl⟩, .inr rfl]
  case idTaken => unfold execIdTaken; split; exacts [.inl ⟨_, rfl⟩, .inr rfl]
  case modeTaken => unfold execModeTaken; split; exacts [.inl ⟨_, rfl⟩, .inr rfl]
  case buildTaken => unfold execBuildTaken; split; exacts [.inl ⟨_, rfl⟩, .inr rfl]
  case stopTaken => unfold execStopTaken; split; exacts [.inl ⟨_, rfl⟩, .inr rfl]
  case clearFault => unfold execClearFault; split; exacts [.inl ⟨_, rfl⟩, .inr rfl]
  case clearEvents => unfold execClearEvents; split; exacts [.inl ⟨_, rfl⟩, .inr rfl]
  case resume => unfold execResume; split; exacts [.inl ⟨_, rfl⟩, .inr rfl]
  case restart => unfold execRestart; split; exacts [.inl ⟨_, rfl⟩, .inr rfl]
  case forget => unfold execForget; split; exacts [.inl ⟨_, rfl⟩, .inr rfl]
  case save => unfold execSave; split; exacts [.inl ⟨_, rfl⟩, .inr rfl]
  case staleTimerExpiry => unfold execStaleTimerExpiry; split; exacts [.inl ⟨_, rfl⟩, .inr rfl]
  case publicationTimerExpiry => unfold execPublicationTimerExpiry; split; exacts [.inl ⟨_, rfl⟩, .inr rfl]
  case rateTimerExpiry => unfold execRateTimerExpiry; split; exacts [.inl ⟨_, rfl⟩, .inr rfl]
  case conversionComplete => unfold execConversionComplete; split; exacts [.inl ⟨_, rfl⟩, .inr rfl]
  case inputHoldExpiry => unfold execInputHoldExpiry; split; exacts [.inl ⟨_, rfl⟩, .inr rfl]
  case driveEvaluation => unfold execDriveEvaluation; split; exacts [.inl ⟨_, rfl⟩, .inr rfl]
  case driveStallTimerExpiry => unfold execDriveStallTimerExpiry; split; exacts [.inl ⟨_, rfl⟩, .inr rfl]
  case thrustEvaluation => unfold execThrustEvaluation; split; exacts [.inl ⟨_, rfl⟩, .inr rfl]
  case thrustOverpressureExpiry => unfold execThrustOverpressureExpiry; split; exacts [.inl ⟨_, rfl⟩, .inr rfl]
  case holdOffExpiry => unfold execHoldOffExpiry; split; exacts [.inl ⟨_, rfl⟩, .inr rfl]
  case waitTimerExpiry => unfold execWaitTimerExpiry; split; exacts [.inl ⟨_, rfl⟩, .inr rfl]
  case retractTimerExpiry => unfold execRetractTimerExpiry; split; exacts [.inl ⟨_, rfl⟩, .inr rfl]
  case extendTimerExpiry => unfold execExtendTimerExpiry; split; exacts [.inl ⟨_, rfl⟩, .inr rfl]
  case groutEvaluation => unfold execGroutEvaluation; split; exacts [.inl ⟨_, rfl⟩, .inr rfl]
  case blockedTimerExpiry => unfold execBlockedTimerExpiry; split; exacts [.inl ⟨_, rfl⟩, .inr rfl]
  case groutOverpressureExpiry => unfold execGroutOverpressureExpiry; split; exacts [.inl ⟨_, rfl⟩, .inr rfl]
  case screwEvaluation => unfold execScrewEvaluation; split; exacts [.inl ⟨_, rfl⟩, .inr rfl]
  case screwStallTimerExpiry => unfold execScrewStallTimerExpiry; split; exacts [.inl ⟨_, rfl⟩, .inr rfl]
  case feedbackTimerExpiry => unfold execFeedbackTimerExpiry; split; exacts [.inl ⟨_, rfl⟩, .inr rfl]
  case periodBoundary => unfold execPeriodBoundary; split; exacts [.inl ⟨_, rfl⟩, .inr rfl]
  case channelTimeoutExpiry => unfold execChannelTimeoutExpiry; split; exacts [.inl ⟨_, rfl⟩, .inr rfl]
  case pulseWidthExpiry => unfold execPulseWidthExpiry; split; exacts [.inl ⟨_, rfl⟩, .inr rfl]
  case stopInputReleased => unfold execStopInputReleased; split; exacts [.inl ⟨_, rfl⟩, .inr rfl]
  case memoryWriteComplete => unfold execMemoryWriteComplete; split; exacts [.inl ⟨_, rfl⟩, .inr rfl]
  case activeTimeEnd => unfold execActiveTimeEnd; split; exacts [.inl ⟨_, rfl⟩, .inr rfl]

end Sys2Proof.Machine
end

