-- ==== Sys2Proof/Laws/Base.lean ====
section
/-! SUPPORT. What every job's operation leaves alone: the start, the configuration, the pins, the clock, the queue of commands, the
ring number, the stop latch and the fault records (`Base`). -/
namespace Sys2Proof.Machine
open Sys2Proof

/-- What no job's own operation touches. -/
structure Base where
  boot    : Boot
  cfg     : StationConfig
  pins    : Pins
  now     : Nat
  pending : List Instr
  ring    : Nat
  stopped : Bool
  faults  : FaultRecords

def State.base (s : State) : Base := ⟨s.boot, s.cfg, s.pins, s.now, s.pending, s.adv.ring, s.events.stopped, s.faults⟩

/-- The base by its fields, the form in which `simp` reads it through a record update. -/
theorem base_iff {s t : State} : t.base = s.base ↔
    t.boot = s.boot ∧ t.cfg = s.cfg ∧ t.pins = s.pins ∧ t.now = s.now ∧ t.pending = s.pending ∧ t.adv.ring = s.adv.ring ∧
      t.events.stopped = s.events.stopped ∧ t.faults = s.faults := by
  simp [State.base]

/-- What the end of an event keeps includes the base. -/
theorem base_of_kept {s t : State} (h : t.kept = s.kept) : t.base = s.base := by
  unfold State.base
  rw [show t.boot = s.boot from congrArg Kept.boot h, show t.cfg = s.cfg from congrArg Kept.cfg h,
    show t.pins = s.pins from congrArg Kept.pins h, show t.now = s.now from congrArg Kept.now h,
    show t.pending = s.pending from congrArg Kept.pending h, show t.adv.ring = s.adv.ring from congrArg Kept.ring h,
    show t.events.stopped = s.events.stopped from congrArg Kept.stopped h,
    show t.faults = s.faults from congrArg Kept.faults h]

@[simp] theorem base_putChannel (i : Fin 8) (r : ChannelRec) (s : State) :
    (putChannel i r s).boot = s.boot ∧ (putChannel i r s).cfg = s.cfg ∧
      (putChannel i r s).pins = s.pins ∧ (putChannel i r s).now = s.now ∧
      (putChannel i r s).pending = s.pending ∧ (putChannel i r s).adv.ring = s.adv.ring ∧
      (putChannel i r s).events.stopped = s.events.stopped ∧ (putChannel i r s).faults = s.faults := ⟨rfl, rfl, rfl, rfl, rfl, rfl, rfl, rfl⟩

@[simp] theorem base_putInput (i : Fin 12) (r : InputRec) (s : State) :
    (putInput i r s).boot = s.boot ∧ (putInput i r s).cfg = s.cfg ∧
      (putInput i r s).pins = s.pins ∧ (putInput i r s).now = s.now ∧
      (putInput i r s).pending = s.pending ∧ (putInput i r s).adv.ring = s.adv.ring ∧
      (putInput i r s).events.stopped = s.events.stopped ∧ (putInput i r s).faults = s.faults := ⟨rfl, rfl, rfl, rfl, rfl, rfl, rfl, rfl⟩

@[simp] theorem base_putOwnEntry (e : StationEntry) (s : State) :
    (putOwnEntry e s).boot = s.boot ∧ (putOwnEntry e s).cfg = s.cfg ∧
      (putOwnEntry e s).pins = s.pins ∧ (putOwnEntry e s).now = s.now ∧
      (putOwnEntry e s).pending = s.pending ∧ (putOwnEntry e s).adv.ring = s.adv.ring ∧
      (putOwnEntry e s).events.stopped = s.events.stopped ∧ (putOwnEntry e s).faults = s.faults := ⟨rfl, rfl, rfl, rfl, rfl, rfl, rfl, rfl⟩

@[simp] theorem base_raiseEvent (e : EventFlag) (s : State) :
    (raiseEvent e s).boot = s.boot ∧ (raiseEvent e s).cfg = s.cfg ∧
      (raiseEvent e s).pins = s.pins ∧ (raiseEvent e s).now = s.now ∧
      (raiseEvent e s).pending = s.pending ∧ (raiseEvent e s).adv.ring = s.adv.ring ∧
      (raiseEvent e s).events.stopped = s.events.stopped ∧ (raiseEvent e s).faults = s.faults := ⟨rfl, rfl, rfl, rfl, rfl, rfl, rfl, rfl⟩

@[simp] theorem base_clearFlags (m : Word16) (s : State) :
    (clearFlags m s).boot = s.boot ∧ (clearFlags m s).cfg = s.cfg ∧
      (clearFlags m s).pins = s.pins ∧ (clearFlags m s).now = s.now ∧
      (clearFlags m s).pending = s.pending ∧ (clearFlags m s).adv.ring = s.adv.ring ∧
      (clearFlags m s).events.stopped = s.events.stopped ∧ (clearFlags m s).faults = s.faults := ⟨rfl, rfl, rfl, rfl, rfl, rfl, rfl, rfl⟩

@[simp] theorem base_finish (s : State) :
    (finish s).boot = s.boot ∧ (finish s).cfg = s.cfg ∧
      (finish s).pins = s.pins ∧ (finish s).now = s.now ∧
      (finish s).pending = s.pending ∧ (finish s).adv.ring = s.adv.ring ∧
      (finish s).events.stopped = s.events.stopped ∧ (finish s).faults = s.faults :=
  base_iff.mp (base_of_kept (kept_finish s))

@[simp] theorem base_decideLine (s : State) :
    (decideLine s).boot = s.boot ∧ (decideLine s).cfg = s.cfg ∧
      (decideLine s).pins = s.pins ∧ (decideLine s).now = s.now ∧
      (decideLine s).pending = s.pending ∧ (decideLine s).adv.ring = s.adv.ring ∧
      (decideLine s).events.stopped = s.events.stopped ∧ (decideLine s).faults = s.faults :=
  base_iff.mp (base_of_kept (kept_decideLine s))

@[simp] theorem base_decideHoldRequest (s : State) :
    (decideHoldRequest s).boot = s.boot ∧ (decideHoldRequest s).cfg = s.cfg ∧
      (decideHoldRequest s).pins = s.pins ∧ (decideHoldRequest s).now = s.now ∧
      (decideHoldRequest s).pending = s.pending ∧ (decideHoldRequest s).adv.ring = s.adv.ring ∧
      (decideHoldRequest s).events.stopped = s.events.stopped ∧ (decideHoldRequest s).faults = s.faults :=
  base_iff.mp (base_of_kept (kept_decideHoldRequest s))

@[simp] theorem base_recomputeDeficit (s : State) :
    (recomputeDeficit s).boot = s.boot ∧ (recomputeDeficit s).cfg = s.cfg ∧
      (recomputeDeficit s).pins = s.pins ∧ (recomputeDeficit s).now = s.now ∧
      (recomputeDeficit s).pending = s.pending ∧ (recomputeDeficit s).adv.ring = s.adv.ring ∧
      (recomputeDeficit s).events.stopped = s.events.stopped ∧ (recomputeDeficit s).faults = s.faults :=
  base_iff.mp (base_of_kept (kept_recomputeDeficit s))

@[simp] theorem base_recomputeTarget (s : State) :
    (recomputeTarget s).boot = s.boot ∧ (recomputeTarget s).cfg = s.cfg ∧
      (recomputeTarget s).pins = s.pins ∧ (recomputeTarget s).now = s.now ∧
      (recomputeTarget s).pending = s.pending ∧ (recomputeTarget s).adv.ring = s.adv.ring ∧
      (recomputeTarget s).events.stopped = s.events.stopped ∧ (recomputeTarget s).faults = s.faults :=
  base_iff.mp (base_of_kept (kept_recomputeTarget s))

@[simp] theorem base_recomputeBand (s : State) :
    (recomputeBand s).boot = s.boot ∧ (recomputeBand s).cfg = s.cfg ∧
      (recomputeBand s).pins = s.pins ∧ (recomputeBand s).now = s.now ∧
      (recomputeBand s).pending = s.pending ∧ (recomputeBand s).adv.ring = s.adv.ring ∧
      (recomputeBand s).events.stopped = s.events.stopped ∧ (recomputeBand s).faults = s.faults :=
  base_iff.mp (base_of_kept (kept_recomputeBand s))

@[simp] theorem base_examineBlocked (s : State) :
    (examineBlocked s).boot = s.boot ∧ (examineBlocked s).cfg = s.cfg ∧
      (examineBlocked s).pins = s.pins ∧ (examineBlocked s).now = s.now ∧
      (examineBlocked s).pending = s.pending ∧ (examineBlocked s).adv.ring = s.adv.ring ∧
      (examineBlocked s).events.stopped = s.events.stopped ∧ (examineBlocked s).faults = s.faults :=
  base_iff.mp (base_of_kept (kept_examineBlocked s))

@[simp] theorem base_examineGroutPressure (s : State) :
    (examineGroutPressure s).boot = s.boot ∧ (examineGroutPressure s).cfg = s.cfg ∧
      (examineGroutPressure s).pins = s.pins ∧ (examineGroutPressure s).now = s.now ∧
      (examineGroutPressure s).pending = s.pending ∧ (examineGroutPressure s).adv.ring = s.adv.ring ∧
      (examineGroutPressure s).events.stopped = s.events.stopped ∧ (examineGroutPressure s).faults = s.faults :=
  base_iff.mp (base_of_kept (kept_examineGroutPressure s))

@[simp] theorem base_examineDerate (s : State) :
    (examineDerate s).boot = s.boot ∧ (examineDerate s).cfg = s.cfg ∧
      (examineDerate s).pins = s.pins ∧ (examineDerate s).now = s.now ∧
      (examineDerate s).pending = s.pending ∧ (examineDerate s).adv.ring = s.adv.ring ∧
      (examineDerate s).events.stopped = s.events.stopped ∧ (examineDerate s).faults = s.faults :=
  base_iff.mp (base_of_kept (kept_examineDerate s))

@[simp] theorem base_examineScrew (s : State) :
    (examineScrew s).boot = s.boot ∧ (examineScrew s).cfg = s.cfg ∧
      (examineScrew s).pins = s.pins ∧ (examineScrew s).now = s.now ∧
      (examineScrew s).pending = s.pending ∧ (examineScrew s).adv.ring = s.adv.ring ∧
      (examineScrew s).events.stopped = s.events.stopped ∧ (examineScrew s).faults = s.faults :=
  base_iff.mp (base_of_kept (kept_examineScrew s))

@[simp] theorem base_setLine (l : LineState) (s : State) :
    (setLine l s).boot = s.boot ∧ (setLine l s).cfg = s.cfg ∧
      (setLine l s).pins = s.pins ∧ (setLine l s).now = s.now ∧
      (setLine l s).pending = s.pending ∧ (setLine l s).adv.ring = s.adv.ring ∧
      (setLine l s).events.stopped = s.events.stopped ∧ (setLine l s).faults = s.faults :=
  base_iff.mp (base_of_kept (kept_setLine l s))

@[simp] theorem base_clearPulse (s : State) :
    (clearPulse s).boot = s.boot ∧ (clearPulse s).cfg = s.cfg ∧
      (clearPulse s).pins = s.pins ∧ (clearPulse s).now = s.now ∧
      (clearPulse s).pending = s.pending ∧ (clearPulse s).adv.ring = s.adv.ring ∧
      (clearPulse s).events.stopped = s.events.stopped ∧ (clearPulse s).faults = s.faults :=
  base_iff.mp (base_of_kept (kept_clearPulse s))

@[simp] theorem base_startPulse (s : State) :
    (startPulse s).boot = s.boot ∧ (startPulse s).cfg = s.cfg ∧
      (startPulse s).pins = s.pins ∧ (startPulse s).now = s.now ∧
      (startPulse s).pending = s.pending ∧ (startPulse s).adv.ring = s.adv.ring ∧
      (startPulse s).events.stopped = s.events.stopped ∧ (startPulse s).faults = s.faults :=
  base_iff.mp (base_of_kept (kept_startPulse s))

@[simp] theorem base_refreshGates (s : State) :
    (refreshGates s).boot = s.boot ∧ (refreshGates s).cfg = s.cfg ∧
      (refreshGates s).pins = s.pins ∧ (refreshGates s).now = s.now ∧
      (refreshGates s).pending = s.pending ∧ (refreshGates s).adv.ring = s.adv.ring ∧
      (refreshGates s).events.stopped = s.events.stopped ∧ (refreshGates s).faults = s.faults :=
  base_iff.mp (base_of_kept (kept_refreshGates s))

@[simp] theorem base_triggerSave (s : State) :
    (triggerSave s).boot = s.boot ∧ (triggerSave s).cfg = s.cfg ∧
      (triggerSave s).pins = s.pins ∧ (triggerSave s).now = s.now ∧
      (triggerSave s).pending = s.pending ∧ (triggerSave s).adv.ring = s.adv.ring ∧
      (triggerSave s).events.stopped = s.events.stopped ∧ (triggerSave s).faults = s.faults :=
  base_iff.mp (base_of_kept (kept_triggerSave s))

@[simp] theorem base_updateARing (s : State) :
    (updateARing s).boot = s.boot ∧ (updateARing s).cfg = s.cfg ∧
      (updateARing s).pins = s.pins ∧ (updateARing s).now = s.now ∧
      (updateARing s).pending = s.pending ∧ (updateARing s).adv.ring = s.adv.ring ∧
      (updateARing s).events.stopped = s.events.stopped ∧ (updateARing s).faults = s.faults :=
  base_iff.mp (base_of_kept (kept_updateARing s))

@[simp] theorem base_tableChanged (s : State) :
    (tableChanged s).boot = s.boot ∧ (tableChanged s).cfg = s.cfg ∧
      (tableChanged s).pins = s.pins ∧ (tableChanged s).now = s.now ∧
      (tableChanged s).pending = s.pending ∧ (tableChanged s).adv.ring = s.adv.ring ∧
      (tableChanged s).events.stopped = s.events.stopped ∧ (tableChanged s).faults = s.faults :=
  base_iff.mp (base_of_kept (kept_tableChanged s))

@[simp] theorem base_settle (s : State) :
    (settle s).boot = s.boot ∧ (settle s).cfg = s.cfg ∧
      (settle s).pins = s.pins ∧ (settle s).now = s.now ∧
      (settle s).pending = s.pending ∧ (settle s).adv.ring = s.adv.ring ∧
      (settle s).events.stopped = s.events.stopped ∧ (settle s).faults = s.faults :=
  base_iff.mp (base_of_kept (kept_settle s))

@[simp] theorem base_setReference (st : RefState) (p : Nat) (t : Timer) (s : State) :
    (setReference st p t s).boot = s.boot ∧ (setReference st p t s).cfg = s.cfg ∧
      (setReference st p t s).pins = s.pins ∧ (setReference st p t s).now = s.now ∧
      (setReference st p t s).pending = s.pending ∧ (setReference st p t s).adv.ring = s.adv.ring ∧
      (setReference st p t s).events.stopped = s.events.stopped ∧ (setReference st p t s).faults = s.faults :=
  base_iff.mp (base_of_kept (kept_setReference st p t s))

@[simp] theorem base_regimeEvent (s : State) :
    (regimeEvent s).boot = s.boot ∧ (regimeEvent s).cfg = s.cfg ∧
      (regimeEvent s).pins = s.pins ∧ (regimeEvent s).now = s.now ∧
      (regimeEvent s).pending = s.pending ∧ (regimeEvent s).adv.ring = s.adv.ring ∧
      (regimeEvent s).events.stopped = s.events.stopped ∧ (regimeEvent s).faults = s.faults :=
  base_iff.mp (base_of_kept (kept_regimeEvent s))

@[simp] theorem base_recomputeBalance (s : State) :
    (recomputeBalance s).boot = s.boot ∧ (recomputeBalance s).cfg = s.cfg ∧
      (recomputeBalance s).pins = s.pins ∧ (recomputeBalance s).now = s.now ∧
      (recomputeBalance s).pending = s.pending ∧ (recomputeBalance s).adv.ring = s.adv.ring ∧
      (recomputeBalance s).events.stopped = s.events.stopped ∧ (recomputeBalance s).faults = s.faults :=
  base_iff.mp (base_of_kept (kept_recomputeBalance s))

@[simp] theorem base_writeDuty (f : ChFunction) (d : Nat) (s : State) :
    (writeDuty f d s).boot = s.boot ∧ (writeDuty f d s).cfg = s.cfg ∧
      (writeDuty f d s).pins = s.pins ∧ (writeDuty f d s).now = s.now ∧
      (writeDuty f d s).pending = s.pending ∧ (writeDuty f d s).adv.ring = s.adv.ring ∧
      (writeDuty f d s).events.stopped = s.events.stopped ∧ (writeDuty f d s).faults = s.faults := by
  unfold writeDuty
  dsimp only
  (repeat' split) <;> simp

@[simp] theorem base_closeGrout (w : Bool) (s : State) :
    (closeGrout w s).boot = s.boot ∧ (closeGrout w s).cfg = s.cfg ∧
      (closeGrout w s).pins = s.pins ∧ (closeGrout w s).now = s.now ∧
      (closeGrout w s).pending = s.pending ∧ (closeGrout w s).adv.ring = s.adv.ring ∧
      (closeGrout w s).events.stopped = s.events.stopped ∧ (closeGrout w s).faults = s.faults := by
  unfold closeGrout
  dsimp only
  (repeat' split) <;> simp

@[simp] theorem base_silenceGrout (w : Bool) (s : State) :
    (silenceGrout w s).boot = s.boot ∧ (silenceGrout w s).cfg = s.cfg ∧
      (silenceGrout w s).pins = s.pins ∧ (silenceGrout w s).now = s.now ∧
      (silenceGrout w s).pending = s.pending ∧ (silenceGrout w s).adv.ring = s.adv.ring ∧
      (silenceGrout w s).events.stopped = s.events.stopped ∧ (silenceGrout w s).faults = s.faults := by
  unfold silenceGrout
  dsimp only
  (repeat' split) <;> simp

@[simp] theorem base_faultGrout (s : State) :
    (faultGrout s).boot = s.boot ∧ (faultGrout s).cfg = s.cfg ∧
      (faultGrout s).pins = s.pins ∧ (faultGrout s).now = s.now ∧
      (faultGrout s).pending = s.pending ∧ (faultGrout s).adv.ring = s.adv.ring ∧
      (faultGrout s).events.stopped = s.events.stopped ∧ (faultGrout s).faults = s.faults := by
  unfold faultGrout
  dsimp only
  simp

@[simp] theorem base_setScrew (st : ScrewState) (s : State) :
    (setScrew st s).boot = s.boot ∧ (setScrew st s).cfg = s.cfg ∧
      (setScrew st s).pins = s.pins ∧ (setScrew st s).now = s.now ∧
      (setScrew st s).pending = s.pending ∧ (setScrew st s).adv.ring = s.adv.ring ∧
      (setScrew st s).events.stopped = s.events.stopped ∧ (setScrew st s).faults = s.faults := by
  unfold setScrew
  dsimp only
  (repeat' split) <;> simp

@[simp] theorem base_decideScrew (s : State) :
    (decideScrew s).boot = s.boot ∧ (decideScrew s).cfg = s.cfg ∧
      (decideScrew s).pins = s.pins ∧ (decideScrew s).now = s.now ∧
      (decideScrew s).pending = s.pending ∧ (decideScrew s).adv.ring = s.adv.ring ∧
      (decideScrew s).events.stopped = s.events.stopped ∧ (decideScrew s).faults = s.faults := by
  unfold decideScrew
  (repeat' split) <;> simp

@[simp] theorem base_recomputeChamber (s : State) :
    (recomputeChamber s).boot = s.boot ∧ (recomputeChamber s).cfg = s.cfg ∧
      (recomputeChamber s).pins = s.pins ∧ (recomputeChamber s).now = s.now ∧
      (recomputeChamber s).pending = s.pending ∧ (recomputeChamber s).adv.ring = s.adv.ring ∧
      (recomputeChamber s).events.stopped = s.events.stopped ∧ (recomputeChamber s).faults = s.faults := by
  unfold recomputeChamber
  dsimp only
  (repeat' split) <;> simp

@[simp] theorem base_closeMuck (s : State) :
    (closeMuck s).boot = s.boot ∧ (closeMuck s).cfg = s.cfg ∧
      (closeMuck s).pins = s.pins ∧ (closeMuck s).now = s.now ∧
      (closeMuck s).pending = s.pending ∧ (closeMuck s).adv.ring = s.adv.ring ∧
      (closeMuck s).events.stopped = s.events.stopped ∧ (closeMuck s).faults = s.faults := by
  unfold closeMuck
  dsimp only
  (repeat' split) <;> simp

@[simp] theorem base_silenceMuck (s : State) :
    (silenceMuck s).boot = s.boot ∧ (silenceMuck s).cfg = s.cfg ∧
      (silenceMuck s).pins = s.pins ∧ (silenceMuck s).now = s.now ∧
      (silenceMuck s).pending = s.pending ∧ (silenceMuck s).adv.ring = s.adv.ring ∧
      (silenceMuck s).events.stopped = s.events.stopped ∧ (silenceMuck s).faults = s.faults := by
  unfold silenceMuck
  dsimp only
  (repeat' split) <;> simp

@[simp] theorem base_faultScrew (s : State) :
    (faultScrew s).boot = s.boot ∧ (faultScrew s).cfg = s.cfg ∧
      (faultScrew s).pins = s.pins ∧ (faultScrew s).now = s.now ∧
      (faultScrew s).pending = s.pending ∧ (faultScrew s).adv.ring = s.adv.ring ∧
      (faultScrew s).events.stopped = s.events.stopped ∧ (faultScrew s).faults = s.faults := by
  unfold faultScrew
  dsimp only
  simp

@[simp] theorem base_chooseTarget (s : State) :
    (chooseTarget s).boot = s.boot ∧ (chooseTarget s).cfg = s.cfg ∧
      (chooseTarget s).pins = s.pins ∧ (chooseTarget s).now = s.now ∧
      (chooseTarget s).pending = s.pending ∧ (chooseTarget s).adv.ring = s.adv.ring ∧
      (chooseTarget s).events.stopped = s.events.stopped ∧ (chooseTarget s).faults = s.faults := by
  unfold chooseTarget
  dsimp only
  simp

@[simp] theorem base_decideRegime (s : State) :
    (decideRegime s).boot = s.boot ∧ (decideRegime s).cfg = s.cfg ∧
      (decideRegime s).pins = s.pins ∧ (decideRegime s).now = s.now ∧
      (decideRegime s).pending = s.pending ∧ (decideRegime s).adv.ring = s.adv.ring ∧
      (decideRegime s).events.stopped = s.events.stopped ∧ (decideRegime s).faults = s.faults := by
  unfold decideRegime
  dsimp only
  simp

@[simp] theorem base_computeHold (s : State) :
    (computeHold s).boot = s.boot ∧ (computeHold s).cfg = s.cfg ∧
      (computeHold s).pins = s.pins ∧ (computeHold s).now = s.now ∧
      (computeHold s).pending = s.pending ∧ (computeHold s).adv.ring = s.adv.ring ∧
      (computeHold s).events.stopped = s.events.stopped ∧ (computeHold s).faults = s.faults := by
  unfold computeHold
  dsimp only
  simp

@[simp] theorem base_computePush (s : State) :
    (computePush s).boot = s.boot ∧ (computePush s).cfg = s.cfg ∧
      (computePush s).pins = s.pins ∧ (computePush s).now = s.now ∧
      (computePush s).pending = s.pending ∧ (computePush s).adv.ring = s.adv.ring ∧
      (computePush s).events.stopped = s.events.stopped ∧ (computePush s).faults = s.faults := by
  unfold computePush
  dsimp only
  (repeat' split) <;> simp

@[simp] theorem base_stepSetpoint (s : State) :
    (stepSetpoint s).boot = s.boot ∧ (stepSetpoint s).cfg = s.cfg ∧
      (stepSetpoint s).pins = s.pins ∧ (stepSetpoint s).now = s.now ∧
      (stepSetpoint s).pending = s.pending ∧ (stepSetpoint s).adv.ring = s.adv.ring ∧
      (stepSetpoint s).events.stopped = s.events.stopped ∧ (stepSetpoint s).faults = s.faults := by
  unfold stepSetpoint
  dsimp only
  simp

@[simp] theorem base_writeValves (s : State) :
    (writeValves s).boot = s.boot ∧ (writeValves s).cfg = s.cfg ∧
      (writeValves s).pins = s.pins ∧ (writeValves s).now = s.now ∧
      (writeValves s).pending = s.pending ∧ (writeValves s).adv.ring = s.adv.ring ∧
      (writeValves s).events.stopped = s.events.stopped ∧ (writeValves s).faults = s.faults := by
  unfold writeValves
  (repeat' split) <;> simp

@[simp] theorem base_seatSetpoint (s : State) :
    (seatSetpoint s).boot = s.boot ∧ (seatSetpoint s).cfg = s.cfg ∧
      (seatSetpoint s).pins = s.pins ∧ (seatSetpoint s).now = s.now ∧
      (seatSetpoint s).pending = s.pending ∧ (seatSetpoint s).adv.ring = s.adv.ring ∧
      (seatSetpoint s).events.stopped = s.events.stopped ∧ (seatSetpoint s).faults = s.faults := by
  unfold seatSetpoint
  dsimp only
  simp

@[simp] theorem base_releaseTarget (s : State) :
    (releaseTarget s).boot = s.boot ∧ (releaseTarget s).cfg = s.cfg ∧
      (releaseTarget s).pins = s.pins ∧ (releaseTarget s).now = s.now ∧
      (releaseTarget s).pending = s.pending ∧ (releaseTarget s).adv.ring = s.adv.ring ∧
      (releaseTarget s).events.stopped = s.events.stopped ∧ (releaseTarget s).faults = s.faults := ⟨rfl, rfl, rfl, rfl, rfl, rfl, rfl, rfl⟩

@[simp] theorem base_examineThrustPressure (s : State) :
    (examineThrustPressure s).boot = s.boot ∧ (examineThrustPressure s).cfg = s.cfg ∧
      (examineThrustPressure s).pins = s.pins ∧ (examineThrustPressure s).now = s.now ∧
      (examineThrustPressure s).pending = s.pending ∧ (examineThrustPressure s).adv.ring = s.adv.ring ∧
      (examineThrustPressure s).events.stopped = s.events.stopped ∧ (examineThrustPressure s).faults = s.faults := by
  unfold examineThrustPressure
  dsimp only
  simp

@[simp] theorem base_faultThrust (s : State) :
    (faultThrust s).boot = s.boot ∧ (faultThrust s).cfg = s.cfg ∧
      (faultThrust s).pins = s.pins ∧ (faultThrust s).now = s.now ∧
      (faultThrust s).pending = s.pending ∧ (faultThrust s).adv.ring = s.adv.ring ∧
      (faultThrust s).events.stopped = s.events.stopped ∧ (faultThrust s).faults = s.faults := by
  unfold faultThrust
  dsimp only
  simp

@[simp] theorem base_writeExtendDuties (s : State) :
    (writeExtendDuties s).boot = s.boot ∧ (writeExtendDuties s).cfg = s.cfg ∧
      (writeExtendDuties s).pins = s.pins ∧ (writeExtendDuties s).now = s.now ∧
      (writeExtendDuties s).pending = s.pending ∧ (writeExtendDuties s).adv.ring = s.adv.ring ∧
      (writeExtendDuties s).events.stopped = s.events.stopped ∧ (writeExtendDuties s).faults = s.faults := by
  unfold writeExtendDuties
  simp

@[simp] theorem base_enterExtending (s : State) :
    (enterExtending s).boot = s.boot ∧ (enterExtending s).cfg = s.cfg ∧
      (enterExtending s).pins = s.pins ∧ (enterExtending s).now = s.now ∧
      (enterExtending s).pending = s.pending ∧ (enterExtending s).adv.ring = s.adv.ring ∧
      (enterExtending s).events.stopped = s.events.stopped ∧ (enterExtending s).faults = s.faults := by
  unfold enterExtending
  dsimp only
  simp

@[simp] theorem base_enterClear (s : State) :
    (enterClear s).boot = s.boot ∧ (enterClear s).cfg = s.cfg ∧
      (enterClear s).pins = s.pins ∧ (enterClear s).now = s.now ∧
      (enterClear s).pending = s.pending ∧ (enterClear s).adv.ring = s.adv.ring ∧
      (enterClear s).events.stopped = s.events.stopped ∧ (enterClear s).faults = s.faults := by
  unfold enterClear
  dsimp only
  (repeat' split) <;> simp

@[simp] theorem base_checkRetracted (s : State) :
    (checkRetracted s).boot = s.boot ∧ (checkRetracted s).cfg = s.cfg ∧
      (checkRetracted s).pins = s.pins ∧ (checkRetracted s).now = s.now ∧
      (checkRetracted s).pending = s.pending ∧ (checkRetracted s).adv.ring = s.adv.ring ∧
      (checkRetracted s).events.stopped = s.events.stopped ∧ (checkRetracted s).faults = s.faults := by
  unfold checkRetracted
  (repeat' split) <;> simp

@[simp] theorem base_enterRetracting (s : State) :
    (enterRetracting s).boot = s.boot ∧ (enterRetracting s).cfg = s.cfg ∧
      (enterRetracting s).pins = s.pins ∧ (enterRetracting s).now = s.now ∧
      (enterRetracting s).pending = s.pending ∧ (enterRetracting s).adv.ring = s.adv.ring ∧
      (enterRetracting s).events.stopped = s.events.stopped ∧ (enterRetracting s).faults = s.faults := by
  unfold enterRetracting
  dsimp only
  simp

@[simp] theorem base_testClaim (s : State) :
    (testClaim s).boot = s.boot ∧ (testClaim s).cfg = s.cfg ∧
      (testClaim s).pins = s.pins ∧ (testClaim s).now = s.now ∧
      (testClaim s).pending = s.pending ∧ (testClaim s).adv.ring = s.adv.ring ∧
      (testClaim s).events.stopped = s.events.stopped ∧ (testClaim s).faults = s.faults := by
  unfold testClaim
  dsimp only
  (repeat' split) <;> simp

@[simp] theorem base_refreshWait (s : State) :
    (refreshWait s).boot = s.boot ∧ (refreshWait s).cfg = s.cfg ∧
      (refreshWait s).pins = s.pins ∧ (refreshWait s).now = s.now ∧
      (refreshWait s).pending = s.pending ∧ (refreshWait s).adv.ring = s.adv.ring ∧
      (refreshWait s).events.stopped = s.events.stopped ∧ (refreshWait s).faults = s.faults := by
  unfold refreshWait
  dsimp only
  (repeat' split) <;> simp

@[simp] theorem base_releaseClaim (s : State) :
    (releaseClaim s).boot = s.boot ∧ (releaseClaim s).cfg = s.cfg ∧
      (releaseClaim s).pins = s.pins ∧ (releaseClaim s).now = s.now ∧
      (releaseClaim s).pending = s.pending ∧ (releaseClaim s).adv.ring = s.adv.ring ∧
      (releaseClaim s).events.stopped = s.events.stopped ∧ (releaseClaim s).faults = s.faults := ⟨rfl, rfl, rfl, rfl, rfl, rfl, rfl, rfl⟩

@[simp] theorem base_expireClaim (s : State) :
    (expireClaim s).boot = s.boot ∧ (expireClaim s).cfg = s.cfg ∧
      (expireClaim s).pins = s.pins ∧ (expireClaim s).now = s.now ∧
      (expireClaim s).pending = s.pending ∧ (expireClaim s).adv.ring = s.adv.ring ∧
      (expireClaim s).events.stopped = s.events.stopped ∧ (expireClaim s).faults = s.faults := by
  unfold expireClaim
  dsimp only
  (repeat' split) <;> simp

@[simp] theorem base_completeExtending (s : State) :
    (completeExtending s).boot = s.boot ∧ (completeExtending s).cfg = s.cfg ∧
      (completeExtending s).pins = s.pins ∧ (completeExtending s).now = s.now ∧
      (completeExtending s).pending = s.pending ∧ (completeExtending s).adv.ring = s.adv.ring ∧
      (completeExtending s).events.stopped = s.events.stopped ∧ (completeExtending s).faults = s.faults := by
  unfold completeExtending
  dsimp only
  simp

@[simp] theorem base_startDecision (s : State) :
    (startDecision s).boot = s.boot ∧ (startDecision s).cfg = s.cfg ∧
      (startDecision s).pins = s.pins ∧ (startDecision s).now = s.now ∧
      (startDecision s).pending = s.pending ∧ (startDecision s).adv.ring = s.adv.ring ∧
      (startDecision s).events.stopped = s.events.stopped ∧ (startDecision s).faults = s.faults := by
  unfold startDecision
  dsimp only
  (repeat' split) <;> simp

@[simp] theorem base_shoePressure (s : State) :
    (shoePressure s).boot = s.boot ∧ (shoePressure s).cfg = s.cfg ∧
      (shoePressure s).pins = s.pins ∧ (shoePressure s).now = s.now ∧
      (shoePressure s).pending = s.pending ∧ (shoePressure s).adv.ring = s.adv.ring ∧
      (shoePressure s).events.stopped = s.events.stopped ∧ (shoePressure s).faults = s.faults := by
  unfold shoePressure
  (repeat' split) <;> simp

@[simp] theorem base_shoeStroke (s : State) :
    (shoeStroke s).boot = s.boot ∧ (shoeStroke s).cfg = s.cfg ∧
      (shoeStroke s).pins = s.pins ∧ (shoeStroke s).now = s.now ∧
      (shoeStroke s).pending = s.pending ∧ (shoeStroke s).adv.ring = s.adv.ring ∧
      (shoeStroke s).events.stopped = s.events.stopped ∧ (shoeStroke s).faults = s.faults := by
  unfold shoeStroke
  (repeat' split) <;> simp

@[simp] theorem base_createClaim (b : BuildBody) (s : State) :
    (createClaim b s).boot = s.boot ∧ (createClaim b s).cfg = s.cfg ∧
      (createClaim b s).pins = s.pins ∧ (createClaim b s).now = s.now ∧
      (createClaim b s).pending = s.pending ∧ (createClaim b s).adv.ring = s.adv.ring ∧
      (createClaim b s).events.stopped = s.events.stopped ∧ (createClaim b s).faults = s.faults := ⟨rfl, rfl, rfl, rfl, rfl, rfl, rfl, rfl⟩

@[simp] theorem base_takeBuild (b : BuildBody) (s : State) :
    (takeBuild b s).boot = s.boot ∧ (takeBuild b s).cfg = s.cfg ∧
      (takeBuild b s).pins = s.pins ∧ (takeBuild b s).now = s.now ∧
      (takeBuild b s).pending = s.pending ∧ (takeBuild b s).adv.ring = s.adv.ring ∧
      (takeBuild b s).events.stopped = s.events.stopped ∧ (takeBuild b s).faults = s.faults := by
  unfold takeBuild
  (repeat' split) <;> simp

@[simp] theorem base_abortByState (s : State) :
    (abortByState s).boot = s.boot ∧ (abortByState s).cfg = s.cfg ∧
      (abortByState s).pins = s.pins ∧ (abortByState s).now = s.now ∧
      (abortByState s).pending = s.pending ∧ (abortByState s).adv.ring = s.adv.ring ∧
      (abortByState s).events.stopped = s.events.stopped ∧ (abortByState s).faults = s.faults := by
  unfold abortByState
  (repeat' split) <;> simp

@[simp] theorem base_abortBuild (s : State) :
    (abortBuild s).boot = s.boot ∧ (abortBuild s).cfg = s.cfg ∧
      (abortBuild s).pins = s.pins ∧ (abortBuild s).now = s.now ∧
      (abortBuild s).pending = s.pending ∧ (abortBuild s).adv.ring = s.adv.ring ∧
      (abortBuild s).events.stopped = s.events.stopped ∧ (abortBuild s).faults = s.faults := by
  unfold abortBuild
  (repeat' split) <;> simp

@[simp] theorem base_freezeShoe (s : State) :
    (freezeShoe s).boot = s.boot ∧ (freezeShoe s).cfg = s.cfg ∧
      (freezeShoe s).pins = s.pins ∧ (freezeShoe s).now = s.now ∧
      (freezeShoe s).pending = s.pending ∧ (freezeShoe s).adv.ring = s.adv.ring ∧
      (freezeShoe s).events.stopped = s.events.stopped ∧ (freezeShoe s).faults = s.faults := ⟨rfl, rfl, rfl, rfl, rfl, rfl, rfl, rfl⟩

@[simp] theorem base_resumePlaced (s : State) :
    (resumePlaced s).boot = s.boot ∧ (resumePlaced s).cfg = s.cfg ∧
      (resumePlaced s).pins = s.pins ∧ (resumePlaced s).now = s.now ∧
      (resumePlaced s).pending = s.pending ∧ (resumePlaced s).adv.ring = s.adv.ring ∧
      (resumePlaced s).events.stopped = s.events.stopped ∧ (resumePlaced s).faults = s.faults := by
  unfold resumePlaced
  (repeat' split) <;> simp

@[simp] theorem base_resumeAbort (s : State) :
    (resumeAbort s).boot = s.boot ∧ (resumeAbort s).cfg = s.cfg ∧
      (resumeAbort s).pins = s.pins ∧ (resumeAbort s).now = s.now ∧
      (resumeAbort s).pending = s.pending ∧ (resumeAbort s).adv.ring = s.adv.ring ∧
      (resumeAbort s).events.stopped = s.events.stopped ∧ (resumeAbort s).faults = s.faults := by
  unfold resumeAbort
  (repeat' split) <;> simp

@[simp] theorem base_resumeState (s : State) :
    (resumeState s).boot = s.boot ∧ (resumeState s).cfg = s.cfg ∧
      (resumeState s).pins = s.pins ∧ (resumeState s).now = s.now ∧
      (resumeState s).pending = s.pending ∧ (resumeState s).adv.ring = s.adv.ring ∧
      (resumeState s).events.stopped = s.events.stopped ∧ (resumeState s).faults = s.faults := by
  unfold resumeState
  dsimp only
  (repeat' split) <;> simp

@[simp] theorem base_resumeShoe (s : State) :
    (resumeShoe s).boot = s.boot ∧ (resumeShoe s).cfg = s.cfg ∧
      (resumeShoe s).pins = s.pins ∧ (resumeShoe s).now = s.now ∧
      (resumeShoe s).pending = s.pending ∧ (resumeShoe s).adv.ring = s.adv.ring ∧
      (resumeShoe s).events.stopped = s.events.stopped ∧ (resumeShoe s).faults = s.faults := by
  unfold resumeShoe
  (repeat' split) <;> simp

@[simp] theorem base_faultShoe (s : State) :
    (faultShoe s).boot = s.boot ∧ (faultShoe s).cfg = s.cfg ∧
      (faultShoe s).pins = s.pins ∧ (faultShoe s).now = s.now ∧
      (faultShoe s).pending = s.pending ∧ (faultShoe s).adv.ring = s.adv.ring ∧
      (faultShoe s).events.stopped = s.events.stopped ∧ (faultShoe s).faults = s.faults := ⟨rfl, rfl, rfl, rfl, rfl, rfl, rfl, rfl⟩

@[simp] theorem base_clearShoeFault (s : State) :
    (clearShoeFault s).boot = s.boot ∧ (clearShoeFault s).cfg = s.cfg ∧
      (clearShoeFault s).pins = s.pins ∧ (clearShoeFault s).now = s.now ∧
      (clearShoeFault s).pending = s.pending ∧ (clearShoeFault s).adv.ring = s.adv.ring ∧
      (clearShoeFault s).events.stopped = s.events.stopped ∧ (clearShoeFault s).faults = s.faults := by
  unfold clearShoeFault
  (repeat' split) <;> simp

@[simp] theorem base_stopShoeTimers (s : State) :
    (stopShoeTimers s).boot = s.boot ∧ (stopShoeTimers s).cfg = s.cfg ∧
      (stopShoeTimers s).pins = s.pins ∧ (stopShoeTimers s).now = s.now ∧
      (stopShoeTimers s).pending = s.pending ∧ (stopShoeTimers s).adv.ring = s.adv.ring ∧
      (stopShoeTimers s).events.stopped = s.events.stopped ∧ (stopShoeTimers s).faults = s.faults := ⟨rfl, rfl, rfl, rfl, rfl, rfl, rfl, rfl⟩

@[simp] theorem base_closeShoe (s : State) :
    (closeShoe s).boot = s.boot ∧ (closeShoe s).cfg = s.cfg ∧
      (closeShoe s).pins = s.pins ∧ (closeShoe s).now = s.now ∧
      (closeShoe s).pending = s.pending ∧ (closeShoe s).adv.ring = s.adv.ring ∧
      (closeShoe s).events.stopped = s.events.stopped ∧ (closeShoe s).faults = s.faults := by
  unfold closeShoe
  dsimp only
  (repeat' split) <;> simp

@[simp] theorem base_startPendingExtend (s : State) :
    (startPendingExtend s).boot = s.boot ∧ (startPendingExtend s).cfg = s.cfg ∧
      (startPendingExtend s).pins = s.pins ∧ (startPendingExtend s).now = s.now ∧
      (startPendingExtend s).pending = s.pending ∧ (startPendingExtend s).adv.ring = s.adv.ring ∧
      (startPendingExtend s).events.stopped = s.events.stopped ∧ (startPendingExtend s).faults = s.faults := by
  unfold startPendingExtend
  dsimp only
  (repeat' split) <;> simp

@[simp] theorem base_setMode (m : EffMode) (s : State) :
    (setMode m s).boot = s.boot ∧ (setMode m s).cfg = s.cfg ∧
      (setMode m s).pins = s.pins ∧ (setMode m s).now = s.now ∧
      (setMode m s).pending = s.pending ∧ (setMode m s).adv.ring = s.adv.ring ∧
      (setMode m s).events.stopped = s.events.stopped ∧ (setMode m s).faults = s.faults := by
  unfold setMode
  dsimp only
  (repeat' split) <;> simp

@[simp] theorem base_setBackbone (b : Backbone) (s : State) :
    (setBackbone b s).boot = s.boot ∧ (setBackbone b s).cfg = s.cfg ∧
      (setBackbone b s).pins = s.pins ∧ (setBackbone b s).now = s.now ∧
      (setBackbone b s).pending = s.pending ∧ (setBackbone b s).adv.ring = s.adv.ring ∧
      (setBackbone b s).events.stopped = s.events.stopped ∧ (setBackbone b s).faults = s.faults := by
  unfold setBackbone
  dsimp only
  (repeat' split) <;> simp

@[simp] theorem base_faultDrive (s : State) :
    (faultDrive s).boot = s.boot ∧ (faultDrive s).cfg = s.cfg ∧
      (faultDrive s).pins = s.pins ∧ (faultDrive s).now = s.now ∧
      (faultDrive s).pending = s.pending ∧ (faultDrive s).adv.ring = s.adv.ring ∧
      (faultDrive s).events.stopped = s.events.stopped ∧ (faultDrive s).faults = s.faults := by
  unfold faultDrive
  dsimp only
  simp

@[simp] theorem base_enterFault (j : Job) (s : State) :
    (enterFault j s).boot = s.boot ∧ (enterFault j s).cfg = s.cfg ∧
      (enterFault j s).pins = s.pins ∧ (enterFault j s).now = s.now ∧
      (enterFault j s).pending = s.pending ∧ (enterFault j s).adv.ring = s.adv.ring ∧
      (enterFault j s).events.stopped = s.events.stopped ∧ (enterFault j s).faults = s.faults := by
  unfold enterFault
  (repeat' split) <;> simp

@[simp] theorem base_startRecordWrite (s : State) :
    (startRecordWrite s).boot = s.boot ∧ (startRecordWrite s).cfg = s.cfg ∧
      (startRecordWrite s).pins = s.pins ∧ (startRecordWrite s).now = s.now ∧
      (startRecordWrite s).pending = s.pending ∧ (startRecordWrite s).adv.ring = s.adv.ring ∧
      (startRecordWrite s).events.stopped = s.events.stopped ∧ (startRecordWrite s).faults = s.faults := ⟨rfl, rfl, rfl, rfl, rfl, rfl, rfl, rfl⟩

@[simp] theorem base_startFaultWrite (s : State) :
    (startFaultWrite s).boot = s.boot ∧ (startFaultWrite s).cfg = s.cfg ∧
      (startFaultWrite s).pins = s.pins ∧ (startFaultWrite s).now = s.now ∧
      (startFaultWrite s).pending = s.pending ∧ (startFaultWrite s).adv.ring = s.adv.ring ∧
      (startFaultWrite s).events.stopped = s.events.stopped ∧ (startFaultWrite s).faults = s.faults := ⟨rfl, rfl, rfl, rfl, rfl, rfl, rfl, rfl⟩

@[simp] theorem base_faultAreaChanged (s : State) :
    (faultAreaChanged s).boot = s.boot ∧ (faultAreaChanged s).cfg = s.cfg ∧
      (faultAreaChanged s).pins = s.pins ∧ (faultAreaChanged s).now = s.now ∧
      (faultAreaChanged s).pending = s.pending ∧ (faultAreaChanged s).adv.ring = s.adv.ring ∧
      (faultAreaChanged s).events.stopped = s.events.stopped ∧ (faultAreaChanged s).faults = s.faults := by
  unfold faultAreaChanged
  dsimp only
  (repeat' split) <;> simp

@[simp] theorem base_startPendingWrite (s : State) :
    (startPendingWrite s).boot = s.boot ∧ (startPendingWrite s).cfg = s.cfg ∧
      (startPendingWrite s).pins = s.pins ∧ (startPendingWrite s).now = s.now ∧
      (startPendingWrite s).pending = s.pending ∧ (startPendingWrite s).adv.ring = s.adv.ring ∧
      (startPendingWrite s).events.stopped = s.events.stopped ∧ (startPendingWrite s).faults = s.faults := by
  unfold startPendingWrite
  (repeat' split) <;> simp

@[simp] theorem base_leaveFault (j : Job) (s : State) :
    (leaveFault j s).boot = s.boot ∧ (leaveFault j s).cfg = s.cfg ∧
      (leaveFault j s).pins = s.pins ∧ (leaveFault j s).now = s.now ∧
      (leaveFault j s).pending = s.pending ∧ (leaveFault j s).adv.ring = s.adv.ring ∧
      (leaveFault j s).events.stopped = s.events.stopped ∧ (leaveFault j s).faults = s.faults := by
  unfold leaveFault
  dsimp only
  (repeat' split) <;> simp

@[simp] theorem base_refreshPubTimer (k : OwnKind) (s : State) :
    (refreshPubTimer k s).boot = s.boot ∧ (refreshPubTimer k s).cfg = s.cfg ∧
      (refreshPubTimer k s).pins = s.pins ∧ (refreshPubTimer k s).now = s.now ∧
      (refreshPubTimer k s).pending = s.pending ∧ (refreshPubTimer k s).adv.ring = s.adv.ring ∧
      (refreshPubTimer k s).events.stopped = s.events.stopped ∧ (refreshPubTimer k s).faults = s.faults := by
  unfold refreshPubTimer
  dsimp only
  (repeat' split) <;> simp

@[simp] theorem base_refreshPubTimers (s : State) :
    (refreshPubTimers s).boot = s.boot ∧ (refreshPubTimers s).cfg = s.cfg ∧
      (refreshPubTimers s).pins = s.pins ∧ (refreshPubTimers s).now = s.now ∧
      (refreshPubTimers s).pending = s.pending ∧ (refreshPubTimers s).adv.ring = s.adv.ring ∧
      (refreshPubTimers s).events.stopped = s.events.stopped ∧ (refreshPubTimers s).faults = s.faults := by
  unfold refreshPubTimers
  simp

end Sys2Proof.Machine
end

