-- ==== Sys2Proof/Laws/MemPort.lean ====
section
/-! SUPPORT. What the end of an event can do to the memory port: nothing outside EXCAVATE, and nothing but a record left pending
while a write is in flight or the restore is to come, since only a record milestone triggers a save there (R52, R173). -/
namespace Sys2Proof.Machine
open Sys2Proof

/-! ## Operations that leave the memory port alone -/

theorem mem_writeDuty (f : ChFunction) (d : Nat) (s : State) : (writeDuty f d s).mem = s.mem := by
  unfold writeDuty; split <;> rfl

theorem mem_setPulseFlag (on : Bool) (s : State) : (setPulseFlag on s).mem = s.mem := by
  unfold setPulseFlag; split <;> rfl

theorem mem_setLine (l : LineState) (s : State) : (setLine l s).mem = s.mem := by
  unfold setLine
  split
  · rfl
  · split
    · show (writeDuty _ _ _).mem = _
      rw [mem_writeDuty]
    · rfl

theorem mem_decideLine (s : State) : (decideLine s).mem = s.mem := by
  unfold decideLine
  split
  · exact mem_setLine _ _
  · rfl

theorem mem_recomputeDeficit (s : State) : (recomputeDeficit s).mem = s.mem := by
  unfold recomputeDeficit
  dsimp only
  split
  · rfl
  · rw [mem_decideLine]; rfl

theorem mem_recomputeTarget (s : State) : (recomputeTarget s).mem = s.mem := by
  unfold recomputeTarget
  split
  · rw [mem_recomputeDeficit]
  · rfl

theorem mem_examineDerate (s : State) : (examineDerate s).mem = s.mem := by
  unfold examineDerate
  dsimp only
  split
  · rfl
  · rw [mem_decideLine]

theorem mem_recomputeBand (s : State) : (recomputeBand s).mem = s.mem := by
  unfold recomputeBand
  show (examineDerate _).mem = _
  rw [mem_examineDerate]

theorem mem_takeVoid (v : Nat) (s : State) : (takeVoid v s).mem = s.mem := by
  unfold takeVoid
  split
  · rw [mem_recomputeTarget]
  · rfl

theorem mem_takeWeight (w : Nat) (s : State) : (takeWeight w s).mem = s.mem := by
  unfold takeWeight
  split
  · rw [mem_recomputeTarget]
  · rfl

theorem mem_greaseTrigger (s : State) : (greaseTrigger s).mem = s.mem := by
  unfold greaseTrigger
  split
  · unfold startPulse; rw [mem_setPulseFlag]
  · rfl
  · rfl

theorem mem_greaseTriggers (n : Nat) (s : State) : (greaseTriggers n s).mem = s.mem := by
  induction n generalizing s with
  | zero => rfl
  | succ n ih => unfold greaseTriggers; rw [ih, mem_greaseTrigger]

theorem mem_issueGrease (s : State) : (issueGrease s).mem = s.mem := by
  unfold issueGrease
  dsimp only
  split
  · rw [mem_greaseTriggers]
  · rfl

theorem mem_recomputeBalance (s : State) : (recomputeBalance s).mem = s.mem := by
  unfold recomputeBalance examineUnderdig
  split
  · split
    · show (examineOverdig _).mem = _
      unfold examineOverdig; split <;> rfl
    · unfold examineOverdig; split <;> rfl
  · rfl

theorem mem_takeExpectedMass (m : Nat) (s : State) : (takeExpectedMass m s).mem = s.mem := by
  unfold takeExpectedMass
  split
  · rw [mem_recomputeBalance]
  · rfl

theorem mem_refreshGate (i : Fin 8) (s : State) : (refreshGate i s).mem = s.mem := by
  unfold refreshGate
  split
  · rfl
  · split <;> (unfold gateChanged; split <;> rfl)

theorem mem_refreshGates (s : State) : (refreshGates s).mem = s.mem := by simp only [refreshGates, mem_refreshGate]

theorem mem_refreshAlarm (s : State) : (refreshAlarm s).mem = s.mem := rfl

theorem mem_refreshReference (s : State) : (refreshReference s).mem = s.mem := by
  unfold refreshReference setReference
  dsimp only
  split
  · split
    · rfl
    · rw [mem_recomputeBand]
  · split
    · split
      · rfl
      · rw [mem_recomputeBand]
    · rfl

theorem mem_refreshCauses (s : State) : (refreshCauses s).mem = s.mem := by
  unfold refreshCauses regimeEvent
  split
  · rfl
  · split <;> rfl

/-! ## What a new A_ring can do -/

/-- What the end of an event can make of the memory port of `s`. -/
structure MemFollows (s t : State) : Prop where
  kept  : t.kept = s.kept
  still : s.table.mode ≠ .excavate → t.mem = s.mem
  busy  : s.boot.phase ≠ .done ∨ s.mem.inFlight ≠ none → t.mem = { s.mem with recordPending := t.mem.recordPending }

theorem MemFollows.of_mem {s t : State} (hk : t.kept = s.kept) (hm : t.mem = s.mem) : MemFollows s t :=
  ⟨hk, fun _ => hm, fun _ => by rw [hm]⟩

theorem MemFollows.trans {s t u : State} (h : MemFollows s t) (h' : MemFollows t u) : MemFollows s u := by
  have hb : t.boot = s.boot := congrArg Kept.boot h.kept
  have hm : t.table.mode = s.table.mode := congrArg Kept.mode h.kept
  refine ⟨h'.kept.trans h.kept, fun hs => (h'.still (hm ▸ hs)).trans (h.still hs), fun hs => ?_⟩
  have h1 := h.busy hs
  have h2 := h'.busy (by rw [hb, h1]; exact hs)
  rw [h2]
  conv_lhs => rw [h1]

theorem memFollows_countMilestone {s : State} (h : s.table.mode = .excavate) : MemFollows s (countMilestone s) := by
  refine ⟨kept_countMilestone s, fun hs => absurd h hs, fun hs => ?_⟩
  unfold countMilestone triggerSave
  dsimp only
  split
  · split
    · split
      · rename_i hw
        simp only [Bool.and_eq_true, State.restored, beq_iff_eq, Option.isNone_iff_eq_none] at hw
        exact absurd hs (by simp [hw.1, hw.2])
      · rfl
    · rfl
  · rfl

theorem memFollows_updateARing (s : State) : MemFollows s (updateARing s) := by
  unfold updateARing
  split
  · rename_i h
    unfold setARing
    dsimp only
    generalize hu : issueGrease _ = u
    have hk : u.kept = s.kept := by rw [← hu, kept_issueGrease, kept_takeExpectedMass, kept_takeVoid]; rfl
    have hm : u.mem = s.mem := by rw [← hu, mem_issueGrease, mem_takeExpectedMass, mem_takeVoid]
    exact (MemFollows.of_mem hk hm).trans (memFollows_countMilestone ((congrArg Kept.mode hk).trans h.1))
  · exact .of_mem rfl rfl

theorem memFollows_tableChanged (s : State) : MemFollows s (tableChanged s) := by
  have h1 : MemFollows s (refreshReference s) := .of_mem (kept_refreshReference s) (mem_refreshReference s)
  have h2 (u : State) : MemFollows u (recomputeAdvance u) := by
    unfold recomputeAdvance
    split
    · refine MemFollows.trans ?_ (memFollows_updateARing _)
      exact .of_mem rfl rfl
    · exact .of_mem rfl rfl
  have h3 (u : State) : MemFollows u (refreshGates (refreshCauses (refreshWeight u))) :=
    .of_mem (by rw [kept_refreshGates, kept_refreshCauses, kept_refreshWeight])
      (by rw [mem_refreshGates, mem_refreshCauses, refreshWeight, mem_takeWeight])
  exact (h1.trans (h2 _)).trans (h3 _)

theorem memFollows_writeOwn {b : Bulletin} (hb : b.code ≠ 0) (s : State) : MemFollows s (writeOwn b s) := by
  unfold writeOwn
  dsimp only
  split
  · exact absurd rfl hb
  · exact (MemFollows.of_mem (kept_putOwnEntry _ s) rfl).trans (memFollows_tableChanged _)

theorem memFollows_publish {k : OwnKind} (hk : k ≠ .stop) (s : State) : MemFollows s (publish k s) := by
  have hc : (s.content k).code ≠ 0 := by rw [content_code]; cases k <;> simp_all [OwnKind.code]
  unfold publish
  split
  · exact (memFollows_writeOwn hc s).trans (.of_mem (kept_enqueueKind k _ _) rfl)
  · exact .of_mem rfl rfl

theorem memFollows_publishIfChanged {k : OwnKind} (hk : k ≠ .stop) (s : State) : MemFollows s (publishIfChanged k s) := by
  unfold publishIfChanged
  split
  · split
    · exact (MemFollows.of_mem (kept_markSeen k s) rfl).trans (memFollows_publish hk _)
    · exact .of_mem rfl rfl
  · exact .of_mem rfl rfl

theorem memFollows_publishRound (s : State) : MemFollows s (publishRound s) := by
  have h (k : OwnKind) (hk : k ≠ .stop) (u : State) := memFollows_publishIfChanged hk u
  unfold publishRound
  exact ((((((h .claim (by decide) s).trans (h .thrust (by decide) _)).trans (h .drive (by decide) _)).trans
    (h .screw (by decide) _)).trans (h .grout (by decide) _)).trans (h .status (by decide) _)).trans (h .id (by decide) _)

/-- The end of an event moves the memory port by a record milestone only. -/
theorem memFollows_finish (s : State) : MemFollows s (finish s) := by
  have h (u : State) := memFollows_publishRound u
  have hs : MemFollows s (settle s) := (((h s).trans (h _)).trans (h _)).trans (h _)
  unfold finish
  generalize settle s = u at hs ⊢
  exact hs.trans (.of_mem (by rw [kept_refreshAlarm, kept_refreshGates]) (by rw [mem_refreshAlarm, mem_refreshGates]))

end Sys2Proof.Machine
end

