-- ==== Sys2Proof/Laws/State.lean ====
section
/-! SUPPORT. One lemma per field for each plain update of the state, and what each reader of a record sees of a writer. -/
namespace Sys2Proof.Machine
open Sys2Proof

/-! ## putChannel -/

@[simp] theorem putChannel_boot (i : Fin 8) (r : ChannelRec) (s : State) : (putChannel i r s).boot = s.boot := rfl
@[simp] theorem putChannel_cfg (i : Fin 8) (r : ChannelRec) (s : State) : (putChannel i r s).cfg = s.cfg := rfl
@[simp] theorem putChannel_pins (i : Fin 8) (r : ChannelRec) (s : State) : (putChannel i r s).pins = s.pins := rfl
@[simp] theorem putChannel_now (i : Fin 8) (r : ChannelRec) (s : State) : (putChannel i r s).now = s.now := rfl
@[simp] theorem putChannel_port (i : Fin 8) (r : ChannelRec) (s : State) : (putChannel i r s).port = s.port := rfl
@[simp] theorem putChannel_table (i : Fin 8) (r : ChannelRec) (s : State) : (putChannel i r s).table = s.table := rfl
@[simp] theorem putChannel_adv (i : Fin 8) (r : ChannelRec) (s : State) : (putChannel i r s).adv = s.adv := rfl
@[simp] theorem putChannel_drive (i : Fin 8) (r : ChannelRec) (s : State) : (putChannel i r s).drive = s.drive := rfl
@[simp] theorem putChannel_thrust (i : Fin 8) (r : ChannelRec) (s : State) : (putChannel i r s).thrust = s.thrust := rfl
@[simp] theorem putChannel_shoe (i : Fin 8) (r : ChannelRec) (s : State) : (putChannel i r s).shoe = s.shoe := rfl
@[simp] theorem putChannel_grout (i : Fin 8) (r : ChannelRec) (s : State) : (putChannel i r s).grout = s.grout := rfl
@[simp] theorem putChannel_muck (i : Fin 8) (r : ChannelRec) (s : State) : (putChannel i r s).muck = s.muck := rfl
@[simp] theorem putChannel_inputs (i : Fin 8) (r : ChannelRec) (s : State) : (putChannel i r s).inputs = s.inputs := rfl
@[simp] theorem putChannel_converting (i : Fin 8) (r : ChannelRec) (s : State) : (putChannel i r s).converting = s.converting := rfl
@[simp] theorem putChannel_channels (i : Fin 8) (r : ChannelRec) (s : State) : (putChannel i r s).channels = s.channels.set i r := rfl
@[simp] theorem putChannel_faults (i : Fin 8) (r : ChannelRec) (s : State) : (putChannel i r s).faults = s.faults := rfl
@[simp] theorem putChannel_events (i : Fin 8) (r : ChannelRec) (s : State) : (putChannel i r s).events = s.events := rfl
@[simp] theorem putChannel_mem (i : Fin 8) (r : ChannelRec) (s : State) : (putChannel i r s).mem = s.mem := rfl
@[simp] theorem putChannel_pending (i : Fin 8) (r : ChannelRec) (s : State) : (putChannel i r s).pending = s.pending := rfl

/-! ## putInput -/

@[simp] theorem putInput_boot (i : Fin 12) (r : InputRec) (s : State) : (putInput i r s).boot = s.boot := rfl
@[simp] theorem putInput_cfg (i : Fin 12) (r : InputRec) (s : State) : (putInput i r s).cfg = s.cfg := rfl
@[simp] theorem putInput_pins (i : Fin 12) (r : InputRec) (s : State) : (putInput i r s).pins = s.pins := rfl
@[simp] theorem putInput_now (i : Fin 12) (r : InputRec) (s : State) : (putInput i r s).now = s.now := rfl
@[simp] theorem putInput_port (i : Fin 12) (r : InputRec) (s : State) : (putInput i r s).port = s.port := rfl
@[simp] theorem putInput_table (i : Fin 12) (r : InputRec) (s : State) : (putInput i r s).table = s.table := rfl
@[simp] theorem putInput_adv (i : Fin 12) (r : InputRec) (s : State) : (putInput i r s).adv = s.adv := rfl
@[simp] theorem putInput_drive (i : Fin 12) (r : InputRec) (s : State) : (putInput i r s).drive = s.drive := rfl
@[simp] theorem putInput_thrust (i : Fin 12) (r : InputRec) (s : State) : (putInput i r s).thrust = s.thrust := rfl
@[simp] theorem putInput_shoe (i : Fin 12) (r : InputRec) (s : State) : (putInput i r s).shoe = s.shoe := rfl
@[simp] theorem putInput_grout (i : Fin 12) (r : InputRec) (s : State) : (putInput i r s).grout = s.grout := rfl
@[simp] theorem putInput_muck (i : Fin 12) (r : InputRec) (s : State) : (putInput i r s).muck = s.muck := rfl
@[simp] theorem putInput_inputs (i : Fin 12) (r : InputRec) (s : State) : (putInput i r s).inputs = s.inputs.set i r := rfl
@[simp] theorem putInput_converting (i : Fin 12) (r : InputRec) (s : State) : (putInput i r s).converting = s.converting := rfl
@[simp] theorem putInput_channels (i : Fin 12) (r : InputRec) (s : State) : (putInput i r s).channels = s.channels := rfl
@[simp] theorem putInput_faults (i : Fin 12) (r : InputRec) (s : State) : (putInput i r s).faults = s.faults := rfl
@[simp] theorem putInput_events (i : Fin 12) (r : InputRec) (s : State) : (putInput i r s).events = s.events := rfl
@[simp] theorem putInput_mem (i : Fin 12) (r : InputRec) (s : State) : (putInput i r s).mem = s.mem := rfl
@[simp] theorem putInput_pending (i : Fin 12) (r : InputRec) (s : State) : (putInput i r s).pending = s.pending := rfl

/-! ## putOwnEntry -/

@[simp] theorem putOwnEntry_boot (e : StationEntry) (s : State) : (putOwnEntry e s).boot = s.boot := rfl
@[simp] theorem putOwnEntry_cfg (e : StationEntry) (s : State) : (putOwnEntry e s).cfg = s.cfg := rfl
@[simp] theorem putOwnEntry_pins (e : StationEntry) (s : State) : (putOwnEntry e s).pins = s.pins := rfl
@[simp] theorem putOwnEntry_now (e : StationEntry) (s : State) : (putOwnEntry e s).now = s.now := rfl
@[simp] theorem putOwnEntry_port (e : StationEntry) (s : State) : (putOwnEntry e s).port = s.port := rfl
@[simp] theorem putOwnEntry_table (e : StationEntry) (s : State) : (putOwnEntry e s).table = s.table.putEntry s.boot.station e := rfl
@[simp] theorem putOwnEntry_adv (e : StationEntry) (s : State) : (putOwnEntry e s).adv = s.adv := rfl
@[simp] theorem putOwnEntry_drive (e : StationEntry) (s : State) : (putOwnEntry e s).drive = s.drive := rfl
@[simp] theorem putOwnEntry_thrust (e : StationEntry) (s : State) : (putOwnEntry e s).thrust = s.thrust := rfl
@[simp] theorem putOwnEntry_shoe (e : StationEntry) (s : State) : (putOwnEntry e s).shoe = s.shoe := rfl
@[simp] theorem putOwnEntry_grout (e : StationEntry) (s : State) : (putOwnEntry e s).grout = s.grout := rfl
@[simp] theorem putOwnEntry_muck (e : StationEntry) (s : State) : (putOwnEntry e s).muck = s.muck := rfl
@[simp] theorem putOwnEntry_inputs (e : StationEntry) (s : State) : (putOwnEntry e s).inputs = s.inputs := rfl
@[simp] theorem putOwnEntry_converting (e : StationEntry) (s : State) : (putOwnEntry e s).converting = s.converting := rfl
@[simp] theorem putOwnEntry_channels (e : StationEntry) (s : State) : (putOwnEntry e s).channels = s.channels := rfl
@[simp] theorem putOwnEntry_faults (e : StationEntry) (s : State) : (putOwnEntry e s).faults = s.faults := rfl
@[simp] theorem putOwnEntry_events (e : StationEntry) (s : State) : (putOwnEntry e s).events = s.events := rfl
@[simp] theorem putOwnEntry_mem (e : StationEntry) (s : State) : (putOwnEntry e s).mem = s.mem := rfl
@[simp] theorem putOwnEntry_pending (e : StationEntry) (s : State) : (putOwnEntry e s).pending = s.pending := rfl

/-! ## raiseEvent -/

@[simp] theorem raiseEvent_boot (e : EventFlag) (s : State) : (raiseEvent e s).boot = s.boot := rfl
@[simp] theorem raiseEvent_cfg (e : EventFlag) (s : State) : (raiseEvent e s).cfg = s.cfg := rfl
@[simp] theorem raiseEvent_pins (e : EventFlag) (s : State) : (raiseEvent e s).pins = s.pins := rfl
@[simp] theorem raiseEvent_now (e : EventFlag) (s : State) : (raiseEvent e s).now = s.now := rfl
@[simp] theorem raiseEvent_port (e : EventFlag) (s : State) : (raiseEvent e s).port = { s.port with statusDue := s.port.statusDue || (s.cfg.evPublish &&& e.mask != 0#16) } := rfl
@[simp] theorem raiseEvent_table (e : EventFlag) (s : State) : (raiseEvent e s).table = s.table := rfl
@[simp] theorem raiseEvent_adv (e : EventFlag) (s : State) : (raiseEvent e s).adv = s.adv := rfl
@[simp] theorem raiseEvent_drive (e : EventFlag) (s : State) : (raiseEvent e s).drive = s.drive := rfl
@[simp] theorem raiseEvent_thrust (e : EventFlag) (s : State) : (raiseEvent e s).thrust = s.thrust := rfl
@[simp] theorem raiseEvent_shoe (e : EventFlag) (s : State) : (raiseEvent e s).shoe = s.shoe := rfl
@[simp] theorem raiseEvent_grout (e : EventFlag) (s : State) : (raiseEvent e s).grout = s.grout := rfl
@[simp] theorem raiseEvent_muck (e : EventFlag) (s : State) : (raiseEvent e s).muck = s.muck := rfl
@[simp] theorem raiseEvent_inputs (e : EventFlag) (s : State) : (raiseEvent e s).inputs = s.inputs := rfl
@[simp] theorem raiseEvent_converting (e : EventFlag) (s : State) : (raiseEvent e s).converting = s.converting := rfl
@[simp] theorem raiseEvent_channels (e : EventFlag) (s : State) : (raiseEvent e s).channels = s.channels := rfl
@[simp] theorem raiseEvent_faults (e : EventFlag) (s : State) : (raiseEvent e s).faults = s.faults := rfl
@[simp] theorem raiseEvent_events (e : EventFlag) (s : State) : (raiseEvent e s).events = { s.events with flags := s.events.flags ||| e.mask } := rfl
@[simp] theorem raiseEvent_mem (e : EventFlag) (s : State) : (raiseEvent e s).mem = s.mem := rfl
@[simp] theorem raiseEvent_pending (e : EventFlag) (s : State) : (raiseEvent e s).pending = s.pending := rfl

/-! ## clearFlags -/

@[simp] theorem clearFlags_boot (m : Word16) (s : State) : (clearFlags m s).boot = s.boot := rfl
@[simp] theorem clearFlags_cfg (m : Word16) (s : State) : (clearFlags m s).cfg = s.cfg := rfl
@[simp] theorem clearFlags_pins (m : Word16) (s : State) : (clearFlags m s).pins = s.pins := rfl
@[simp] theorem clearFlags_now (m : Word16) (s : State) : (clearFlags m s).now = s.now := rfl
@[simp] theorem clearFlags_port (m : Word16) (s : State) : (clearFlags m s).port = s.port := rfl
@[simp] theorem clearFlags_table (m : Word16) (s : State) : (clearFlags m s).table = s.table := rfl
@[simp] theorem clearFlags_adv (m : Word16) (s : State) : (clearFlags m s).adv = s.adv := rfl
@[simp] theorem clearFlags_drive (m : Word16) (s : State) : (clearFlags m s).drive = s.drive := rfl
@[simp] theorem clearFlags_thrust (m : Word16) (s : State) : (clearFlags m s).thrust = s.thrust := rfl
@[simp] theorem clearFlags_shoe (m : Word16) (s : State) : (clearFlags m s).shoe = s.shoe := rfl
@[simp] theorem clearFlags_grout (m : Word16) (s : State) : (clearFlags m s).grout = s.grout := rfl
@[simp] theorem clearFlags_muck (m : Word16) (s : State) : (clearFlags m s).muck = s.muck := rfl
@[simp] theorem clearFlags_inputs (m : Word16) (s : State) : (clearFlags m s).inputs = s.inputs := rfl
@[simp] theorem clearFlags_converting (m : Word16) (s : State) : (clearFlags m s).converting = s.converting := rfl
@[simp] theorem clearFlags_channels (m : Word16) (s : State) : (clearFlags m s).channels = s.channels := rfl
@[simp] theorem clearFlags_faults (m : Word16) (s : State) : (clearFlags m s).faults = s.faults := rfl
@[simp] theorem clearFlags_events (m : Word16) (s : State) : (clearFlags m s).events = { s.events with flags := s.events.flags &&& ~~~m } := rfl
@[simp] theorem clearFlags_mem (m : Word16) (s : State) : (clearFlags m s).mem = s.mem := rfl
@[simp] theorem clearFlags_pending (m : Word16) (s : State) : (clearFlags m s).pending = s.pending := rfl

/-! ## refreshAlarm -/

@[simp] theorem refreshAlarm_boot (s : State) : (refreshAlarm s).boot = s.boot := rfl
@[simp] theorem refreshAlarm_cfg (s : State) : (refreshAlarm s).cfg = s.cfg := rfl
@[simp] theorem refreshAlarm_pins (s : State) : (refreshAlarm s).pins = s.pins := rfl
@[simp] theorem refreshAlarm_now (s : State) : (refreshAlarm s).now = s.now := rfl
@[simp] theorem refreshAlarm_port (s : State) : (refreshAlarm s).port = s.port := rfl
@[simp] theorem refreshAlarm_table (s : State) : (refreshAlarm s).table = s.table := rfl
@[simp] theorem refreshAlarm_adv (s : State) : (refreshAlarm s).adv = s.adv := rfl
@[simp] theorem refreshAlarm_drive (s : State) : (refreshAlarm s).drive = s.drive := rfl
@[simp] theorem refreshAlarm_thrust (s : State) : (refreshAlarm s).thrust = s.thrust := rfl
@[simp] theorem refreshAlarm_shoe (s : State) : (refreshAlarm s).shoe = s.shoe := rfl
@[simp] theorem refreshAlarm_grout (s : State) : (refreshAlarm s).grout = s.grout := rfl
@[simp] theorem refreshAlarm_muck (s : State) : (refreshAlarm s).muck = s.muck := rfl
@[simp] theorem refreshAlarm_inputs (s : State) : (refreshAlarm s).inputs = s.inputs := rfl
@[simp] theorem refreshAlarm_converting (s : State) : (refreshAlarm s).converting = s.converting := rfl
@[simp] theorem refreshAlarm_channels (s : State) : (refreshAlarm s).channels = s.channels := rfl
@[simp] theorem refreshAlarm_faults (s : State) : (refreshAlarm s).faults = s.faults := rfl
@[simp] theorem refreshAlarm_events (s : State) : (refreshAlarm s).events = { s.events with alarm := s.alarmDue } := rfl
@[simp] theorem refreshAlarm_mem (s : State) : (refreshAlarm s).mem = s.mem := rfl
@[simp] theorem refreshAlarm_pending (s : State) : (refreshAlarm s).pending = s.pending := rfl

/-! ## popFrame -/

@[simp] theorem popFrame_boot (s : State) : (popFrame s).boot = s.boot := rfl
@[simp] theorem popFrame_cfg (s : State) : (popFrame s).cfg = s.cfg := rfl
@[simp] theorem popFrame_pins (s : State) : (popFrame s).pins = s.pins := rfl
@[simp] theorem popFrame_now (s : State) : (popFrame s).now = s.now := rfl
@[simp] theorem popFrame_port (s : State) : (popFrame s).port = { s.port with rx := s.port.rx.tail } := rfl
@[simp] theorem popFrame_table (s : State) : (popFrame s).table = s.table := rfl
@[simp] theorem popFrame_adv (s : State) : (popFrame s).adv = s.adv := rfl
@[simp] theorem popFrame_drive (s : State) : (popFrame s).drive = s.drive := rfl
@[simp] theorem popFrame_thrust (s : State) : (popFrame s).thrust = s.thrust := rfl
@[simp] theorem popFrame_shoe (s : State) : (popFrame s).shoe = s.shoe := rfl
@[simp] theorem popFrame_grout (s : State) : (popFrame s).grout = s.grout := rfl
@[simp] theorem popFrame_muck (s : State) : (popFrame s).muck = s.muck := rfl
@[simp] theorem popFrame_inputs (s : State) : (popFrame s).inputs = s.inputs := rfl
@[simp] theorem popFrame_converting (s : State) : (popFrame s).converting = s.converting := rfl
@[simp] theorem popFrame_channels (s : State) : (popFrame s).channels = s.channels := rfl
@[simp] theorem popFrame_faults (s : State) : (popFrame s).faults = s.faults := rfl
@[simp] theorem popFrame_events (s : State) : (popFrame s).events = s.events := rfl
@[simp] theorem popFrame_mem (s : State) : (popFrame s).mem = s.mem := rfl
@[simp] theorem popFrame_pending (s : State) : (popFrame s).pending = s.pending := rfl

/-! ## withPending -/

@[simp] theorem State.withPending_boot (s : State) (q : List Instr) : (s.withPending q).boot = s.boot := rfl
@[simp] theorem State.withPending_cfg (s : State) (q : List Instr) : (s.withPending q).cfg = s.cfg := rfl
@[simp] theorem State.withPending_pins (s : State) (q : List Instr) : (s.withPending q).pins = s.pins := rfl
@[simp] theorem State.withPending_now (s : State) (q : List Instr) : (s.withPending q).now = s.now := rfl
@[simp] theorem State.withPending_port (s : State) (q : List Instr) : (s.withPending q).port = s.port := rfl
@[simp] theorem State.withPending_table (s : State) (q : List Instr) : (s.withPending q).table = s.table := rfl
@[simp] theorem State.withPending_adv (s : State) (q : List Instr) : (s.withPending q).adv = s.adv := rfl
@[simp] theorem State.withPending_drive (s : State) (q : List Instr) : (s.withPending q).drive = s.drive := rfl
@[simp] theorem State.withPending_thrust (s : State) (q : List Instr) : (s.withPending q).thrust = s.thrust := rfl
@[simp] theorem State.withPending_shoe (s : State) (q : List Instr) : (s.withPending q).shoe = s.shoe := rfl
@[simp] theorem State.withPending_grout (s : State) (q : List Instr) : (s.withPending q).grout = s.grout := rfl
@[simp] theorem State.withPending_muck (s : State) (q : List Instr) : (s.withPending q).muck = s.muck := rfl
@[simp] theorem State.withPending_inputs (s : State) (q : List Instr) : (s.withPending q).inputs = s.inputs := rfl
@[simp] theorem State.withPending_converting (s : State) (q : List Instr) : (s.withPending q).converting = s.converting := rfl
@[simp] theorem State.withPending_channels (s : State) (q : List Instr) : (s.withPending q).channels = s.channels := rfl
@[simp] theorem State.withPending_faults (s : State) (q : List Instr) : (s.withPending q).faults = s.faults := rfl
@[simp] theorem State.withPending_events (s : State) (q : List Instr) : (s.withPending q).events = s.events := rfl
@[simp] theorem State.withPending_mem (s : State) (q : List Instr) : (s.withPending q).mem = s.mem := rfl
@[simp] theorem State.withPending_pending (s : State) (q : List Instr) : (s.withPending q).pending = q := rfl

/-! ## idle -/

@[simp] theorem State.idle_boot (s : State) : (s.idle).boot = s.boot := rfl
@[simp] theorem State.idle_cfg (s : State) : (s.idle).cfg = s.cfg := rfl
@[simp] theorem State.idle_pins (s : State) : (s.idle).pins = s.pins := rfl
@[simp] theorem State.idle_now (s : State) : (s.idle).now = s.now + 1 := rfl
@[simp] theorem State.idle_port (s : State) : (s.idle).port = s.port := rfl
@[simp] theorem State.idle_table (s : State) : (s.idle).table = s.table := rfl
@[simp] theorem State.idle_adv (s : State) : (s.idle).adv = s.adv := rfl
@[simp] theorem State.idle_drive (s : State) : (s.idle).drive = s.drive := rfl
@[simp] theorem State.idle_thrust (s : State) : (s.idle).thrust = s.thrust := rfl
@[simp] theorem State.idle_shoe (s : State) : (s.idle).shoe = s.shoe := rfl
@[simp] theorem State.idle_grout (s : State) : (s.idle).grout = s.grout := rfl
@[simp] theorem State.idle_muck (s : State) : (s.idle).muck = s.muck := rfl
@[simp] theorem State.idle_inputs (s : State) : (s.idle).inputs = s.inputs := rfl
@[simp] theorem State.idle_converting (s : State) : (s.idle).converting = s.converting := rfl
@[simp] theorem State.idle_channels (s : State) : (s.idle).channels = s.channels := rfl
@[simp] theorem State.idle_faults (s : State) : (s.idle).faults = s.faults := rfl
@[simp] theorem State.idle_events (s : State) : (s.idle).events = s.events := rfl
@[simp] theorem State.idle_mem (s : State) : (s.idle).mem = s.mem := rfl
@[simp] theorem State.idle_pending (s : State) : (s.idle).pending = s.pending := rfl

/-! ## Readers of what was written -/

@[simp] theorem putChannel_ch_self (i : Fin 8) (r : ChannelRec) (s : State) : (putChannel i r s).ch i = r := by
  simp [State.ch, putChannel]

@[simp] theorem putChannel_chCfg (i j : Fin 8) (r : ChannelRec) (s : State) : (putChannel i r s).chCfg j = s.chCfg j := rfl

@[simp] theorem putInput_inRec_self (i : Fin 12) (r : InputRec) (s : State) : (putInput i r s).inRec i = r := by
  simp [State.inRec, putInput]

@[simp] theorem putInput_inCfg (i j : Fin 12) (r : InputRec) (s : State) : (putInput i r s).inCfg j = s.inCfg j := rfl

/-- An input's record replaced leaves every other one. -/
theorem putInput_inRec_other {i j : Fin 12} (h : i ≠ j) (r : InputRec) (s : State) :
    (putInput i r s).inRec j = s.inRec j := by
  have h2 : (i : Nat) ≠ j := fun e => h (Fin.ext e)
  simp [State.inRec, putInput, h2]

/-- A station's entry reads as it was last put. -/
theorem putEntry_entry_self (t : PeerTable) {n : Nat} (e : StationEntry) (h1 : 1 ≤ n) (h15 : n ≤ 15) :
    (t.putEntry n e).entry n = e := by
  have h : n - 1 < 15 := by omega
  simp [PeerTable.putEntry, PeerTable.entry, h1, List.getD, h]

/-- A station's entry put leaves every other station's. -/
theorem putEntry_entry_other (t : PeerTable) {n m : Nat} (e : StationEntry) (h : n ≠ m) :
    (t.putEntry n e).entry m = t.entry m := by
  unfold PeerTable.putEntry PeerTable.entry
  by_cases h1 : 1 ≤ n
  · by_cases h2 : 1 ≤ m
    · have h3 : n - 1 ≠ m - 1 := by omega
      simp [h1, h2, List.getD, h3]
    · simp [h2]
  · simp [h1]

/-- A value put for a kind is read back for it. -/
@[simp] theorem PerKind.get_put_self {α : Type} (p : PerKind α) (k : OwnKind) (x : α) : (p.put k x).get k = x := by
  cases k <;> rfl

/-- A value put for a kind leaves every other kind's. -/
theorem PerKind.get_put_other {α : Type} (p : PerKind α) {k j : OwnKind} (h : k ≠ j) (x : α) :
    (p.put k x).get j = p.get j := by
  cases k <;> cases j <;> first | rfl | exact absurd rfl h

/-- A fault record put for a job is read back for it. -/
@[simp] theorem FaultRecords.get_put_self (f : FaultRecords) (j : Job) (r : Option FaultRecord) : (f.put j r).get j = r := by
  cases j <;> rfl

/-- A fault record put for a job leaves every other job's. -/
theorem FaultRecords.get_put_other (f : FaultRecords) {j k : Job} (h : j ≠ k) (r : Option FaultRecord) :
    (f.put j r).get k = f.get k := by
  cases j <;> cases k <;> first | rfl | exact absurd rfl h

end Sys2Proof.Machine
end

