-- ==== Sys2Proof/Tests/Slice0.lean ====
section
/-! SUPPORT. The model's own tests: expected results come from the manual's worked cases (sections 1.8, 2.5, 3.6, 3.11, 4.5, 5.8,
5.9, 6.11, 7.11, 8.9, 9.6, 9.7, 10.4, 11.6) or are worked by hand from its rules; and for every statement with hypotheses, states
that meet them. -/
namespace Sys2Proof.Machine.Tests
open Sys2Proof

-- The kernel's evaluations one after the other: side by side, each takes a thread of its own.
set_option Elab.async false

/-! ## Small states -/

def on : Timer := .running 1020000

def ch (f : ChFunction) : ChannelCfg := { function := f, period := 2000 }

/-- The machine of the worked cases at its defaults, with head_offset 600 (section 7.11); all four roles at one station. -/
def cfg : StationConfig where
  roles := ⟨true, true, true, true⟩
  sector := some 0
  weight := 2
  headOffset := 600
  inputs := #v[{ function := .stroke }, { function := .groupPressure }, { function := .linePressure },
    { function := .chamber1 }, { function := .chamber2 }, { function := .chamber3 },
    { function := .torqueA, rawMin := 10, rawMax := 4000 }, {}, {}, {}, {}, {}]
  channels := #v[ch .thrustExtend, ch .thrustRetract, ch .driveSpeedOut, { ch .driveSpeedIn with pin := 0 }, ch .groutPump,
    { ch .groutStroke with pin := 1 }, ch .screwSpeedOut, { ch .scalePulse with pin := 2 }]

/-- Section 5.8's demand with section 7.11's fill ratio. -/
def demand : SetpointBody := ⟨30000, 3000, -1200, .cw, 1500, 250, 3500⟩

/-- Station 1 in `backbone`, EXCAVATE, ring 412, 1 s of the model's clock, ENGAGED, every evaluation timer running, heard by
nobody: its publication timers are stopped. -/
def base (backbone : Backbone) : State :=
  { State.reset with
    cfg := cfg
    boot := ⟨.done, .powerOn, true, 1, RoleMask.empty, 0#16⟩
    now := 1000000
    port := { Port.start with backbone := backbone }
    table := { PeerTable.start 1 3500 with
      mode := .excavate, console := ⟨⟨some ⟨.excavate, 412⟩, on⟩, ⟨some demand, on⟩, .empty, .empty⟩ }
    adv := { Advance.start with ring := 412, rateTimer := on }
    drive := { Drive.start false with evalTimer := on }
    thrust := { Thrust.start cfg with evalTimer := on }
    shoe := { Shoe.start false with state := .engaged, decisionPending := false }
    grout := { Grout.start cfg false with evalTimer := on }
    muck := { Muck.start cfg false with evalTimer := on } }

def online : State := finish (base .online)

def isNext : Host.Outcome State Fault Refusal → Bool
  | .next _ => true
  | .fault _ | .refused _ => false

/-- What a command answers, seen through `f`. -/
def see {α : Type} (f : State → α) (c : Instr) (s : State) : Option α :=
  match exec c s with
  | .next t => some (f t)
  | .fault _ | .refused _ => none

theorem next_of_isNext {o : Host.Outcome State Fault Refusal} (h : isNext o = true) : ∃ t, o = .next t := by
  cases o with
  | next t => exact ⟨t, rfl⟩
  | fault _ => cases h
  | refused _ => cases h

/-- A state with frames waiting in the receive buffer. -/
def heard (s : State) (rx : List RxFrame) : State := { s with port := { s.port with rx := rx } }

def restsNow (s : State) : Bool :=
  OwnKind.all.all (fun k => k == .stop || !s.changeDue k) && channelIndices.all (fun i => (s.ch i).gate == s.gateDue i)
    && s.events.alarm == s.alarmDue

theorem atRest_of_restsNow {s : State} (h : restsNow s = true) : AtRest s := by
  simp only [restsNow, Bool.and_eq_true, List.all_eq_true, beq_iff_eq, Bool.or_eq_true, Bool.not_eq_true'] at h
  refine ⟨fun k hk => ?_, fun i => h.1.2 i ?_, h.2⟩
  · have := h.1.1 k (by cases k <;> decide)
    simp_all
  · fin_cases i <;> decide

/-! ## Well-formed commands: an ill-formed term for each check -/

theorem test_wellFormed_image : (Instr.configReadComplete (some [0#8])).wellFormed = false := by decide

theorem test_wellFormed_record : (Instr.ringRecordReadComplete (some [0#8])).wellFormed = false := by decide

theorem test_wellFormed_frame : (Instr.frameArrives ⟨0x00#8, 1#4, [], 0#16⟩).wellFormed = false := by decide

theorem test_wellFormed_slot : (Instr.slotCurrencyExpiry (.station 16 .id)).wellFormed = false := by decide

theorem test_wellFormed_good :
    (Instr.frameArrives ⟨0x00#8, 15#4, List.replicate 12 0#8, 0#16⟩).wellFormed = true ∧
      (Instr.slotCurrencyExpiry (.station 15 .stop)).wellFormed = true := by decide

/-- No row of the table has bits. -/
theorem test_no_command_has_bits : decodeTableWord 16 0 = none := rfl

/-! ## The machine and its invariants -/

def busy : State := online.withPending [.driveEvaluation]

theorem busy_steps : ∃ t, step busy = .next t := next_of_isNext (by decide +kernel)

theorem witness_StepRunsFrontCommand : State.reset.pending = [] := rfl

theorem witness_PortBoundsKept : PortBounded busy ∧ ∃ t, step busy = .next t :=
  ⟨⟨by decide +kernel, by decide +kernel, by decide +kernel, by decide +kernel, by decide +kernel, by decide +kernel⟩, busy_steps⟩

theorem witness_OutputsStayGuarded : OutputsGuarded busy ∧ ∃ t, step busy = .next t :=
  ⟨⟨by decide +kernel, by decide +kernel, by decide +kernel, by decide +kernel, by decide +kernel⟩, busy_steps⟩

theorem witness_AlarmStaysTrue : AlarmTrue busy ∧ ∃ t, step busy = .next t := by
  refine ⟨?_, busy_steps⟩
  constructor
  · intro h; exact absurd h (by decide +kernel)
  · rintro (h | h | ⟨j, h⟩)
    · exact absurd h (by decide +kernel)
    · exact absurd h (by decide +kernel)
    · revert h; cases j <;> decide +kernel

theorem witness_DeficitStaysBalanced : DeficitBalanced busy ∧ ∃ t, step busy = .next t :=
  ⟨by unfold DeficitBalanced; decide +kernel, busy_steps⟩

theorem witness_FaultedJobsStayFaulted : FaultedJobsStand busy ∧ ∃ t, step busy = .next t :=
  ⟨⟨by decide +kernel, by decide +kernel, by decide +kernel⟩, busy_steps⟩

theorem busy_demand : busy.table.console.setpoint.content = some demand := by decide +kernel

theorem busy_rx : busy.port.rx = [] := by decide +kernel

theorem witness_DriveCommandStaysBounded : DriveCommandBounded busy ∧ ∃ t, step busy = .next t := by
  refine ⟨⟨by decide +kernel, by decide +kernel, by decide +kernel, by decide +kernel, ?_, ?_, ?_⟩, busy_steps⟩
  · intro b h
    rw [busy_demand] at h
    cases h
    decide +kernel
  · intro f hf
    rw [busy_rx] at hf
    cases hf
  · intro h; exact absurd h (by decide +kernel)

/-- `busy` ENGAGED with its setpoint at p_hold, a thrust evaluation in front. -/
def steady : State := { online with thrust := { online.thrust with pSet := 200 } }.withPending [.thrustEvaluation]

theorem steady_target : steady.thrust.target.pressure? = none := by decide +kernel

theorem witness_SetpointAndPumpStayBounded : SetpointAndPumpBounded steady ∧ ∃ t, step steady = .next t :=
  ⟨⟨by decide +kernel, by decide +kernel, by decide +kernel, fun p h => by simp [steady_target] at h,
    by decide +kernel,
    by decide +kernel, by decide +kernel, by decide +kernel, by decide +kernel⟩, next_of_isNext (by decide +kernel)⟩

theorem witness_ConditionTimersFollow : ConditionsWatched busy ∧ ∃ t, step busy = .next t :=
  ⟨⟨by decide +kernel, by decide +kernel, by decide +kernel, by decide +kernel, by decide +kernel,
    fun h => absurd (by decide +kernel : busy.boot.phase = .done) h⟩, busy_steps⟩

theorem witness_AccountsStayTrue_invariant : AccountsTrue busy ∧ ∃ t, step busy = .next t :=
  ⟨⟨fun h => absurd (by decide +kernel : busy.boot.phase = .done) h,
    fun _ h => absurd (by decide +kernel : busy.contributingThrust = []) h, by decide +kernel, by decide +kernel,
    by decide +kernel, by decide +kernel⟩, busy_steps⟩

/-! ## Rules over all commands -/

def stallRecord (later : Nat) : FaultRecord := ⟨.stall, 960, 412, 0, later⟩

/-- Every flag set, STOPPED, the drive in FAULT with its later count at `later`, its overspeed condition absent. -/
def troubled (later : Nat) : State :=
  { online with
    events := ⟨0xFFFF#16, true, true⟩
    faults := { online.faults with drive := some (stallRecord later) }
    drive := { online.drive with state := .fault, nFb := 500, stallTimer := on } }

theorem troubled_answers (later : Nat) (c : Instr) (h : isNext (exec c (troubled later)) = true) :
    ∃ t, exec c (troubled later) = .next t := next_of_isNext h

theorem witness_FlagsAndLatchesOnlyClearedByName :
    (∃ t, exec .driveStallTimerExpiry (troubled 0) = .next t) ∧ Instr.driveStallTimerExpiry ≠ .clearEvents ∧
      (∀ straps, Instr.driveStallTimerExpiry ≠ .powerOn straps) ∧ startsStation .driveStallTimerExpiry = false ∧
      (troubled 0).events.stopped = true :=
  ⟨troubled_answers 0 _ (by decide +kernel), by decide, by simp, rfl, rfl⟩

/-- A command that is neither a start nor an answer to a start's read starts nothing. -/
theorem startsNothing_of_plain {c : Instr} {s : State} (h : startsStation c = false)
    (hi : ∀ a, c ≠ .configReadComplete a) (hr : ∀ a, c ≠ .ringRecordReadComplete a) : StartsNothing c s :=
  ⟨fun h' => by simp [h] at h', fun _ _ h' => by simp [h] at h', fun a ha => absurd ha (hi a), fun a ha => absurd ha (hr a)⟩

theorem witness_HeldRecordsKeepFirstCause :
    (∃ t, exec .driveStallTimerExpiry (troubled 254) = .next t) ∧
      (troubled 254).faults.get .drive = some (stallRecord 254) ∧
      (∃ t, exec .driveStallTimerExpiry (troubled 255) = .next t) ∧
      (troubled 255).faults.get .drive = some (stallRecord 255) :=
  ⟨troubled_answers 254 _ (by decide +kernel), rfl, troubled_answers 255 _ (by decide +kernel), rfl⟩

theorem test_later_count_saturates :
    see (fun t => t.faults.drive.map (·.later)) .driveStallTimerExpiry (troubled 254) = some (some 255) ∧
      see (fun t => t.faults.drive.map (·.later)) .driveStallTimerExpiry (troubled 255) = some (some 255) := by
  decide +kernel

theorem witness_RingNumberOnlyFollowsMode :
    (∃ t, exec .rateTimerExpiry online = .next t) ∧ startsStation .rateTimerExpiry = false :=
  ⟨next_of_isNext (by decide +kernel), rfl⟩

/-! ## Encodings -/

/-- THRUST at the highest values its fields hold, from station 15. -/
def fullThrust : ThrustBody :=
  ⟨65535, true, 32767, 32767, ⟨true, true, true, true⟩, 4095, 65535, true, true, 3, 4095⟩

theorem witness_BulletinsRoundTrip :
    senderAllowed (Bulletin.thrust fullThrust).code 15 = true ∧ fitsLayout (.thrust fullThrust) ∧
      senderAllowed (Bulletin.setpoint ⟨65535, 65535, -65535, .ccw, 8191, 65535, 65535⟩).code 0 = true ∧
      fitsLayout (.setpoint ⟨65535, 65535, -65535, .ccw, 8191, 65535, 65535⟩) := by
  refine ⟨by decide, ?_, by decide, ?_⟩ <;> simp [fitsLayout, fullThrust]

/-- Section 1.8: the tag of a THRUST from station 4 is 100, and of a CLAIM from station 2 is 18. -/
theorem test_tags :
    ((Bulletin.thrust fullThrust).frame 4).tag = 100#8 ∧ ((Bulletin.claim ⟨412, 1, 3, .engaged, .none⟩).frame 2).tag = 18#8 := by
  decide

/-- R8: BUILD is the ring number in two bytes, then step, sector and phase. -/
theorem test_build_layout :
    ((Bulletin.build ⟨412, 2, 5, .placed⟩).frame 0).payload = [0x01#8, 0x9C#8, 2#8, 5#8, 1#8] := by decide

/-- The check of the nine bytes "123456789" with this generator and an all-ones register is the published 29B1 (hex). -/
theorem test_check_value :
    crcOfBytes [0x31#8, 0x32#8, 0x33#8, 0x34#8, 0x35#8, 0x36#8, 0x37#8, 0x38#8, 0x39#8] = 0x29B1#16 := by decide +kernel

/-- Station 3 of section 11.6 as it saves: sequence 1,208. -/
def saving : State :=
  { online with
    cfg := { cfg with roles := ⟨true, true, true, false⟩ }
    adv := { online.adv with ring := 412, base := 5946, aRing := 12500, grease := 25, milestones := 5 }
    grout := { online.grout with delivered := 2070000, carry := 12000, target := 1914438 }
    drive := { online.drive with nSet := 250 } }

theorem witness_RingRecordRoundTrips : (1208 < 65536) ∧ FitsRecord saving :=
  ⟨by decide, ⟨by decide +kernel, by decide +kernel, by unfold fitsInt32; decide +kernel, by decide +kernel,
    by unfold fitsInt32; decide +kernel⟩⟩

/-- Section 11.6: record 1,208 has 35 bytes, its present mask is ADV, GRT and TRM, and so are its live ones. -/
theorem test_record_bytes :
    (saving.recordBytes 1208).length = 35 ∧ (saving.recordBytes 1208).take 6 = [1#8, 0xDD#8, 0x04#8, 0xB8#8, 0x01#8, 0x9C#8] := by
  decide +kernel

/-! ## Configuration images -/

/-- The constants of chapters 1 to 9 at their defaults, in the order of R169. -/
def defaults : List Int :=
  [6, 30631, 3473, 1, 300] ++ [50, 50, 50, 50, 50, 100, 200, 1000, 500] ++ [3500] ++ [2050, 2000, 500, 2500]
    ++ [20, 2, 350, 1, 5, 100, 10, 400, 60, 5, 50, 900, 20, 950, 3000]
    ++ [20, 2120, 10000, 0, 3000, 50, 200, 3500, 150, 4000, 20, 750, 1200, 40000]
    ++ [150, 30000, 800, 600, 20000, 20000]
    ++ [100, 1, 9000, 920, 20, 300, 400, 0, 1000, 2000, 1500, 10000, 400000, 200000, 100, 800]
    ++ [50, 120, 500, 20, 1000, 2000, 20, 2500, 12, 5000, 5000, 10, 1000, 1080, 900] ++ [1000, 1000, 6000]

def inputWords (f : Int) : List Int := [f, 0, 1000, 0, 4095]

/-- STROKE and GROUP_PRESSURE mapped, THRUST_EXTEND on channel 0 with guard G1, CONSOLE_CURRENT. -/
def maps : List Int :=
  inputWords 1 ++ inputWords 2 ++ (List.replicate 10 (inputWords 0)).flatten
    ++ [1, 2000, 0, 1, 0, 0, 1000, 1000] ++ (List.replicate 7 [0, 1000, 0, 0, 0, 0, 1000, 1000]).flatten
    ++ [2, 0, 8, 0, 8, 0] ++ [0x3F0C, 0xFFFF]

/-- A thrust station of sector 5, the highest that S = 6 admits, in format 1. -/
def imageBody : List Byte :=
  [0#8, 1#8, 0x08#8, 5#8] ++ (defaults ++ maps).flatMap fun x => bytes32 (signed32 x)

def image : List Byte := imageBody ++ bytes16 0xDE19

/-- The division with the register looked at in each step, so that the kernel keeps it evaluated. -/
def divided : List Bool → Word16 → Word16
  | [], r => r
  | b :: bs, r => bif r == 0#16 then divided bs (crcBit r b) else divided bs (crcBit r b)

theorem divided_eq (bs : List Bool) (r : Word16) : divided bs r = bs.foldl crcBit r := by
  induction bs generalizing r with
  | nil => rfl
  | cons b bs ih => rw [divided, Bool.cond_self, ih, List.foldl_cons]

theorem image_check : crcOfBytes (image.take 884) = 0xDE19#16 := by
  rw [crcOfBytes, crcOfBits, ← divided_eq]
  decide +kernel

def loaded : StationConfig := (clampedConfig 8 5 (imageWords (image.drop 4))).ordered

theorem witness_LoadedConfigurationInOrder : loadImage 15 image = some loaded := by
  have h : (crcOfBytes (image.take 884) == BitVec.ofNat 16 (nat16 (image.getD 884 0) (image.getD 885 0))) = true := by
    rw [image_check]
    decide +kernel
  unfold loadImage
  rw [h]
  decide +kernel

theorem test_image_loads :
    loaded.sector = some 5 ∧ loaded.roles = ⟨true, false, false, false⟩ ∧
      (loaded.inputs[0], loaded.inputs[1]) = ({ function := .stroke }, { function := .groupPressure }) ∧
      loaded.channels[0] = { function := .thrustExtend, period := 2000, guard := .g1 } ∧
      loaded.guard1 = ⟨.consoleCurrent, false⟩ ∧
      { loaded with
        roles := RoleMask.empty, sector := none, inputs := cfg.inputs, channels := cfg.channels, guard1 := cfg.guard2 } =
        { cfg with roles := RoleMask.empty, sector := none, headOffset := 0, weight := 1 } := by
  decide +kernel

/-- R170: a sector at or above S makes the configuration bad, and so does a role without its input. -/
theorem test_configuration_bad :
    (clampedConfig 8 6 (imageWords (image.drop 4))).ordered.sectorGood = false ∧
      { loaded with inputs := Vector.replicate 12 {} }.inputMapGood = false := by
  decide +kernel

/-! ## Starts -/

/-- A station in service with a THRUST fault and a raised flag. -/
def faulted : State :=
  { online with
    faults := { online.faults with thrust := some ⟨.overpressure, 3700, 412, 0, 2⟩ }
    events := { online.events with flags := 0x8000#16 } }

theorem test_powerOn :
    see (fun t => (t.boot.phase, t.port.backbone, t.faults.thrust, t.events.flags, t.shoe.state))
      (.powerOn 3#4) faulted = some (.readingConfig, .offline, none, 0#16, .extending) := by decide +kernel

theorem witness_ResetPinKeepsRecords (s : State) :
    (Instr.lineReset 3#4 = .lineReset 3#4 ∧ BootPhase.readingConfig = .readingConfig ∧ false = false) ∧
      (Instr.resetAsserted = .resetAsserted ∧ s.pins.straps = s.pins.straps ∧ BootPhase.held = .held ∧ true = true) :=
  ⟨⟨rfl, rfl, rfl⟩, rfl, rfl, rfl, rfl⟩

/-- R167: the THRUST record is kept, so the shoe state starts CLEAR with no start decision pending (R109). -/
theorem test_lineReset :
    see (fun t => (t.boot.station, t.faults.thrust.map (·.later), t.events.flags, t.shoe.state, t.shoe.decisionPending))
      (.lineReset 3#4) faulted = some (3, some 2, 0x8000#16, .clear, false) := by decide +kernel

theorem test_resetAsserted :
    see (fun t => (t.boot.phase, t.boot.accepted, t.events.alarm, (t.ch 0).high)) .resetAsserted faulted =
      some (.held, false, true, false) := by decide +kernel

/-- R159, R173: a record emptied as the reset pin went low is still to be written after the release; a LINE_RESET with nothing
changed leaves nothing to write. -/
theorem test_lineReset_writes_change :
    see (fun t => t.mem.faultPending) (.lineReset 3#4)
        { faulted with boot := { faulted.boot with phase := .held }, mem := { faulted.mem with faultPending := true } } =
        some true ∧
      see (fun t => t.mem.faultPending) (.lineReset 3#4) faulted = some false := by decide +kernel

def serviceOf (action : ServiceAction) (arg : Nat) (target : Nat := 1) : RxFrame := ⟨0, .service ⟨target, action, arg⟩⟩

theorem witness_RestartKeepsConfiguration :
    (heard faulted [serviceOf .restart 0 0]).serviceHead .restart = some ⟨0, .restart, 0⟩ ∧ 1#4 ≠ 0#4 :=
  ⟨by decide +kernel, by decide⟩

/-- The other clauses of `AlarmStaysTrue`: an image read (below), a bad image (`witness_ConfigReadDecides_bad`) and a RESTART of this
station. -/
theorem witness_AlarmStaysTrue_restart :
    (heard faulted [serviceOf .restart 0 0]).serviceHead .restart = some ⟨0, .restart, 0⟩ ∧ 1#4 ≠ 0#4 ∧
      ∃ t, exec (.restart 1#4) (heard faulted [serviceOf .restart 0 0]) = .next t ∧ t.boot.accepted = true :=
  ⟨by decide +kernel, by decide, _, rfl, by decide +kernel⟩

theorem test_restart :
    see (fun t => (t.boot.phase, t.boot.startKind, t.boot.accepted, t.faults.thrust.map (·.later), t.port.backbone))
      (.restart 1#4) (heard faulted [serviceOf .restart 0 0]) =
      some (.readingRecord, .restart, true, some 2, .offline) := by decide +kernel

theorem test_restart_of_another_station :
    see (fun t => (t.boot.startKind, t.port.backbone, t.port.rx)) (.restart 1#4) (heard faulted [serviceOf .restart 0 2]) =
      some (.powerOn, .online, []) := by decide +kernel

/-- A station with number 15 that reads its image. -/
def reading : State := { State.reset with boot := { State.reset.boot with station := 15 } }

theorem witness_ConfigReadDecides :
    reading.boot.phase = .readingConfig ∧ loadImage reading.boot.station image = some loaded :=
  ⟨rfl, witness_LoadedConfigurationInOrder⟩

theorem witness_ConfigReadDecides_bad :
    reading.boot.phase = .readingConfig ∧ reading.faults.station = none ∧
      (∀ bytes, (none : Option (List Byte)) = some bytes → loadImage reading.boot.station bytes = none) :=
  ⟨rfl, rfl, fun _ h => by cases h⟩

theorem test_no_image :
    see (fun t => (t.boot.phase, t.faults.code .station, t.events.alarm, t.port.backbone)) (.configReadComplete none) reading =
      some (.bad, 1, true, .offline) := by decide +kernel

/-- Accepting the image's configuration leaves the port OFFLINE and the converter at the first scanned input. -/
theorem test_configReadComplete :
    (fun t => (t.boot.phase, t.port.backbone, t.converting, t.events.alarm))
        (finish (acceptConfig { reading with cfg := loaded })) =
      (.readingRecord, .offline, some 0, false) := by decide +kernel

/-- Section 11.6's station at the read of the record it saved. -/
def restoring : State :=
  { State.reset with
    cfg := saving.cfg
    boot := ⟨.readingRecord, .powerOn, true, 1, RoleMask.empty, 0#16⟩
    grout := Grout.start saving.cfg false
    events := ⟨0#16, false, false⟩ }

def savedRecord : Option RingRecord :=
  some ⟨1208, some ⟨412, 5946, 12500, 25, 5, 0⟩, some ⟨2070000, 12000, 1914438⟩, none, some ⟨0, 250⟩⟩

theorem witness_AcceptedRecordRestores :
    restoring.boot.phase = .readingRecord ∧ restoring.mem.recordTorn = false ∧
      decodeRecord (presentMask restoring.cfg) (saving.recordBytes 1208) = savedRecord ∧
      restoring.holds .drive = true ∧ restoring.faults.drive = none ∧ restoring.table.mode ≠ .excavate ∧
      restoring.grout.weight = 0 ∧ ∀ n ∈ stationNumbers, (restoring.table.entry n).grout.content = none :=
  ⟨rfl, rfl, by decide +kernel, by decide +kernel, rfl, by decide +kernel, rfl, by decide +kernel⟩

/-- A record of a station with nothing live but TRM, read with a record write pending. -/
theorem witness_AcceptedRecordRestores_none :
    (let unlived := { saving with adv := Advance.start, grout := Grout.start saving.cfg false };
      decodeRecord (presentMask restoring.cfg) (unlived.recordBytes 65535) =
        some ⟨65535, none, none, none, some ⟨0, 250⟩⟩ ∧
      decodeRecord (presentMask restoring.cfg) ({ unlived with drive := Drive.start false }.recordBytes 65535) =
        some ⟨65535, none, none, none, none⟩) ∧
    restoring.holds .screw = false ∧
    (let writes := { restoring with mem := { restoring.mem with recordPending := true } };
      writes.mem.inFlight = none ∧ writes.mem.faultPending = false ∧ writes.mem.recordPending = true) := by
  decide +kernel

/-- A record with MCK, saved and read back by a station in the SCREW role. -/
def weighed : List Byte :=
  { saving with cfg := cfg, muck := { saving.muck with mMeas := 100000, underdig := true, integ := -500 } }.recordBytes 9

/-- R39: a station without the THRUST role keeps the stroke base at 0. -/
theorem test_restored_base :
    see (fun t => (t.adv.ring, t.adv.base)) (.ringRecordReadComplete (some (saving.recordBytes 1208)))
      { restoring with cfg := { saving.cfg with roles := ⟨false, true, true, false⟩ } } = some (412, 0) := by decide +kernel

theorem witness_AcceptedRecordRestores_muck :
    { restoring with cfg := cfg }.holds .screw = true ∧ { restoring with cfg := cfg }.table.mode ≠ .excavate ∧
      (decodeRecord (presentMask cfg) weighed).bind (·.mck) = some ⟨100000, false, true⟩ ∧
      (decodeRecord (presentMask cfg) weighed).bind (·.trm) = some ⟨-500, 250⟩ := by
  decide +kernel

/-- R44, R141, R146: M_exp of 12,500 is 88,996 and B 1,124, above 1,080: the overdig latch is set and OVERDIG raised; the restored
underdig latch stands. -/
theorem test_restored_balance :
    see (fun t => (t.muck.mExp, t.muck.balance, t.muck.overdig, t.muck.underdig, t.events.flags, t.muck.integ))
      (.ringRecordReadComplete (some weighed)) { restoring with cfg := cfg } =
      some (88996, 1124, true, true, EventFlag.overdig.mask, -500) := by decide +kernel

/-- Section 11.6: A_ring, the counts and the setpoint come back, the drive in STOPPING, and E is -143,562. -/
theorem test_ringRecordReadComplete :
    see (fun t => (t.adv.ring, t.adv.aRing, t.adv.grease, t.adv.milestones))
        (.ringRecordReadComplete (some (saving.recordBytes 1208))) restoring = some (412, 12500, 25, 5) ∧
      see (fun t => (t.drive.state, t.drive.nSet, t.grout.deficit)) (.ringRecordReadComplete (some (saving.recordBytes 1208)))
        restoring = some (.stopping, 250, -143562) := by decide +kernel

theorem witness_RefusedRecordIsLost :
    restoring.boot.phase = .readingRecord ∧
      (∀ bytes, (some (saving.recordBytes 1208).tail : Option (List Byte)) = some bytes →
        decodeRecord (presentMask restoring.cfg) bytes = none) ∧
      { restoring with mem := { restoring.mem with recordTorn := true } }.mem.recordTorn = true ∧
      restoring.table.mode ≠ .excavate := by
  refine ⟨rfl, fun bytes h => ?_, rfl, by decide +kernel⟩
  rw [← Option.some.inj h]
  decide +kernel

/-- A record whose bytes are damaged, and one torn by a power loss: RECORD_LOST, ring 0, JOINING. -/
theorem test_record_refused :
    see (fun t => (t.events.flags, t.adv.ring, t.port.backbone))
        (.ringRecordReadComplete (some (saving.recordBytes 1208).tail)) restoring = some (0x0008#16, 0, .joining) ∧
      see (fun t => (t.events.flags, t.adv.ring, t.port.backbone)) (.ringRecordReadComplete (some (saving.recordBytes 1208)))
        { restoring with mem := { restoring.mem with recordTorn := true } } = some (0x0008#16, 0, .joining) := by
  decide +kernel

/-- A station in JOINING with `failures` failed transmissions, its start decision taken in EXTENDING. -/
def joining (failures : Nat) : State :=
  { base .joining with
    port := { (base .joining).port with joinTimer := on, failures := failures }
    shoe := Shoe.start true
    drive := { (base .joining).drive with evalTimer := .stopped } }

theorem witness_JoinTimerLeavesJoining :
    (joining 15).port.joinTimer.on = true ∧ (joining 15).port.backbone = .joining ∧
      { joining 16 with shoe := { (joining 16).shoe with state := .extending } }.shoe.decisionPending = false :=
  ⟨rfl, rfl, rfl⟩

theorem test_joinTimerExpiry :
    see (fun t => (t.port.backbone, t.drive.evalTimer)) .joinTimerExpiry (joining 15) =
        some (.online, .running 1020000) ∧
      see (fun t => (t.port.backbone, t.port.failures)) .joinTimerExpiry (joining 16) = some (.isolated, 16) := by
  decide +kernel

/-! ## The line -/

def queued (b : Bulletin) : TxEntry := ⟨b, false, false⟩

def thrustQueued : Bulletin := .thrust fullThrust

def driveQueued : Bulletin := .drive ⟨.running, .cw, false, 250, 700, 245⟩

/-- A station with a queue and, where `offered`, its head on the line. -/
def sending (offered : Bool) (failures : Nat) (queue : List TxEntry) : State :=
  { online with port := { online.port with
      queue := queue
      failures := failures
      onLine := if offered then queue.head?.map fun e => e.body.frame 1 else none } }

def twoQueued : List TxEntry := [queued thrustQueued, queued driveQueued]

theorem witness_LineOffersHeadAndKeepsLoser :
    (AtRest (sending false 0 twoQueued) ∧ (sending false 0 twoQueued).onBackbone = true ∧
      (sending false 0 twoQueued).port.onLine = none ∧
      (sending false 0 twoQueued).port.queue = queued thrustQueued :: [queued driveQueued]) ∧
    AtRest (sending true 0 twoQueued) ∧ (sending true 0 twoQueued).port.onLine = some (thrustQueued.frame 1) :=
  ⟨⟨atRest_of_restsNow (by decide +kernel), by decide +kernel, rfl, rfl⟩, atRest_of_restsNow (by decide +kernel), rfl⟩

/-- Section 1.8: the head is offered, and a lost arbitration leaves both entries and counts nothing. -/
theorem test_lineFree :
    see (fun t => (t.port.onLine.map (·.tag), t.port.queue)) .lineFree (sending false 0 twoQueued) =
      some (some 97#8, twoQueued) := by decide +kernel

theorem test_lostArbitration :
    see (fun t => (t.port.onLine, t.port.queue, t.port.failures)) .lostArbitration (sending true 3 twoQueued) =
      some (none, twoQueued, 3) := by decide +kernel

/-- R2, R13: a renewed entry that loses arbitration keeps its mark. -/
theorem test_lostArbitration_renewed :
    see (fun t => t.port.queue) .lostArbitration (sending true 3 [⟨thrustQueued, true, false⟩, queued driveQueued]) =
      some [⟨thrustQueued, true, false⟩, queued driveQueued] := by decide +kernel

/-- R12 (log 36): an entry renewed before a lost arbitration and published again while not on the line keeps its mark. -/
theorem test_publication_renewed :
    see (fun t => t.port.queue.map fun e => (e.body.code, e.renewed)) (.publicationTimerExpiry .drive)
      { sending false 0 [⟨driveQueued, true, false⟩] with port := { (sending false 0 [⟨driveQueued, true, false⟩]).port with
          pubTimer := PerKind.all on } } = some [(7, true)] := by decide +kernel

/-- Section 1.8: the renewed entry stays, holding its newer content. -/
theorem test_acknowledged :
    see (fun t => (t.port.queue, t.port.failures)) .acknowledged
        (sending true 3 [⟨thrustQueued, true, false⟩, queued driveQueued]) = some (twoQueued, 0) ∧
      see (fun t => t.port.queue) .acknowledged (sending true 3 twoQueued) = some [queued driveQueued] := by
  decide +kernel

theorem witness_FrameOutcomesCounted :
    AtRest (sending true 3 twoQueued) ∧ (sending true 3 twoQueued).port.onLine = some (thrustQueued.frame 1) ∧
      (sending true 3 twoQueued).port.backbone ≠ .isolated :=
  ⟨atRest_of_restsNow (by decide +kernel), rfl, by decide +kernel⟩

theorem witness_FrameOutcomesCounted_failed :
    AtRest (sending true 14 twoQueued) ∧ (sending true 14 twoQueued).port.onLine = some (thrustQueued.frame 1) ∧
      (sending true 14 twoQueued).port.failures + 1 < 16 ∧ (sending true 15 twoQueued).port.backbone = .online ∧
      15 ≤ (sending true 15 twoQueued).port.failures :=
  ⟨atRest_of_restsNow (by decide +kernel), rfl, by decide, by decide +kernel, by decide⟩

/-- R16: the sixteenth failed transmission makes ONLINE ISOLATED. -/
theorem test_unacknowledged :
    see (fun t => (t.port.failures, t.port.backbone)) .unacknowledged (sending true 14 twoQueued) = some (15, .online) ∧
      see (fun t => (t.port.failures, t.port.backbone)) .unacknowledged (sending true 15 twoQueued) =
        some (16, .isolated) := by
  decide +kernel

/-- Section 1.8: DRIVE(b) with a bit error is failed and not repeated. -/
theorem test_bitError :
    see (fun t => (t.port.queue, t.port.failures)) .bitError (sending true 0 [queued driveQueued]) = some ([], 1) := by
  decide +kernel

/-! ## Frames that arrive -/

def claimFrame (n : Nat) : Frame := (Bulletin.claim ⟨412, 1, 3, .retracting, .none⟩).frame n

def rxOf (n : Nat) : List RxFrame := List.replicate n ⟨2, .claim ⟨412, 1, 3, .retracting, .none⟩⟩

/-- A frame of kind code 12, which is no kind, with a good check. -/
def noKind : Frame := let f : Frame := ⟨0xC2#8, 0#4, [], 0#16⟩; { f with check := f.computedCheck }

theorem witness_GoodFrameIsBuffered :
    (heard online (rxOf 3)).onBackbone = true ∧ (claimFrame 2).good = true ∧
      (claimFrame 2).sender ≠ (heard online (rxOf 3)).boot.station ∧
      (claimFrame 2).content = some (.claim ⟨412, 1, 3, .retracting, .none⟩) ∧ (heard online (rxOf 3)).port.rx.length < 4 := by
  decide +kernel

theorem witness_OtherFramesAreDropped :
    (4 ≤ (heard online (rxOf 4)).port.rx.length) ∧ noKind.good = true ∧ noKind.sender ≠ online.boot.station ∧
      noKind.content = none ∧ { claimFrame 2 with check := 0#16 }.good = false := by
  decide +kernel

/-- A frame with a bad check, and a good one in SILENT. -/
theorem witness_OtherFramesAreDropped_unacknowledged :
    AtRest online ∧ AtRest (finish (base .silent)) ∧ (finish (base .silent)).onBackbone = false ∧ (claimFrame 2).good = true :=
  ⟨atRest_of_restsNow (by decide +kernel), atRest_of_restsNow (by decide +kernel), by decide +kernel, by decide +kernel⟩

theorem test_frameArrives :
    see (fun t => (t.port.rx.length, t.port.ackDriven, t.events.flags)) (.frameArrives (claimFrame 2)) (heard online (rxOf 3)) =
        some (4, true, 0#16) ∧
      see (fun t => (t.port.rx.length, t.port.ackDriven, t.events.flags)) (.frameArrives (claimFrame 2))
        (heard online (rxOf 4)) = some (4, true, 0x0002#16) ∧
      see (fun t => (t.port.rx.length, t.port.ackDriven, t.port.rejected)) (.frameArrives noKind) online =
        some (0, true, 1) := by
  decide +kernel

theorem witness_NumberClashSilences :
    online.onBackbone = true ∧ (claimFrame 1).good = true ∧ (claimFrame 1).sender = online.boot.station ∧
      online.faults.station = none := by
  decide +kernel

/-- R17: NUMBER_CLASH, SILENT, the alarm; the value is the kind code of the frame. -/
theorem test_number_clash :
    see (fun t => (t.port.backbone, t.faults.station.map fun r => (r.cause, r.value), t.events.alarm))
      (.frameArrives (claimFrame 1)) online = some (.silent, some (.numberClash, 1), true) := by decide +kernel

/-! ## Taking frames -/

def thrustRole : RoleMask := ⟨true, false, false, false⟩

def idSlot (n : Nat) (roles : RoleMask) (sector : Nat) : Slot IdBody := ⟨some ⟨n, roles, sector, 0, 0#16, .powerOn⟩, on⟩

def advanced (a : Nat) : ThrustBody := ⟨412, true, a, a, HoldCauses.empty, 2516, 7420, false, false, 0, 2516⟩

def engagedClaim (sector : Nat) : ClaimBody := ⟨412, 0, sector, .engaged, .none⟩

/-- A thrust station as its peers see it, ENGAGED, with an own ring advance. -/
def thrustPeer (n a : Nat) : StationEntry :=
  { StationEntry.absent with
    liveness := .live
    id := idSlot n thrustRole (n - 1)
    thrust := ⟨some (advanced a), on⟩
    claim := ⟨some (engagedClaim (n - 1)), on⟩ }

/-- The six thrust stations of section 3.6, station 6 at 8,988 (section 3.11). -/
def six : List StationEntry :=
  [thrustPeer 1 9004, thrustPeer 2 8998, thrustPeer 3 9001, thrustPeer 4 8996, thrustPeer 5 9003, thrustPeer 6 8988]

def withEntries (es : List StationEntry) (s : State) : State :=
  { s with table := (es.zipIdx 1).foldl (fun t e => t.putEntry e.2 e.1) s.table }

/-- Section 3.11 before its first event, seen from station 1. -/
def ring412 : State :=
  { withEntries six online with
    adv := { online.adv with
      stroke := 14950, base := 5946, advance := 9004, machineA := 8998, aRing := 8998, grease := 17, milestones := 3,
      rateBase := 8980 }
    muck := { online.muck with mMeas := 65610 } }

theorem witness_PeerBulletinFillsSlot :
    (heard ring412 [⟨6, .thrust (advanced 9000)⟩]).port.rx = ⟨6, .thrust (advanced 9000)⟩ :: [] ∧
      (1 ≤ 6 ∧ 6 ≤ 15 ∧ 6 ≠ ring412.boot.station) ∧ (Bulletin.thrust (advanced 9000)).code = 6 ∧
      (Bulletin.claim (engagedClaim 5)).code = 1 ∧ ring412.shoe.state ≠ .claiming := by
  decide +kernel

/-- Section 3.11, first row. -/
theorem test_bulletinTaken_advance :
    see (fun t => (t.adv.machineA, t.adv.aRing, t.adv.void, t.adv.mExp, t.adv.grease)) .bulletinTaken
      (heard ring412 [⟨6, .thrust (advanced 9000)⟩]) = some (9000, 9000, 2756790, 64077, 18) := by decide +kernel

/-- A frame of station 6 moves A_ring of `ring412`, which starts nothing and keeps the ring number. -/
theorem witness_AccountsStayTrue_change :
    StartsNothing .bulletinTaken (heard ring412 [⟨6, .thrust (advanced 9000)⟩]) ∧
      see (fun t => decide (t.adv.ring = ring412.adv.ring)) .bulletinTaken (heard ring412 [⟨6, .thrust (advanced 9000)⟩]) =
        some true :=
  ⟨startsNothing_of_plain rfl (by simp) (by simp), by decide +kernel⟩

/-- A grout station in the share, as its peers see it. -/
def groutPeer (n weight : Nat) : StationEntry :=
  { StationEntry.absent with
    liveness := .live
    id := idSlot n ⟨true, true, false, true⟩ (n - 1)
    grout := ⟨some ⟨412, weight, false, .injecting, 0, 0⟩, on⟩ }

/-- `ring412` with four lines of weight 1 beside the own of weight 2, W being 6, V 2,756,177. -/
def sharing : State :=
  { ring412 with
    table := ([(groutPeer 1 2, 1), (groutPeer 2 1, 2), (groutPeer 3 1, 3), (groutPeer 4 1, 4), (groutPeer 5 1, 5)] :
      List (StationEntry × Nat)).foldl (fun t e => t.putEntry e.2 e.1) ring412.table
    adv := { ring412.adv with void := 2756177 }
    grout := { ring412.grout with line := .injecting, phi := 1500, weight := 6, void := 2756177 } }

theorem witness_AccountsStayTrue_share :
    sharing.inShare = true ∧ 0 < sharing.cfg.weight ∧ sharing.holds .grout = true ∧ sharing.liveWeight = 6 ∧
      (ring412.inShare = false ∧ ∀ f ∈ (heard ring412 [⟨6, .thrust (advanced 9000)⟩]).port.rx, f.sender ≠ ring412.boot.station) ∧
      see (fun t => t.inShare) .bulletinTaken (heard ring412 [⟨6, .thrust (advanced 9000)⟩]) = some false ∧
      see (fun t => (t.inShare, decide (t.grout.weight = sharing.grout.weight), decide (0 < t.grout.weight))) .forget
        (heard sharing [serviceOf .forget 5]) = some (true, false, true) := by
  decide +kernel

/-- R114: with station 5 forgotten W is 5, and T is 2,756,177 × 1,500 × 2 / 5,000 = 1,653,706.2, rounded half up. -/
theorem test_target_follows_weight :
    see (fun t => (t.grout.weight, t.grout.target)) .forget (heard sharing [serviceOf .forget 5]) = some (5, 1653706) := by
  decide +kernel

def screwBodyOf (p : Nat) : ScrewBody := ⟨412, p, 0, 0, 1, false, false, false⟩

/-- Station 6, which its ID shows to hold SCREW, with its SCREW slot. -/
def screwPeer (p : Nat) (t : Timer) : StationEntry :=
  { StationEntry.absent with
    liveness := .live
    id := idSlot 6 ⟨false, false, false, true⟩ 15
    screw := ⟨some (screwBodyOf p), t⟩ }

/-- R33: a counted SCREW makes the reference FRESH at its pressure. -/
theorem test_reference_fresh :
    see (fun t => (t.table.refState, t.table.pRef, t.screwSource)) .bulletinTaken
      { heard online [⟨6, .screw (screwBodyOf 3600)⟩] with table := online.table.putEntry 6 (screwPeer 3500 .stopped) } =
      some (.fresh, 3600, some (screwBodyOf 3600)) := by
  decide +kernel

/-- A console entry without content in SETPOINT, its MODE current. -/
def noSetpoint : State :=
  { online with table := { online.table with mode := .hold, console := { online.table.console with setpoint := .empty } } }

theorem witness_SetpointFillsSlot :
    ((heard online [⟨0, .setpoint demand⟩]).port.rx = ⟨0, .setpoint demand⟩ :: [] ∧
      online.table.console.setpoint.content ≠ none) ∧
    (heard noSetpoint [⟨0, .setpoint demand⟩]).table.console.setpoint.content = none ∧ noSetpoint.consoleCurrent = true ∧
      noSetpoint.table.console.mode.content = some ⟨.excavate, 412⟩ := by
  decide +kernel

/-- R24: the first SETPOINT lets the mode of the current MODE take effect. -/
theorem test_first_setpoint :
    see (fun t => (t.table.mode, t.setpoint)) .bulletinTaken (heard noSetpoint [⟨0, .setpoint demand⟩]) =
      some (.excavate, demand) := by decide +kernel

def allRoles : RoleMask := ⟨true, true, true, true⟩

def idBody (n : Nat) (roles : RoleMask) (digest : Word16) : IdBody := ⟨n, roles, 0, 0, digest, .powerOn⟩

/-- The station of `online` with number `n`. -/
def numbered (n : Nat) (s : State) : State := { s with boot := { s.boot with station := n } }

theorem witness_IdIdentifiesEntry :
    (heard online [⟨2, .id (idBody 2 allRoles 1#16)⟩]).port.rx = ⟨2, .id (idBody 2 allRoles 1#16)⟩ :: [] ∧
      (1 ≤ 2 ∧ 2 ≤ 15 ∧ 2 ≠ online.boot.station) ∧ online.boot.station < 2 ∧
      (idBody 1 allRoles 1#16).digest ≠ (numbered 2 online).boot.digest ∧
      ((numbered 2 online).holds .screw && (idBody 1 ⟨false, true, true, false⟩ 0#16).roles.screw) = false ∧
      ((numbered 2 online).holds .thrust && (idBody 1 ⟨false, true, true, false⟩ 0#16).roles.thrust) = false := by
  decide +kernel

theorem test_idTaken_foreign :
    see (fun t => ((t.table.entry 2).foreign, t.events.flags)) .idTaken (heard online [⟨2, .id (idBody 2 allRoles 1#16)⟩]) =
      some (true, 0x2000#16) := by decide +kernel

theorem witness_LowerStationTakesRoles :
    (heard (numbered 2 online) [⟨1, .id (idBody 1 allRoles 0#16)⟩]).port.rx = ⟨1, .id (idBody 1 allRoles 0#16)⟩ :: [] ∧
      (1 ≤ 1 ∧ 1 < (numbered 2 online).boot.station ∧ (numbered 2 online).boot.station ≤ 15) ∧
      (idBody 1 allRoles 0#16).digest = (numbered 2 online).boot.digest ∧
      ((numbered 2 online).holds .screw && (idBody 1 allRoles 0#16).roles.screw) = true ∧
      ((numbered 2 online).holds .thrust && (numbered 2 online).cfg.sector == some (idBody 1 allRoles 0#16).sector) = true := by
  decide +kernel

/-- R171: ROLE_YIELDED and SECTOR_CLASH; SCREW, THRUST and GROUT are yielded, DRIVE is not. -/
theorem test_idTaken_yields :
    see (fun t => (t.boot.yielded, t.events.flags, t.grout.line)) .idTaken
      (heard (numbered 2 online) [⟨1, .id (idBody 1 allRoles 0#16)⟩]) =
      some (⟨true, true, false, true⟩, 0x1800#16, .off) := by decide +kernel

/-- A station in CLEAR during the build of ring 412, its claim not placed. -/
def building (st : ShoeState) : State :=
  { online with
    table := { online.table with mode := .build }
    shoe := { online.shoe with state := st, claim := some ⟨412, 1, 0, some 20946, false⟩ }
    adv := { online.adv with stroke := 20946, base := 5946 } }

def modeFrame (m : MachineMode) (ring : Nat) : RxFrame := ⟨0, .mode ⟨m, ring⟩⟩

theorem witness_ModeTakesEffect :
    ((heard (building .clear) [modeFrame .excavate 412]).port.rx = modeFrame .excavate 412 :: [] ∧
      (412 : Nat) = (building .clear).adv.ring ∧ (building .clear).table.console.setpoint.content ≠ none) ∧
    MachineMode.excavate.effective ≠ (building .clear).table.mode ∧ MachineMode.build.effective = (building .clear).table.mode ∧
      (building .clear).holds .screw = true ∧ (building .clear).shoeMoves = true ∧ (building .clear).faults.thrust = none := by
  decide +kernel

theorem witness_ModeTakesEffect_noSetpoint :
    (heard noSetpoint [modeFrame .excavate 412]).port.rx = modeFrame .excavate 412 :: [] ∧ (412 : Nat) = noSetpoint.adv.ring ∧
      noSetpoint.table.console.setpoint.content = none := by
  decide +kernel

/-- R102: a change away from BUILD aborts, and CLEAR goes to EXTENDING. -/
theorem test_modeTaken_aborts :
    see (fun t => (t.table.mode, t.shoe.state, t.muck.state)) .modeTaken
      (heard (building .clear) [modeFrame .excavate 412]) = some (.excavate, .extending, .blind) := by decide +kernel

/-- Section 7.11 before the close of ring 412: E is 15,765. -/
def closing : State :=
  { ring412 with
    table := { ring412.table with mode := .build }
    grout := { ring412.grout with
      line := .injecting, target := 2297325, delivered := 2293560, carry := 12000, deficit := 15765 } }

theorem witness_RingNumberClosesRing :
    ((heard closing [modeFrame .excavate 413]).port.rx = modeFrame .excavate 413 :: [] ∧ (413 : Nat) ≠ closing.adv.ring) ∧
      (closing.adv.ring < 413 ∧ 413 = closing.adv.ring + 1) ∧ closing.adv.ring + 1 < 414 ∧ 411 < closing.adv.ring ∧
      (closing.holds .grout = true ∧ closing.holds .screw = true ∧ closing.holds .thrust = true) ∧
      closing.grout.weight = closing.liveWeight ∧ closing.table.mode ≠ .excavate := by
  decide +kernel

/-- A MODE of ring 413 in EXCAVATE, E at 15,765, station 6 already 10 mm into ring 413. -/
def closingAhead : State :=
  { heard online [modeFrame .excavate 413] with
    table := online.table.putEntry 6 { thrustPeer 6 10 with thrust := ⟨some { advanced 10 with ring := 413 }, on⟩ }
    grout := { online.grout with line := .injecting, target := 20000, delivered := 5235, carry := 1000, deficit := 15765 } }

/-- The carry of a close in EXCAVATE, and a close with no peer in the new ring. -/
theorem witness_RingNumberClosesRing_excavate :
    closingAhead.table.mode = .excavate ∧ AccountsTrue closingAhead ∧ closingAhead.holds .grout = true ∧
      (∀ n ∈ stationNumbers, ((heard online [modeFrame .excavate 413]).table.entry n).thrust.content = none) ∧
      0 < closingAhead.cfg.balanceMin :=
  ⟨by decide +kernel,
    ⟨fun h => absurd (by decide +kernel : closingAhead.boot.phase = .done) h,
      fun _ h => absurd (by decide +kernel : closingAhead.contributingThrust = []) h, by decide +kernel, by decide +kernel,
      by decide +kernel, by decide +kernel⟩,
    by decide +kernel, by decide +kernel, by decide +kernel⟩

/-- R48: E is carried whole, then the peer of ring 413 moves A and A_ring to 10 (step 5). -/
theorem test_modeTaken_close_excavate :
    see (fun t => (t.adv.ring, t.grout.carry, t.adv.machineA, t.adv.aRing, t.adv.advance)) .modeTaken closingAhead =
      some (413, 15765, 10, 10, 0) := by decide +kernel

/-- Sections 3.11 and 7.11: one above closes with the carry 15,765; two above closes without and raises RING_JUMP; one below
only raises RING_BACKWARD. -/
theorem test_modeTaken_closes :
    see (fun t => (t.adv.ring, t.adv.base, t.grout.delivered, t.grout.carry, t.grout.deficit)) .modeTaken
      (heard closing [modeFrame .build 413]) = some (413, 14950, 0, 15765, 15765) := by decide +kernel

theorem test_modeTaken_jumps :
    see (fun t => (t.adv.ring, t.grout.carry, t.events.flags)) .modeTaken (heard closing [modeFrame .build 414]) =
        some (414, 0, 0x0400#16) ∧
      see (fun t => (t.adv.ring, t.grout.carry, t.events.flags)) .modeTaken (heard closing [modeFrame .build 411]) =
        some (412, 12000, 0x0200#16) := by decide +kernel

def buildFrame (phase : BuildPhase) : RxFrame := ⟨0, .build ⟨412, 1, 0, phase⟩⟩

/-- `building` with no claim yet. -/
def unclaimed : State := { building .engaged with shoe := online.shoe }

theorem witness_BuildStartsAndEndsClaim :
    ((heard unclaimed [buildFrame .place]).port.rx = buildFrame .place :: [] ∧ unclaimed.holds .thrust = true ∧
      unclaimed.events.stopped = false ∧ unclaimed.shoe.state = .engaged ∧ unclaimed.table.mode = .build) ∧
    (unclaimed.port.backbone = .online ∧ unclaimed.cfg.sector = some 0 ∧ unclaimed.adv.ring = 412 ∧
      unclaimed.shoe.lastServed < 1 ∧ 1 ∉ unclaimed.shoe.expired) ∧
    ((building .clear).shoeMoves = true ∧ (building .clear).shoe.state = .clear ∧
      (building .clear).shoe.claim = some ⟨412, 1, 0, some 20946, false⟩ ∧ (building .clear).faults.thrust = none) ∧
    { unclaimed with events := { unclaimed.events with stopped := true } }.events.stopped = true := by
  decide +kernel

/-- Section 6.11: PLACE makes ENGAGED CLAIMING with the hold-off 150 ms and the wait timer 30 s away; PLACED makes CLEAR
EXTENDING with the extend duty 38. -/
theorem test_buildTaken :
    see (fun t => (t.shoe.state, t.shoe.holdOff, t.shoe.waitTimer)) .buildTaken (heard unclaimed [buildFrame .place]) =
        some (.claiming, .running 1150000, .running 31000000) ∧
      see (fun t => (t.shoe.state, t.shoe.extend, (t.ch 0).pending)) .buildTaken
        (heard (building .clear) [buildFrame .placed]) = some (.extending, .running 21000000, 38) := by
  decide +kernel

/-- A claimant with an open gate on its extend valve. -/
def claiming : State :=
  { building .claiming with
    shoe := { (building .claiming).shoe with
      claim := some ⟨412, 1, 0, none, false⟩, holdOff := .running 1150000, waitTimer := .running 31000000 } }

/-- Station 2, the neighbour, retracts. -/
theorem witness_PeerBulletinFillsSlot_wait :
    (heard claiming [⟨2, .claim ⟨412, 1, 1, .retracting, .none⟩⟩]).port.rx =
        ⟨2, .claim ⟨412, 1, 1, .retracting, .none⟩⟩ :: [] ∧
      (1 ≤ 2 ∧ 2 ≤ 15 ∧ 2 ≠ claiming.boot.station) ∧ claiming.shoeMoves = true ∧ claiming.shoe.state = .claiming := by
  decide +kernel

/-- R96: the claim of the neighbour is the wait reason at once, the hold-off running on. -/
theorem test_bulletinTaken_wait :
    see (fun t => (t.shoe.state, t.shoe.wait, t.shoe.holdOff)) .bulletinTaken
      (heard claiming [⟨2, .claim ⟨412, 1, 1, .retracting, .none⟩⟩]) = some (.claiming, .adjacent, .running 1150000) := by
  decide +kernel

/-- A PLACED that only sets the flag, and BUILDs that only fill the slot. -/
theorem witness_BuildStartsAndEndsClaim_others :
    ((building .retracting).shoeMoves = true ∧ (building .retracting).shoe.claim = some ⟨412, 1, 0, some 20946, false⟩ ∧
      (building .extending).shoeMoves = true ∧ (building .extending).shoe.claim = some ⟨412, 1, 0, some 20946, false⟩) ∧
    ({ building .clear with
        faults := { online.faults with thrust := some ⟨.overpressure, 3700, 412, 1, 0⟩ } }.shoeMoves = true) ∧
    (joining 0).shoeMoves = false ∧ claiming.shoe.state = .claiming ∧ (1 : Nat) ≤ { unclaimed.shoe with lastServed := 1 }.lastServed ∧
      BuildPhase.place ≠ .placed := by
  decide +kernel

def stopFrame : RxFrame := ⟨6, .stop ⟨.localInput⟩⟩

theorem witness_StopTakenSetsLatch :
    ((heard claiming [stopFrame]).port.rx = stopFrame :: [] ∧ 6 ≤ 15 ∧ 6 ≠ claiming.boot.station) ∧
      claiming.events.stopped = false ∧ claiming.boot.accepted = true ∧ claiming.holds .screw = true ∧
      (claiming.mem.inFlight = none ∧ claiming.boot.phase = .done) ∧
      { claiming with mem := { claiming.mem with inFlight := some (.faultArea claiming.faults) } }.mem.inFlight ≠ none ∧
      { claiming with events := { claiming.events with stopped := true } }.events.stopped = true := by
  decide +kernel

/-- Section 10.4: STOPPED, a save, the gates shut and the shoes frozen with the wait timer's 30 s kept. -/
theorem test_stopTaken :
    see (fun t => (t.events.stopped, (t.ch 0).gate, t.shoe.state, t.shoe.holdOff, t.shoe.waitTimer)) .stopTaken
        (heard claiming [stopFrame]) = some (true, false, .claiming, .stopped, .paused 30000000) ∧
      (claiming.ch 0).gate = true ∧
      see (fun t => (t.mem.inFlight.isSome, t.mem.seq)) .stopTaken (heard claiming [stopFrame]) = some (true, 1) := by
  decide +kernel

/-! ## Services -/

/-- The THRUST record held with OVERPRESSURE, the shoe CLEAR, the condition present or not. -/
def overpressed (present : Bool) : State :=
  finish { building .clear with
    faults := { online.faults with thrust := some ⟨.overpressure, 3700, 412, 1, 0⟩ }
    thrust := { online.thrust with opPresent := present } }

def clearThrust : RxFrame := serviceOf .clearFault 1

theorem witness_ClearFaultDecides :
    ((heard (overpressed false) [clearThrust]).port.rx = clearThrust :: [] ∧ Job.ofCode 1 = some .thrust ∧
      (1 : Nat) = (overpressed false).boot.station) ∧
    (online.faults.get .thrust = none ∧ AtRest (heard online [clearThrust])) ∧
    ((overpressed true).faults.get .thrust = some ⟨.overpressure, 3700, 412, 1, 0⟩ ∧
      (overpressed true).stillPresent .thrust .overpressure = true) ∧
    (overpressed false).faults.get .thrust = some ⟨.overpressure, 3700, 412, 1, 0⟩ ∧
      (overpressed false).stillPresent .thrust .overpressure = false ∧ (overpressed false).shoe.state = .clear ∧
      (overpressed false).shoeMoves = true :=
  ⟨by decide +kernel, ⟨by decide +kernel, atRest_of_restsNow (by decide +kernel)⟩, by decide +kernel, by decide +kernel⟩

/-- R161, R106: cleared, the shoe goes to EXTENDING; refused while the condition is present. -/
theorem test_clearFault :
    see (fun t => (t.faults.thrust, t.shoe.state, t.events.flags)) .clearFault (heard (overpressed false) [clearThrust]) =
        some (none, .extending, 0#16) ∧
      see (fun t => (t.faults.thrust.isSome, t.shoe.state, t.events.flags)) .clearFault
        (heard (overpressed true) [clearThrust]) = some (true, .clear, 0x0001#16) := by
  decide +kernel

/-- The GROUT record held with LINE_BLOCKED, at rest in BUILD, E at 15,765. -/
def groutHeld : State :=
  finish { building .engaged with
    faults := { online.faults with grout := some ⟨.lineBlocked, 0, 412, 0, 0⟩ }
    grout := { online.grout with line := .fault, target := 20000, delivered := 5235, carry := 1000, deficit := 15765 } }

/-- A record of each of the other jobs, and the GROUT record at rest outside EXCAVATE. -/
theorem witness_ClearFaultDecides_grout :
    (heard groutHeld [serviceOf .clearFault 2]).port.rx = serviceOf .clearFault 2 :: [] ∧ Job.ofCode 2 = some .grout ∧
      groutHeld.faults.get .grout = some ⟨.lineBlocked, 0, 412, 0, 0⟩ ∧ groutHeld.stillPresent .grout .lineBlocked = false ∧
      groutHeld.holds .grout = true ∧ AtRest (heard groutHeld [serviceOf .clearFault 2]) ∧
      tableChanged (heard groutHeld [serviceOf .clearFault 2]) = heard groutHeld [serviceOf .clearFault 2] ∧
      groutHeld.table.mode ≠ .excavate :=
  ⟨rfl, rfl, by decide +kernel, by decide +kernel, by decide +kernel, atRest_of_restsNow (by decide +kernel), by decide +kernel,
    by decide +kernel⟩

/-- `sharing` with the own line in FAULT and published so, GROUT published on change. -/
def sharingFaulted : State :=
  { sharing with
    table := sharing.table.putEntry 1
      { groutPeer 1 2 with grout := ⟨some ⟨412, 2, false, .fault, 0, 0⟩, on⟩ }
    port := { sharing.port with pubTimer := sharing.port.pubTimer.put .grout on }
    faults := { online.faults with grout := some ⟨.lineBlocked, 0, 412, 0, 0⟩ }
    grout := { sharing.grout with line := .fault, weight := 4 } }

/-- R126, R161: the cleared line is IDLE though E is 15,765. R114, R118 (log 31): its published IDLE makes W 6, T is
2,756,177 × 1,500 × 2 / 6,000 = 1,378,088.5, rounded half up, and the new E decides the line. -/
theorem test_clearFault_grout :
    see (fun t => (t.faults.grout, t.grout.line, t.grout.deficit, t.grout.rate)) .clearFault
        (heard groutHeld [serviceOf .clearFault 2]) = some (none, .idle, 15765, 0) ∧
      see (fun t => (t.faults.grout, t.grout.line, t.grout.weight, t.grout.deficit, t.grout.rate)) .clearFault
        (heard sharingFaulted [serviceOf .clearFault 2]) = some (none, .injecting, 6, 1378089, 0) := by
  decide +kernel

/-- Every flag set, in BUILD. -/
def flagged : State := { building .engaged with events := ⟨0xFFFF#16, false, true⟩ }

theorem witness_ClearEventsClearsMask :
    (heard flagged [serviceOf .clearEvents 0x8001 0]).port.rx = serviceOf .clearEvents 0x8001 0 :: [] ∧
      flagged.table.mode ≠ .excavate := by
  decide +kernel

theorem witness_ClearEventsClearsMask_excavate :
    online.table.mode = .excavate ∧ AtRest (heard online [serviceOf .clearEvents 0x8001 0]) ∧
      tableChanged (heard online [serviceOf .clearEvents 0x8001 0]) = heard online [serviceOf .clearEvents 0x8001 0] :=
  ⟨by decide +kernel, atRest_of_restsNow (by decide +kernel), by decide +kernel⟩

theorem test_clearEvents :
    see (fun t => t.events.flags) .clearEvents (heard flagged [serviceOf .clearEvents 0x8001 0]) = some 0x7FFE#16 ∧
      see (fun t => t.events.flags) .clearEvents (heard flagged [serviceOf .clearEvents 0x8001 2]) = some 0xFFFF#16 := by
  decide +kernel

/-- `claiming` after a STOP of the console, its STOP current or expired. -/
def halted (current : Bool) : State :=
  { claiming with
    events := { claiming.events with stopped := true }
    table := { claiming.table with console := { claiming.table.console with
      stop := ⟨some ⟨.operator⟩, if current then on else .stopped⟩ } }
    shoe := { claiming.shoe with holdOff := .stopped, waitTimer := .paused 20000000 } }

theorem witness_ResumeDecides :
    ((heard (halted false) [serviceOf .resume 0]).port.rx = serviceOf .resume 0 :: []) ∧
    (online.events.stopped = false ∧ AtRest (heard online [serviceOf .resume 0])) ∧
    ((halted true).events.stopped = true ∧ (halted true).stopDemand = true) ∧
    ((halted false).events.stopped = true ∧ (halted false).pins.stopInput = false ∧ (halted false).stopDemand = false) ∧
    (halted false).shoeActs = true ∧ (halted false).table.mode = .build ∧ (halted false).port.backbone = .online ∧
      (halted false).holds .screw = true ∧
      { halted false with shoe := { (halted false).shoe with state := .retracting } }.shoe.state = .retracting :=
  ⟨by decide +kernel, ⟨by decide +kernel, atRest_of_restsNow (by decide +kernel)⟩, by decide +kernel, by decide +kernel,
    by decide +kernel⟩

/-- Section 10.4: the first RESUME is refused; the second resumes the claim with a whole hold-off and the kept wait time. -/
theorem test_resume :
    see (fun t => (t.events.stopped, t.events.flags)) .resume (heard (halted true) [serviceOf .resume 0]) =
        some (true, 0x0001#16) ∧
      see (fun t => (t.events.stopped, t.shoe.holdOff, t.shoe.waitTimer)) .resume (heard (halted false) [serviceOf .resume 0]) =
        some (false, .running 1150000, .running 21000000) := by
  decide +kernel

theorem witness_ForgetSaveAndUntargetedServices :
    ((heard ring412 [serviceOf .forget 6]).port.rx = serviceOf .forget 6 :: [] ∧ (1 ≤ 6 ∧ 6 ≤ 15) ∧
      (6 : Nat) ≠ ring412.boot.station ∧ (ring412.table.entry 6).liveness ≠ .absent) ∧
    AtRest (heard online [serviceOf .save 0]) ∧ online.boot.accepted = true :=
  ⟨by decide +kernel, atRest_of_restsNow (by decide +kernel), by decide +kernel⟩

theorem witness_ForgetSaveAndUntargetedServices_elsewhere :
    AtRest (heard online [serviceOf .resume 0 2]) ∧
      (heard online [serviceOf .resume 0 2]).port.rx = serviceOf .resume 0 2 :: [] ∧ (2 : Nat) ≠ online.boot.station ∧
      (2 : Nat) ≠ 0 :=
  ⟨atRest_of_restsNow (by decide +kernel), rfl, by decide +kernel, by decide⟩

theorem test_forget :
    see (fun t => ((t.table.entry 6).liveness, (t.table.entry 5).liveness)) .forget (heard ring412 [serviceOf .forget 6]) =
      some (.absent, .live) := by decide +kernel

/-- R172, R173: a save with the port free starts a write of the next sequence; with the port busy it is left pending. -/
theorem test_save :
    see (fun t => (t.mem.inFlight, t.mem.seq)) .save (heard online [serviceOf .save 0]) =
        some (some (.record (online.recordBytes 1)), 1) ∧
      see (fun t => (t.mem.inFlight, t.mem.recordPending)) .save
        { heard online [serviceOf .save 0] with mem := { online.mem with inFlight := some (.faultArea online.faults) } } =
        some (some (.faultArea online.faults), true) := by
  decide +kernel

/-! ## Timers of the table, the port and the advance unit -/

/-- Station 4 with only its THRUST slot left current. -/
def lastSlot : StationEntry :=
  { thrustPeer 4 8996 with
    id := { (thrustPeer 4 8996).id with currency := .stopped }, claim := { (thrustPeer 4 8996).claim with currency := .stopped } }

def lapsing : State := { ring412 with table := ring412.table.putEntry 4 lastSlot }

theorem witness_SlotExpiryLapses :
    ((1 ≤ 4 ∧ 4 ≤ 15) ∧ (4 : Nat) ≠ lapsing.boot.station ∧ ((lapsing.table.entry 4).currency .thrust).on = true ∧
      ((ring412.table.entry 4).currency .thrust).on = true) ∧
    online.table.console.mode.currency.on = true := by
  decide +kernel

/-- Section 3.11: station 4's slot expires, n is 5 and A 9,001; the entry lapses with its last slot. -/
theorem test_slotCurrencyExpiry :
    see (fun t => ((t.table.entry 4).liveness, t.adv.machineA, t.adv.aRing, t.adv.void, t.adv.mExp))
        (.slotCurrencyExpiry (.station 4 .thrust)) { ring412 with table := ring412.table.putEntry 6 (thrustPeer 6 9000) } =
        some (.live, 9001, 9001, 2757096, 64084) ∧
      see (fun t => ((t.table.entry 4).liveness, t.events.flags)) (.slotCurrencyExpiry (.station 4 .thrust)) lapsing =
        some (.lapsed, 0x8000#16) := by
  decide +kernel

/-- R54: in SILENT the slot stops being current and A stands. -/
theorem test_silent_advance_stands :
    see (fun t => (((t.table.entry 4).currency .thrust).on, t.adv.machineA, t.adv.aRing)) (.slotCurrencyExpiry (.station 4 .thrust))
      { ring412 with
        port := { ring412.port with backbone := .silent }, table := ring412.table.putEntry 6 (thrustPeer 6 9000) } =
      some (false, 8998, 8998) := by decide +kernel

theorem test_console_lapses :
    see (fun t => (t.table.mode, t.events.flags)) (.slotCurrencyExpiry (.console .mode)) online = some (.hold, 0x4000#16) := by
  decide +kernel

/-- R86: in SILENT the mode goes to HOLD and the thrust unit's regime stands, as it does not in ONLINE (R76). -/
theorem test_silent_thrust_stands :
    (let pushing (b : Backbone) : State :=
        { online with port := { online.port with backbone := b }, thrust := { online.thrust with regime := .push } };
      see (fun t => (t.table.mode, t.thrust.regime)) (.slotCurrencyExpiry (.console .mode)) (pushing .silent) = some (.hold, .push) ∧
        see (fun t => (t.table.mode, t.thrust.regime)) (.slotCurrencyExpiry (.console .mode)) (pushing .online) =
          some (.hold, .hold)) := by
  decide +kernel

/-- Station 6 gives the reference, 3,600. -/
def sourced : State :=
  { online with table := { online.table.putEntry 6 (screwPeer 3600 on) with refState := .fresh, pRef := 3600 } }

theorem witness_SlotExpiryLapses_stale :
    AtRest sourced ∧ ((sourced.table.entry 6).currency .screw).on = true ∧ (sourced.port.pubTimer.get .screw).on = false ∧
      sourced.table.refState = .fresh ∧
      { sourced with table := sourced.table.putEntry 6 ((sourced.table.entry 6).expire .screw) }.screwSource = none :=
  ⟨atRest_of_restsNow (by decide +kernel), by decide +kernel, by decide +kernel, by decide +kernel, by decide +kernel⟩

/-- R33: without its source the reference is STALE, held at 3,600, for ten lapse times of 300 ms. -/
theorem test_reference_stale :
    see (fun t => (t.table.refState, t.table.pRef, t.table.staleTimer)) (.slotCurrencyExpiry (.station 6 .screw)) sourced =
      some (.stale, 3600, .running 4000000) := by decide +kernel

/-- A station without the GROUT role whose reference is STALE. -/
def stale : State :=
  finish { base .online with
    cfg := { cfg with roles := thrustRole }
    table := { (base .online).table with refState := .stale, pRef := 3600, staleTimer := on } }

theorem witness_StaleAndRateExpiries :
    AtRest stale ∧ stale.table.staleTimer.on = true ∧ stale.screwSource = none ∧ (stale.port.pubTimer.get .screw).on = false ∧
      stale.table.pRef ≠ stale.cfg.pRefFallback ∧ online.adv.rateTimer.on = true :=
  ⟨atRest_of_restsNow (by decide +kernel), by decide +kernel, by decide +kernel, by decide +kernel, by decide +kernel,
    by decide +kernel⟩

theorem test_staleTimerExpiry :
    see (fun t => (t.table.refState, t.table.pRef)) .staleTimerExpiry stale = some (.fallback, 3500) := by decide +kernel

/-- Section 3.11: v = (9,000 - 8,980) × 60,000 / 2,000 = 600. -/
theorem test_rateTimerExpiry :
    see (fun t => (t.adv.rate, t.adv.rateBase, t.adv.rateTimer)) .rateTimerExpiry
      { ring412 with adv := { ring412.adv with aRing := 9000 } } = some (600, 9000, .running 3000000) := by decide +kernel

/-- Every publication timer running, the stop input active. -/
def publishing : State :=
  { online with
    port := { online.port with pubTimer := PerKind.all on }
    pins := { online.pins with stopInput := true } }

theorem witness_PublicationEnqueues :
    (publishing.port.pubTimer.get .drive).on = true ∧ (publishing.port.pubTimer.get .stop).on = true ∧
      publishing.onBackbone = true ∧ 1 ≤ publishing.boot.station ∧ publishing.boot.station ≤ 15 := by
  decide +kernel

/-- A current slot of the own entry, and of the console beside MODE. -/
theorem witness_SlotExpiryLapses_own :
    (1 ≤ sharing.boot.station ∧ sharing.boot.station ≤ 15 ∧ (sharing.ownEntry.currency .grout).on = true) ∧
      ConsoleSlot.setpoint ≠ .mode ∧ (online.table.console.currency .setpoint).on = true := by
  decide +kernel

theorem test_publicationTimerExpiry :
    see (fun t => (t.port.queue.map (·.body.code), t.ownEntry.drive.content, t.port.pubTimer.drive))
      (.publicationTimerExpiry .drive) publishing =
      some ([7], some ⟨.off, .cw, false, 0, 0, 0⟩, .running 1050000) := by decide +kernel

/-! ## Inputs -/

/-- The converter at input `i`. -/
def converting (i : Fin 12) (s : State) : State := { s with converting := some i }

/-- The shoe EXTENDING after a placed step of the own ring. -/
def extending : State :=
  { building .extending with
    shoe := { (building .extending).shoe with claim := some ⟨412, 1, 0, some 20946, true⟩, extend := .running 21000000 } }

theorem witness_ThrustSamplesTaken :
    ((converting 0 online).converting = some 0 ∧ online.scanned 0 = true ∧ (online.inCfg 0).rawMin ≤ (4095#12).toNat ∧
      (4095#12).toNat ≤ (online.inCfg 0).rawMax ∧ (online.inCfg 0).function = .stroke) ∧
    online.shoe.state ≠ .retracting ∧
    ((building .retracting).shoeMoves = true ∧ (building .retracting).shoe.placed = false ∧
      clampToNat 0 22000 (scaledValue (online.inCfg 0) (4095#12).toNat) ≤ (building .retracting).retractTarget) ∧
    (extending.scanned 1 = true ∧ (extending.inCfg 1).function = .groupPressure ∧ extending.shoeMoves = true ∧
      extending.shoe.decisionPending = false ∧
      extending.cfg.pShoe ≤ clampToNat 0 4000 (scaledValue (extending.inCfg 1) (150#12).toNat)) := by
  decide +kernel

/-- The shoe EXTENDING with the start decision pending, as a start leaves it (R109). -/
def deciding : State := { online with shoe := Shoe.start false }

theorem witness_ThrustSamplesTaken_decision :
    ((converting 1 deciding).converting = some 1 ∧ deciding.scanned 1 = true ∧ (deciding.inCfg 1).function = .groupPressure ∧
      (deciding.inCfg 1).rawMin ≤ (149#12).toNat ∧ (150#12).toNat ≤ (deciding.inCfg 1).rawMax ∧
      deciding.shoe.decisionPending = true) ∧
    (deciding.cfg.pShoe ≤ clampToNat 0 4000 (scaledValue (deciding.inCfg 1) (150#12).toNat) ∧
      clampToNat 0 4000 (scaledValue (deciding.inCfg 1) (149#12).toNat) < deciding.cfg.pShoe) ∧
    online.shoe.decisionPending = false ∧ online.shoe.state ≠ .extending := by
  decide +kernel

/-- A step placed while the shoe still retracts, and a shoe at its target that may not move. -/
theorem witness_ThrustSamplesTaken_placed :
    (let s := { building .retracting with
        shoe := { (building .retracting).shoe with claim := some ⟨412, 1, 0, some 20946, true⟩ } };
      s.shoeMoves = true ∧ s.shoe.state = .retracting ∧ s.shoe.placed = true ∧
        clampToNat 0 22000 (scaledValue (s.inCfg 0) (4095#12).toNat) ≤ s.retractTarget) ∧
    { building .retracting with events := { online.events with stopped := true } }.shoeMoves = false ∧
    { extending with port := { extending.port with backbone := .joining } }.shoeMoves = false := by
  decide +kernel

/-- R109: at p_shoe of 150 the group is ENGAGED and seated; below it goes on extending, in JOINING without its timer. -/
theorem test_conversionComplete_decision :
    see (fun t => (t.shoe.state, t.shoe.decisionPending, t.thrust.pSet)) (.conversionComplete 150#12) (converting 1 deciding) =
        some (.engaged, false, 150) ∧
      see (fun t => (t.shoe.state, t.shoe.decisionPending, t.shoe.extend.on)) (.conversionComplete 149#12)
        (converting 1 deciding) = some (.extending, false, true) ∧
      see (fun t => (t.shoe.state, t.shoe.decisionPending, t.shoe.extend.on)) (.conversionComplete 149#12)
        (converting 1 { deciding with port := { deciding.port with backbone := .joining } }) =
        some (.extending, false, false) := by
  decide +kernel

/-- R98, R100, R83: the stroke at the retract target makes CLEAR; the pressure at p_shoe completes and serves the step. -/
theorem test_conversionComplete_shoe :
    see (fun t => (t.adv.stroke, t.shoe.state, t.converting)) (.conversionComplete 4095#12) (converting 0 (building .retracting)) =
        some (4095, .clear, some 1) ∧
      see (fun t => (t.shoe.state, t.shoe.lastServed, t.shoe.claim, t.thrust.pSet)) (.conversionComplete 150#12)
        (converting 1 extending) = some (.engaged, 1, none, 150) := by
  decide +kernel

/-- Section 8.9: three chamber cells, the screw RUNNING. -/
def cells (x y z : ChamberInput) (p : Nat) (integ : Int) : State :=
  { online with
    adv := { online.adv with rate := 600 }
    muck := { online.muck with
      chamber1 := x, chamber2 := y, chamber3 := z, pCh := p, blind := false, state := .running, nFf := 720, integ := integ
      nCmd := 768, nOut := 768 } }

def oneCell : State := cells (.valid 3480) .failed .failed 3480 45000

/-- A torque, a line pressure and a chamber conversion, the last with no, one and two other inputs valid. -/
theorem witness_TorqueLineAndChamberSamplesTaken :
    ((converting 6 online).converting = some 6 ∧ online.scanned 6 = true ∧ (online.inCfg 6).function = .torqueA ∧
      (online.inCfg 6).rawMin ≤ (900#12).toNat ∧ (900#12).toNat ≤ (online.inCfg 6).rawMax) ∧
    (online.scanned 2 = true ∧ (online.inCfg 2).function = .linePressure ∧ (online.inCfg 2).rawMin ≤ (900#12).toNat ∧
      (900#12).toNat ≤ (online.inCfg 2).rawMax) ∧
    (oneCell.scanned 4 = true ∧ isChamber (oneCell.inCfg 4).function = true ∧ oneCell.muck.otherValues .chamber2 = [3480] ∧
      oneCell.muck.otherValues .chamber1 = [] ∧ oneCell.muck.chamber .chamber1 ≠ .failed ∧
      (cells (.valid 3480) (.valid 3530) (.valid 3512) 3512 0).muck.otherValues .chamber3 = [3480, 3530]) ∧
    (oneCell.muck.blind = false ∧ online.muck.blind = true ∧ oneCell.holds .screw = true ∧ oneCell.faults.screw = none ∧
      oneCell.events.stopped = false ∧ oneCell.table.mode = .excavate) := by
  decide +kernel

/-- R111, R119: 4,095 is below the band's start of 5,100; and with two more inputs failed the sample of one sees again (R134). -/
theorem test_conversionComplete_line :
    see (fun t => (t.grout.pressure, t.grout.pressureValid, t.grout.derate)) (.conversionComplete 4095#12) (converting 2 online) =
        some (4095, true, false) ∧
      see (fun t => (t.muck.pCh, t.muck.blind, t.muck.state)) (.conversionComplete 3500#12) (converting 4 online) =
        some (3500, false, .running) := by
  decide +kernel

/-- The cells of section 8.9 with a range that 4,095 lies outside. -/
def ranged (s : State) : State :=
  { s with cfg := { s.cfg with inputs := Vector.ofFn fun i => { s.cfg.inputs[i] with rawMax := 4000 } } }

/-- A chamber conversion that fails, with no other input valid and with one. -/
theorem witness_failed_conversions :
    (ranged oneCell).scanned 3 = true ∧ ¬(4095#12).toNat ≤ ((ranged oneCell).inCfg 3).rawMax ∧
      (ranged oneCell).muck.otherValues .chamber1 = [] ∧ (ranged oneCell).scanned 5 = true ∧
      (ranged oneCell).muck.otherValues .chamber3 = [3480] := by
  decide +kernel

theorem witness_FailedSampleHoldsValue :
    ((converting 0 (ranged online)).converting = some 0 ∧ (ranged online).scanned 0 = true ∧
      ¬(4001#12).toNat ≤ ((ranged online).inCfg 0).rawMax ∧ ((ranged online).inCfg 0).function = .stroke ∧
      ((ranged online).inCfg 1).function = .groupPressure) ∧
    ((ranged online).inCfg 2).function = .linePressure ∧ (online.scanned 11 = false ∧ (converting 11 online).converting = some 11) := by
  decide +kernel

/-- Section 8.9: the cell at 3,530 fails; the mean of 3,480 and 3,512 is 3,496 and CHAMBER_DEGRADED is raised. -/
theorem test_conversionComplete_chamber :
    see (fun t => (t.muck.pCh, t.muck.blind, t.events.flags)) (.conversionComplete 4095#12)
        (converting 4 (ranged (cells (.valid 3480) (.valid 3530) (.valid 3512) 3512 45240))) =
        some (3496, false, 0x0010#16) ∧
      see (fun t => (t.muck.pCh, t.muck.blind, t.muck.state)) (.conversionComplete 4095#12) (converting 3 (ranged oneCell)) =
        some (3480, true, .blind) := by
  decide +kernel

/-! ## Faults of the jobs -/

/-- Every timer that can raise a fault is running. -/
def confirming : State :=
  { online with
    drive := { online.drive with stallTimer := on, tau := 960 }
    thrust := { online.thrust with opTimer := on, pressure := 3700 }
    shoe := { online.shoe with retract := on, extend := on }
    adv := { online.adv with stroke := 20500 }
    grout := { online.grout with blockedTimer := on, opTimer := on, rate := 70, pressure := 7700 }
    muck := { online.muck with stallTimer := on, fbTimer := on, nOut := 768, nS := 30 }
    inputs := Vector.replicate 12 ⟨1234, .failed, on⟩ }

/-- CLAIM shown as CLEAR already, its timer running, in ONLINE and, with the timer stopped, in JOINING. -/
def clearShown (backbone : Backbone) (timer : Timer) : State :=
  let s := { confirming with
    shoe := { confirming.shoe with state := .clear }
    port := { confirming.port with backbone := backbone, pubTimer := confirming.port.pubTimer.put .claim timer } }
  markSeen .claim s

theorem witness_ExpiriesRaiseFaults :
    (confirming.drive.stallTimer.on = true ∧ confirming.thrust.opTimer.on = true ∧ confirming.shoe.retract.on = true ∧
      confirming.shoe.extend.on = true ∧ confirming.grout.blockedTimer.on = true) ∧
    (confirming.grout.opTimer.on = true ∧ confirming.muck.stallTimer.on = true ∧ confirming.muck.fbTimer.on = true ∧
      (∀ i, (confirming.inRec i).holdTimer.on = true)) ∧
    confirming.faults = FaultRecords.empty ∧
      (clearShown .online on).onBackbone = true ∧ (clearShown .online on).port.pubTimer.claim.on = true ∧
      (clearShown .online on).thrust.opTimer.on = true ∧ (clearShown .online on).faults.thrust = none ∧ (confirming.inCfg 1).function = .groupPressure ∧
      (confirming.inCfg 2).function = .linePressure ∧ (confirming.inCfg 6).function = .torqueA := by
  decide +kernel

/-- A further fault on a held record, below its last count and at it. -/
theorem witness_ExpiriesRaiseFaults_again :
    ((troubled 254).drive.stallTimer.on = true ∧ (troubled 254).faults.get .drive = some (stallRecord 254) ∧
      (stallRecord 254).later ≤ 255) ∧
    ((troubled 255).faults.get .drive = some (stallRecord 255) ∧ (stallRecord 255).later ≤ 255) ∧
      (troubled 255).drive.state = .fault ∧ (troubled 255).drive.nSet = 0 ∧ (troubled 255).drive.cmd = 0 := by
  decide +kernel

def causeOf (j : Job) (c : Instr) : Option (Option (FaultCause × Int)) :=
  see (fun t => (t.faults.get j).map fun r => (r.cause, r.value)) c confirming

/-- The cause and the value recorded, by the tables of sections 4.6, 5.10, 6.7, 7.9 and 8.7. -/
theorem test_drive_and_thrust_faults :
    causeOf .drive .driveStallTimerExpiry = some (some (.stall, 960)) ∧
      causeOf .thrust .thrustOverpressureExpiry = some (some (.overpressure, 3700)) ∧
      causeOf .thrust .retractTimerExpiry = some (some (.retractTimeout, 20500)) ∧
      causeOf .thrust .extendTimerExpiry = some (some (.extendTimeout, 3700)) := by
  decide +kernel

/-- R105: a first fault in CLEAR publishes CLAIM once more; in JOINING CLAIM is not published (log 34). -/
theorem test_thrust_fault_publishes_claim :
    (clearShown .online on).changeDue .claim = false ∧
      see (fun t => t.port.queue.map (·.body)) .thrustOverpressureExpiry (clearShown .online on) =
        some [.claim ⟨412, 0, 0, .clear, .none⟩] ∧
      see (fun t => t.port.queue) .thrustOverpressureExpiry (clearShown .joining .stopped) = some [] := by
  decide +kernel

theorem test_grout_and_screw_faults :
    causeOf .grout .blockedTimerExpiry = some (some (.lineBlocked, 70)) ∧
      causeOf .grout .groutOverpressureExpiry = some (some (.overpressure, 7700)) ∧
      causeOf .screw .screwStallTimerExpiry = some (some (.screwStall, 768)) ∧
      causeOf .screw .feedbackTimerExpiry = some (some (.inputLost, 30)) := by
  decide +kernel

theorem test_inputHoldExpiry :
    causeOf .thrust (.inputHoldExpiry 0) = some (some (.inputLost, 1234)) ∧
      causeOf .drive (.inputHoldExpiry 6) = some (some (.inputLost, 1234)) := by
  decide +kernel

/-! ## Evaluations -/

def drivePeer (n tau : Nat) : StationEntry :=
  { StationEntry.absent with
    liveness := .live
    id := idSlot n ⟨false, false, true, false⟩ 15
    drive := ⟨some ⟨.running, .cw, false, 250, tau, 250⟩, on⟩ }

/-- Section 4.5: drives with the torques given, seen from station 1, RUNNING at n_set 250. -/
def driving (taus : List Nat) (tau : Nat) : State :=
  { withEntries ((taus.zipIdx 1).map fun x => drivePeer x.2 x.1) online with
    drive := { online.drive with state := .running, nSet := 250, tau := tau, nFb := 250 } }

theorem witness_DriveEvaluated : (driving [700, 640, 610] 700).drive.evalTimer.on = true := by decide +kernel

/-- Section 4.5: three drives, then one alone below the quorum. -/
theorem test_driveEvaluation :
    see (fun t => (t.drive.tauMean, t.drive.trim, t.drive.cmd, (t.ch 2).pending)) .driveEvaluation
        (driving [700, 640, 610] 700) = some (650, -5, 245, 613) ∧
      see (fun t => (t.drive.state, t.drive.tauMean, t.drive.trim, t.drive.cmd, (t.ch 2).pending)) .driveEvaluation
        (driving [905] 905) = some (.stopping, 905, 0, 249, 623) := by
  decide +kernel

/-- Section 5.8's station of sector 0 in PUSH with a setpoint 16 below its target; section 5.9's in HOLD at its 69th step. -/
def thrusting (mode : EffMode) (pSet : Nat) : State :=
  { withEntries six online with
    table := { (withEntries six online).table with mode := mode }
    thrust := { online.thrust with pSet := pSet } }

theorem witness_ThrustEvaluated : (thrusting .excavate 2500).thrust.evalTimer.on = true := by decide +kernel

theorem test_thrustEvaluation :
    see (fun t => (t.thrust.force, t.thrust.pPush, t.thrust.pSet, (t.ch 0).pending)) .thrustEvaluation (thrusting .excavate 2500) =
        some (5333, 2516, 2516, 629) ∧
      see (fun t => (t.thrust.fReq, t.thrust.pHold, t.thrust.pSet, t.thrust.seated, (t.ch 0).pending)) .thrustEvaluation
        (thrusting .hold 1156) = some (14587, 1147, 1147, true, 287) := by
  decide +kernel

/-- A claimant among six engaged groups (section 6.11), or with station 2's CLAIM showing EXTENDING (section 2.5). -/
def waiting (blocked : Bool) : State :=
  { withEntries six claiming with
    table := if blocked then
        (withEntries six claiming).table.putEntry 2
          { thrustPeer 2 8998 with claim := ⟨some ⟨412, 1, 1, .extending, .none⟩, .stopped⟩ }
      else (withEntries six claiming).table
    thrust := { claiming.thrust with fReq := 14587 } }

theorem witness_ClaimTimersDecide :
    (∀ b, (waiting b).shoe.holdOff.on = true ∧ (waiting b).shoe.state = .claiming ∧ (waiting b).shoe.waitTimer.on = true ∧
      (waiting b).shoe.claim = some ⟨412, 1, 0, none, false⟩) ∧
    (1 ≤ (waiting true).neighbourBlock) ∧
    (waiting false).neighbourBlock = 0 ∧ (waiting false).retractedCount = 0 ∧ (waiting false).priorityBlock = false ∧
      (waiting false).thrust.fReq ≤ (waiting false).engagedCeilingSum ∧ 0 < (waiting false).adv.stroke ∧
      0 < (waiting false).cfg.retractClearance := by
  decide +kernel

/-- Section 6.11: with every test passed the stroke at entry is 20,946 and the retract duty 600; with station 2 lapsed-stuck the
claim waits with ADJACENT. -/
theorem test_holdOffExpiry :
    see (fun t => (t.shoe.state, t.retractTarget, (t.ch 0).pending, (t.ch 1).pending)) .holdOffExpiry (waiting false) =
        some (.retracting, 20146, 0, 600) ∧
      see (fun t => (t.shoe.state, t.shoe.wait, t.shoe.holdOff)) .holdOffExpiry (waiting true) =
        some (.claiming, .adjacent, .running 1150000) := by
  decide +kernel

theorem test_waitTimerExpiry :
    see (fun t => (t.shoe.state, t.shoe.expired, t.shoe.lastServed, t.events.flags)) .waitTimerExpiry (waiting true) =
      some (.engaged, [1], 0, 0x0100#16) := by decide +kernel

/-- Section 7.11, row 1. -/
def grouting : State :=
  finish { base .online with
    grout := { (base .online).grout with
      line := .limited, phi := 1500, target := 1378395, delivered := 1324800, carry := 12000, deficit := 65595
      pressure := 5600, derate := true, weight := 6 } }

theorem witness_GroutEvaluated :
    AtRest grouting ∧ (grouting.grout.evalTimer.on = true ∧ grouting.grout.line = .limited) ∧
      grouting.lineTable = grouting.grout.line ∧
      grouting.grout.phi = grouting.setpoint.fill + (if grouting.overdigBoost then grouting.cfg.overdigBoost else 0) ∧
      (grouting.grout.capLo = bandLow grouting.cfg grouting.table.pRef ∧
        grouting.grout.capHi = bandHigh grouting.cfg grouting.table.pRef) ∧
      grouting.grout.derate = decide (grouting.grout.capLo < grouting.grout.pressure) :=
  ⟨atRest_of_restsNow (by decide +kernel), by decide +kernel, by decide +kernel, by decide +kernel, by decide +kernel,
    by decide +kernel⟩

/-- Any line of the GROUT role: OFF, and in FAULT. -/
theorem witness_GroutEvaluated_line :
    (online.grout.evalTimer.on = true ∧ online.holds .grout = true ∧ online.grout.line = .off ∧
      isNext (exec .groutEvaluation online) = true) ∧
    groutHeld.grout.evalTimer.on = true ∧ groutHeld.holds .grout = true ∧ groutHeld.grout.line = .fault ∧
      isNext (exec .groutEvaluation groutHeld) = true := by
  decide +kernel

theorem test_groutEvaluation :
    see (fun t => (t.grout.rate, (t.ch 4).pending, t.grout.capLo, t.grout.capHi)) .groutEvaluation grouting =
      some (70, 175, 5100, 6100) := by decide +kernel

/-- R123: the rate of 70 with the gate open makes the blocked condition present, its timer started with 10 s. -/
theorem test_groutEvaluation_blocked :
    see (fun t => (t.grout.blockedPresent, t.grout.blockedTimer)) .groutEvaluation grouting =
      some (true, .running 11000000) := by decide +kernel

/-- `grouting` after that evaluation, and a state whose condition is still present at a timer's expiry. -/
theorem witness_ConditionTimersFollow_change :
    ConditionsWatched grouting ∧ StartsNothing .groutEvaluation grouting ∧ ∃ t, exec .groutEvaluation grouting = .next t :=
  ⟨⟨by decide +kernel, by decide +kernel, by decide +kernel, by decide +kernel, by decide +kernel,
    fun h => absurd (by decide +kernel : grouting.boot.phase = .done) h⟩,
    startsNothing_of_plain rfl (by simp) (by simp), next_of_isNext (by decide +kernel)⟩

/-- Section 8.9, first row: three cells at 3,480, 3,530 and 3,512. -/
def screwing : State := cells (.valid 3480) (.valid 3530) (.valid 3512) 3512 45000

theorem witness_ScrewEvaluated : screwing.muck.evalTimer.on = true ∧ screwing.holds .screw = true := by decide +kernel

theorem test_screwEvaluation :
    see (fun t => (t.muck.state, t.muck.integ, t.muck.nCmd, t.muck.nOut, (t.ch 6).pending)) .screwEvaluation screwing =
        some (.running, 45240, 771, 771, 308) ∧
      see (fun t => (t.muck.state, t.muck.integ, t.muck.nCmd, t.muck.nOut, (t.ch 6).pending)) .screwEvaluation
        { screwing with muck := { screwing.muck with blind := true, integ := 45400, nCmd := 771, nOut := 771 } } =
        some (.blind, 45400, 720, 751, 300) := by
  decide +kernel

/-- R135: e is 3,512 - 3,500 in RUNNING, and OFF leaves both e and n_ff as they were. -/
theorem test_screwEvaluation_error :
    see (fun t => (t.muck.err, t.muck.nFf)) .screwEvaluation screwing = some (12, 720) ∧
      see (fun t => (t.muck.state, t.muck.err, t.muck.nFf)) .screwEvaluation
        { screwing with
          table := { screwing.table with mode := .standby }
          muck := { screwing.muck with err := 77, nFf := 55 } } = some (.off, 77, 55) := by
  decide +kernel

/-- The screw RUNNING at duty 308, its output shut while the console is current. -/
def openedByLapse : State :=
  finish { screwing with
    cfg := { cfg with
      guard1 := { cond := .consoleCurrent, invert := true }
      channels := cfg.channels.set 6 { ch .screwSpeedOut with guard := .g1 } }
    channels := screwing.channels.set 6 { screwing.ch 6 with pending := 308 } }

/-- R24, R158 (log 33): the lapse of the console takes the screw OFF, and the gate that it opens starts its period with duty 0. -/
theorem test_slotCurrencyExpiry_opens :
    (openedByLapse.ch 6).gate = false ∧
      see (fun t => (t.muck.state, (t.ch 6).gate, (t.ch 6).pending, (t.ch 6).active)) (.slotCurrencyExpiry (.console .mode))
        openedByLapse = some (.off, true, 0, 0) := by
  decide +kernel

/-! ## Channels -/

/-- Channel 0 with its gate open and a pending duty. -/
def driven (duty : Nat) : State :=
  { online with channels := online.channels.set 0 { online.ch 0 with
      pending := duty, periodTimer := .running 1000000, activeTimer := .running 1000000, high := true } }

theorem witness_DutyPeriodsRun :
    AtRest (driven 629) ∧ ((driven 629).ch 0).periodTimer.on = true ∧ ((driven 629).ch 0).activeTimer.on = true :=
  ⟨atRest_of_restsNow (by decide +kernel), by decide +kernel, by decide +kernel⟩

/-- Section 9.6: 629 thousandths of 2,000 µs are 1,258 µs; a duty of 1,000 has no end within the period, and 0 no active time. -/
theorem test_periodBoundary :
    see (fun t => ((t.ch 0).high, (t.ch 0).activeTimer, (t.ch 0).periodTimer)) (.periodBoundary 0) (driven 629) =
        some (true, .running 1001258, .running 1002000) ∧
      see (fun t => ((t.ch 0).high, (t.ch 0).activeTimer)) (.periodBoundary 0) (driven 1000) = some (true, .stopped) ∧
      see (fun t => ((t.ch 0).high, (t.ch 0).activeTimer)) (.periodBoundary 0) (driven 0) = some (false, .stopped) := by
  decide +kernel

theorem test_activeTimeEnd :
    see (fun t => ((t.ch 0).high, (t.ch 0).activeTimer, (t.ch 0).periodTimer)) (.activeTimeEnd 0) (driven 629) =
      some (false, .stopped, .running 1000000) := by decide +kernel

/-- Channel `i` with a capture. -/
def captured (i : Fin 8) (t0 : Option Nat) (s : State) : State :=
  { s with channels := s.channels.set i { s.ch i with capture := t0 } }

theorem witness_EdgesAreCounted :
    (online.boot.accepted = true ∧ online.boot.phase = .done ∧ online.watcher 0 = some 3 ∧ online.watcher 1 = some 5 ∧
      online.watcher 2 = some 7) ∧
    ((online.chCfg 3).function = .driveSpeedIn ∧ (online.chCfg 5).function = .groutStroke ∧
      (online.chCfg 7).function = .scalePulse) ∧
    ((online.chCfg 3).edge.qualifies true = true ∧ (online.chCfg 3).edge.qualifies false = false ∧ (online.ch 3).capture = none) ∧
    ((captured 3 (some 999000) online).ch 3).capture = some 999000 ∧
      (online.chCfg 3).minInterval ≤ max online.now 1000000 - 999000 ∧
      clampNat 0 65535 (6000000000 / ((max online.now 1000000 - 600000) * online.cfg.pulsesPerRev)) ≤
        online.cfg.speedMax + online.cfg.overspeedMargin := by
  decide +kernel

/-- Section 3.11's ring with the balance examined. -/
theorem witness_EdgesAreCounted_scale :
    ring412.watcher 2 = some 7 ∧ (ring412.chCfg 7).edge.qualifies true = true ∧ (ring412.ch 7).capture = none ∧
      ring412.boot.phase = .done ∧
      see (fun t => decide (ring412.cfg.balanceMin ≤ t.adv.aRing ∧ 0 < t.muck.mExp)) (.channelEdge 2 true 1000000)
        { ring412 with muck := { ring412.muck with mExp := 64063 } } = some true := by
  decide +kernel

/-- R141: one more pulse of 10 kg makes M_meas 65,620 and B = 65,620,000 / 64,063 = 1,024. -/
theorem test_channelEdge_scale :
    see (fun t => (t.muck.mMeas, t.muck.balance, t.muck.overdig)) (.channelEdge 2 true 1000000)
      { ring412 with muck := { ring412.muck with mExp := 64063 } } = some (65620, 1024, false) := by
  decide +kernel

/-- `online` with its period input mapped to SCREW_SPEED_IN, an edge 400,000 µs ago, the stall timer running. -/
def screwTurning : State :=
  captured 3 (some 600000)
    { online with
      cfg := { online.cfg with channels := online.cfg.channels.set 3 { ch .screwSpeedIn with pin := 0 } }
      muck := { online.muck with nOut := 768, stallPresent := true, stallTimer := .running 1500000 } }

theorem witness_EdgesAreCounted_periods :
    (screwTurning.watcher 0 = some 3 ∧ (screwTurning.chCfg 3).function = .screwSpeedIn ∧
      (screwTurning.ch 3).capture = some 600000 ∧ (screwTurning.chCfg 3).minInterval ≤ 400000 ∧
      screwTurning.muck.stallTimer.on = true) ∧
    ((captured 3 (some 999000) online).drive.overspeed = false ∧ online.faults.get .drive = none ∧
      online.cfg.speedMax + online.cfg.overspeedMargin <
        clampNat 0 65535 (6000000000 / ((1000000 - 999000) * online.cfg.pulsesPerRev))) := by
  decide +kernel

/-- R139: 400,000 µs with 12 pulses a turn are 12.50 rpm, and the stall timer runs anew. R69: an edge after 1,000 µs is a speed
above every limit: OVERSPEED, the drive in FAULT. -/
theorem test_channelEdge_periods :
    see (fun t => (t.muck.nS, t.muck.stallTimer, (t.ch 3).capture)) (.channelEdge 0 true 1000000) screwTurning =
        some (1250, .running 6000000, some 1000000) ∧
      see (fun t => (t.drive.nFb, t.drive.state, t.faults.drive.map fun r => (r.cause, r.value))) (.channelEdge 0 true 1000000)
        (captured 3 (some 999000) online) = some (65535, .fault, some (.overspeed, 65535)) := by
  decide +kernel

/-- Section 9.7: 400,000 µs are 2.50 rpm, and a bounce after 400 µs is ignored. -/
theorem test_channelEdge_speed :
    see (fun t => (t.drive.nFb, (t.ch 3).capture, (t.ch 3).timeoutTimer)) (.channelEdge 0 true 1000000)
        (captured 3 (some 600000) online) = some (250, some 1000000, .running 2000000) ∧
      see (fun t => (t.drive.nFb, (t.ch 3).capture)) (.channelEdge 0 true 1000400) (captured 3 (some 1000000) online) =
        some (0, some 1000000) := by
  decide +kernel

/-- Section 7.11, row 2: one counted stroke makes D 1,333,080 and E 57,315. -/
theorem test_channelEdge_stroke :
    see (fun t => (t.grout.delivered, t.grout.deficit)) (.channelEdge 1 true 1000000) grouting = some (1333080, 57315) := by
  decide +kernel

/-- A stroke that changes E, of a balanced line in the GROUT role with its accounts in range. -/
theorem witness_DeficitStaysBalanced_change :
    DeficitBalanced grouting ∧ grouting.grout.delivered ≤ 2000000000 ∧ grouting.grout.carry.natAbs ≤ 1000000 ∧
      grouting.grout.target ≤ 43253100 ∧
      StartsNothing (.channelEdge 1 true 1000000) grouting ∧
      see (fun t => (decide (t.grout.deficit = grouting.grout.deficit), t.holds .grout, t.grout.line)) (.channelEdge 1 true 1000000)
        grouting = some (false, true, .limited) :=
  ⟨by unfold DeficitBalanced; decide +kernel, by decide +kernel, by decide +kernel, by decide +kernel,
    startsNothing_of_plain rfl (by simp) (by simp), by decide +kernel⟩

/-- A counted stroke of a line whose blocked timer runs and whose condition stands afterwards. -/
theorem witness_EdgesAreCounted_blocked :
    (let s := { grouting with grout := { grouting.grout with
        rate := 70, blockedPresent := true, blockedTimer := .running 1500000 } };
      s.boot.accepted = true ∧ s.watcher 1 = some 5 ∧ (s.chCfg 5).edge.qualifies true = true ∧ (s.ch 5).capture = none ∧
        (s.chCfg 5).function = .groutStroke ∧ s.boot.phase = .done ∧ s.grout.blockedTimer.on = true ∧
        see (fun t => t.grout.blockedPresent) (.channelEdge 1 true 1000000) s = some true) := by
  decide +kernel

/-- `online` while the ring record is read: the configuration is accepted, the restore still to come. -/
def beforeRestore : State := { online with boot := { online.boot with phase := .readingRecord } }

theorem witness_EdgesAreCounted_beforeRestore :
    (beforeRestore.boot.accepted = true ∧ beforeRestore.boot.phase ≠ .done) ∧
    (beforeRestore.watcher 1 = some 5 ∧ (beforeRestore.chCfg 5).function = .groutStroke ∧
      (beforeRestore.chCfg 5).edge.qualifies true = true ∧ (beforeRestore.ch 5).capture = none) ∧
    (beforeRestore.watcher 2 = some 7 ∧ (beforeRestore.chCfg 7).function = .scalePulse ∧
      (beforeRestore.chCfg 7).edge.qualifies true = true ∧ (beforeRestore.ch 7).capture = none) := by
  decide +kernel

/-- Channel `i` waiting for its next edge. -/
def awaiting (i : Fin 8) (s : State) : State :=
  { s with
    channels := s.channels.set i { s.ch i with capture := some 900000, timeoutTimer := on }
    drive := { s.drive with nFb := 250 } }

/-- `online` with channel 4 mapped to SCREW_SPEED_IN. -/
def screwSpeed : State := { online with cfg := { online.cfg with channels := online.cfg.channels.set 4 (ch .screwSpeedIn) } }

def pulsing (p : PulseState) : State :=
  finish { base .online with grout := { (base .online).grout with pulse := p, pulseTimer := on } }

theorem witness_TimeoutsAndPulsesEnd :
    (((awaiting 3 online).ch 3).timeoutTimer.on = true ∧ ((awaiting 3 online).chCfg 3).function = .driveSpeedIn) ∧
    (((awaiting 4 screwSpeed).ch 4).timeoutTimer.on = true ∧ ((awaiting 4 screwSpeed).chCfg 4).function = .screwSpeedIn) ∧
    (AtRest (pulsing .active) ∧ (pulsing .active).grout.pulseTimer.on = true ∧ (pulsing .active).grout.pulse = .active) ∧
    AtRest (pulsing .activePending) ∧ (pulsing .activePending).grout.pulse = .activePending :=
  ⟨by decide +kernel, by decide +kernel, ⟨atRest_of_restsNow (by decide +kernel), by decide +kernel, by decide +kernel⟩,
    atRest_of_restsNow (by decide +kernel), by decide +kernel⟩

/-- Section 9.7: with no edge the drive unit reads 0 and the capture is empty. -/
theorem test_channelTimeoutExpiry :
    see (fun t => (t.drive.nFb, (t.ch 3).capture)) (.channelTimeoutExpiry 3) (awaiting 3 online) = some (0, none) := by
  decide +kernel

/-- Section 7.10: a pending pulse starts as the one in progress ends. -/
theorem test_pulseWidthExpiry :
    see (fun t => (t.grout.pulse, t.grout.pulseTimer)) .pulseWidthExpiry (pulsing .activePending) =
        some (.active, .running 1800000) ∧
      see (fun t => (t.grout.pulse, t.grout.pulseTimer)) .pulseWidthExpiry (pulsing .active) = some (.idle, .stopped) := by
  decide +kernel

/-! ## Pins and memory -/

theorem witness_PinEventsAct :
    (online.pins.stopInput = false ∧ online.boot.accepted = true ∧ online.onBackbone = true) ∧
      publishing.pins.stopInput = true ∧ 1 ≤ publishing.boot.station ∧ publishing.boot.station ≤ 15 := by
  decide +kernel

/-- R10, R165: STOP heads the queue and the own entry shows it, the latch is set and the gates are shut. -/
theorem test_stopInputActive :
    see (fun t => (t.events.stopped, t.port.queue.head?.map (·.body), (t.ch 0).gate, t.stopDemand)) .stopInputActive online =
      some (true, some (.stop ⟨.localInput⟩), false, true) := by
  decide +kernel

/-- R23, R165: the own STOP slot is emptied and the latch stays. -/
theorem test_stopInputReleased :
    see (fun t => (t.ownEntry.stop, t.stopDemand, t.port.pubTimer.stop)) .stopInputReleased publishing =
      some (⟨none, .stopped⟩, false, .stopped) := by decide +kernel

/-- `online` with guard G1, PERMIT_INPUT, on channel 0. -/
def permitted : State :=
  { online with cfg := { online.cfg with channels := online.cfg.channels.set 0 { ch .thrustExtend with guard := .g1 } } }

theorem test_permitInputChange :
    see (fun t => ((t.ch 0).gate, (t.ch 1).gate)) (.permitInputChange false) permitted = some (false, true) ∧
      see (fun t => ((t.ch 0).gate, (t.ch 1).gate)) (.permitInputChange true) permitted = some (true, true) := by
  decide +kernel

/-- Section 11.6: write 1,208 in flight, the record pending flag set. -/
def writing : State :=
  { online with mem := { online.mem with inFlight := some (.record [1#8]), recordPending := true, seq := 1208 } }

theorem witness_MemoryWriteCompletes :
    AtRest writing ∧ writing.mem.inFlight = some (.record [1#8]) ∧ writing.boot.phase = .done :=
  ⟨atRest_of_restsNow (by decide +kernel), by decide +kernel, by decide +kernel⟩

/-- A failed write outside EXCAVATE, and with a pending write in it. -/
theorem witness_MemoryWriteCompletes_failed :
    ({ writing with table := { writing.table with mode := .hold } }.mem.inFlight = some (.record [1#8]) ∧
      { writing with table := { writing.table with mode := .hold } }.table.mode ≠ .excavate) ∧
    (writing.mem.inFlight = some (.record [1#8]) ∧ writing.mem.recordPending = true) := by
  decide +kernel

/-- A start that waits for the write in flight at its RESTART. -/
def waitingForWrite : State :=
  finish { base .offline with
    boot := { (base .offline).boot with phase := .waitingWrite }
    mem := { (base .offline).mem with inFlight := some (.record [1#8]), recordPending := true } }

theorem witness_MemoryWriteCompletes_waiting :
    AtRest waitingForWrite ∧ waitingForWrite.mem.inFlight = some (.record [1#8]) ∧ waitingForWrite.boot.phase ≠ .done :=
  ⟨atRest_of_restsNow (by decide +kernel), by decide +kernel, by decide +kernel⟩

/-- R168, R173: the start goes on to the record read, and the pending write starts. -/
theorem test_memoryWriteComplete_waiting :
    see (fun t => (t.boot.phase, t.mem.record, t.mem.inFlight, t.mem.recordPending)) (.memoryWriteComplete true) waitingForWrite =
      some (.readingRecord, some [1#8], some (.record (waitingForWrite.recordBytes 1)), false) := by decide +kernel

/-- Section 11.6: the write of sequence 1,209 starts; a failed write raises RECORD_WRITE_FAILED, and the pending write goes on as
after any completion (R173). -/
theorem test_memoryWriteComplete :
    see (fun t => (t.mem.record, t.mem.inFlight, t.mem.seq, t.mem.recordPending)) (.memoryWriteComplete true) writing =
        some (some [1#8], some (.record (online.recordBytes 1209)), 1209, false) ∧
      see (fun t => (t.mem.record, t.mem.inFlight, t.events.flags)) (.memoryWriteComplete false) writing =
        some (none, some (.record (online.recordBytes 1209)), 0x0004#16) := by
  decide +kernel

end Sys2Proof.Machine.Tests
end

section
/-! The grout ledger: what R115, R118 and R121 speak of, read from the state, and the two decisions that a new E reaches as
predicates of it. -/
namespace Sys2Proof.Machine
open Sys2Proof

/-! ## The ledger -/

/-- E and its terms, with the ring they belong to (R115). -/
structure Sums where
  ring      : Nat
  target    : Nat
  carry     : Int
  delivered : Nat
  deficit   : Int

/-- The sums with what the hold-request decision reads and sets (R121). -/
structure Books extends Sums where
  cfg         : StationConfig
  inRole      : Bool
  holdRequest : Bool

/-- The books with what the line state decision reads and sets (R118); `halted` is the condition of the row HELD. -/
structure Ledger extends Books where
  halted : Bool
  derate : Bool
  line   : LineState

def State.sums (s : State) : Sums :=
  ⟨s.adv.ring, s.grout.target, s.grout.carry, s.grout.delivered, s.grout.deficit⟩

def State.books (s : State) : Books :=
  { s.sums with cfg := s.cfg, inRole := s.holds .grout, holdRequest := s.grout.holdRequest }

def State.ledger (s : State) : Ledger :=
  { s.books with
    halted := s.events.stopped || s.port.backbone == .isolated || s.table.mode == .hold
    derate := s.grout.derate
    line := s.grout.line }

/-- E = T + C − D (R115). -/
def Sums.Balanced (a : Sums) : Prop := a.deficit = (a.target : Int) + a.carry - a.delivered

/-- An E other than `e` stands as the hold-request decision leaves it, on a station in the GROUT role (R121). -/
def Books.Requested (e : Int) (b : Books) : Prop :=
  b.deficit = e ∨ b.inRole = false ∨
    (((b.cfg.backlogLimit : Int) < b.deficit → b.holdRequest = true) ∧
      (b.deficit ≤ (b.cfg.backlogLimit / 2 : Nat) → b.holdRequest = false))

/-- The first row of the table of R118 that holds. -/
def Ledger.table (l : Ledger) : LineState :=
  if l.deficit < (l.cfg.effectiveStroke : Int) then .idle
  else if l.halted then .held
  else if l.derate then .limited
  else .injecting

/-- At an E other than `e` a line neither OFF nor in FAULT stands as its table says, on a station in the GROUT role (R118). -/
def Ledger.Placed (e : Int) (l : Ledger) : Prop :=
  l.deficit = e ∨ l.inRole = false ∨ l.line = .off ∨ l.line = .fault ∨ l.line = l.table

theorem deficitBalanced_iff (s : State) : DeficitBalanced s ↔ s.sums.Balanced := Iff.rfl

theorem lineTable_eq_table (s : State) : s.lineTable = s.ledger.table := rfl

theorem books_of_ledger {s t : State} (h : t.ledger = s.ledger) : t.books = s.books := congrArg Ledger.toBooks h

theorem sums_of_books {s t : State} (h : t.books = s.books) : t.sums = s.sums := congrArg Books.toSums h

theorem sums_of_ledger {s t : State} (h : t.ledger = s.ledger) : t.sums = s.sums := sums_of_books (books_of_ledger h)

/-! ## How an operation carries the ledger on -/

/-- From `s` to `t` the ring stands, E stays balanced, D does not fall, and a new E has reached the hold-request decision. -/
structure Carries (s t : State) : Prop where
  ring      : t.adv.ring = s.adv.ring
  balanced  : s.sums.Balanced → t.sums.Balanced
  delivered : s.grout.delivered ≤ 2000000000 →
    s.grout.delivered ≤ t.grout.delivered ∧ t.grout.delivered ≤ 2000000000
  requested : ∀ e, s.books.Requested e → t.books.Requested e

/-- Moreover a new E, or a new value of what the table of R118 reads, has reached the line state decision. -/
structure Follows (s t : State) : Prop extends Carries s t where
  placed : ∀ e, s.ledger.Placed e → t.ledger.Placed e

theorem delivered_of_sums {s t : State} (h : t.sums = s.sums) (hd : s.grout.delivered ≤ 2000000000) :
    s.grout.delivered ≤ t.grout.delivered ∧ t.grout.delivered ≤ 2000000000 := by
  rw [show t.grout.delivered = s.grout.delivered from congrArg Sums.delivered h]
  exact ⟨le_rfl, hd⟩

theorem Carries.of_books {s t : State} (h : t.books = s.books) : Carries s t where
  ring := congrArg (·.ring) h
  balanced := by rw [sums_of_books h]; exact id
  delivered := delivered_of_sums (sums_of_books h)
  requested _ := by rw [h]; exact id

theorem Carries.trans {s t u : State} (h : Carries s t) (k : Carries t u) : Carries s u where
  ring := k.ring.trans h.ring
  balanced := k.balanced ∘ h.balanced
  delivered hd :=
    have ⟨h1, h2⟩ := h.delivered hd
    have ⟨k1, k2⟩ := k.delivered h2
    ⟨h1.trans k1, k2⟩
  requested e := k.requested e ∘ h.requested e

theorem Follows.of_ledger {s t : State} (h : t.ledger = s.ledger) : Follows s t where
  toCarries := .of_books (books_of_ledger h)
  placed _ := by rw [h]; exact id

theorem Follows.refl (s : State) : Follows s s := .of_ledger rfl

theorem Follows.trans {s t u : State} (h : Follows s t) (k : Follows t u) : Follows s u where
  toCarries := h.toCarries.trans k.toCarries
  placed e := k.placed e ∘ h.placed e

/-- `Follows.trans` with the last operation named first. -/
theorem Follows.after {s t u : State} (k : Follows t u) (h : Follows s t) : Follows s u := h.trans k

/-- A last operation that leaves the ledger alone. -/
theorem Follows.keep {s t u : State} (k : u.ledger = t.ledger) (h : Follows s t) : Follows s u := h.trans (.of_ledger k)

/-! ## The decisions -/

theorem ledger_putChannel (i : Fin 8) (r : ChannelRec) (s : State) : (putChannel i r s).ledger = s.ledger := rfl

theorem ledger_writeDuty (f : ChFunction) (d : Nat) (s : State) : (writeDuty f d s).ledger = s.ledger := by
  unfold writeDuty
  split <;> rfl

/-- A line state taken is entered in the ledger and nothing else of it. -/
theorem ledger_setLine (l : LineState) (s : State) : (setLine l s).ledger = { s.ledger with line := l } := by
  unfold setLine
  split
  · next h => subst h; rfl
  · split
    · exact ledger_writeDuty _ _ _
    · rfl

theorem ledger_decideLine (s : State) :
    (decideLine s).ledger =
      if s.holds .grout && s.grout.line != .off && s.grout.line != .fault then { s.ledger with line := s.ledger.table }
      else s.ledger := by
  unfold decideLine
  split
  · exact ledger_setLine _ _
  · rfl

theorem books_setLine (l : LineState) (s : State) : (setLine l s).books = s.books :=
  congrArg Ledger.toBooks (ledger_setLine l s)

theorem books_decideLine (s : State) : (decideLine s).books = s.books := by
  unfold decideLine
  split
  · exact books_setLine _ s
  · rfl

/-- The line state decision leaves every line it speaks of as the table says (R118). -/
theorem placed_decideLine (e : Int) (s : State) : (decideLine s).ledger.Placed e := by
  rw [ledger_decideLine]
  split
  · exact .inr (.inr (.inr (.inr rfl)))
  · next h =>
    simp only [Bool.and_eq_true, bne_iff_ne, ne_eq, not_and_or, not_not, Bool.not_eq_true] at h
    rcases h with (hr | ho) | hf
    · exact .inr (.inl hr)
    · exact .inr (.inr (.inl ho))
    · exact .inr (.inr (.inr (.inl hf)))

/-- The hold-request decision leaves the flag as R121 says. -/
theorem requested_decideHoldRequest (e : Int) (s : State) : (decideHoldRequest s).books.Requested e := by
  refine .inr (.inr ⟨fun h => ?_, fun h => ?_⟩)
  · exact if_pos h
  · have hb : ¬ (s.cfg.backlogLimit : Int) < s.grout.deficit := by
      change s.grout.deficit ≤ ((s.cfg.backlogLimit / 2 : Nat) : Int) at h
      omega
    exact (if_neg hb).trans (if_pos h)

/-- After a change of what the table reads, the line state decision carries the ledger on. -/
theorem follows_decideLine {s u : State} (h : Carries s u) : Follows s (decideLine u) where
  toCarries := h.trans (.of_books (books_decideLine u))
  placed e _ := placed_decideLine e u

/-! ## A new E -/

theorem balanced_recomputeDeficit (s : State) : (recomputeDeficit s).sums.Balanced := by
  unfold recomputeDeficit
  dsimp only
  split
  · next h => exact h.symm
  · rw [sums_of_books (books_decideLine _)]; rfl

theorem requested_recomputeDeficit {e : Int} {s : State} (h : s.books.Requested e) :
    (recomputeDeficit s).books.Requested e := by
  unfold recomputeDeficit
  dsimp only
  split
  · exact h
  · rw [books_decideLine]; exact requested_decideHoldRequest e _

theorem placed_recomputeDeficit {e : Int} {s : State} (h : s.ledger.Placed e) : (recomputeDeficit s).ledger.Placed e := by
  unfold recomputeDeficit
  dsimp only
  split
  · exact h
  · exact placed_decideLine e _

/-- E recomputed after a new T or D, at which D has not fallen. -/
theorem follows_recomputeDeficit {s u : State} {target delivered : Nat}
    (hu : u.ledger = { s.ledger with target := target, delivered := delivered })
    (hd : s.grout.delivered ≤ 2000000000 → s.grout.delivered ≤ delivered ∧ delivered ≤ 2000000000) :
    Follows s (recomputeDeficit u) where
  ring := (congrArg Kept.ring (kept_recomputeDeficit u)).trans (congrArg (·.ring) hu)
  balanced _ := balanced_recomputeDeficit u
  delivered h := by
    rw [show (recomputeDeficit u).grout.delivered = delivered from
      (congrArg Kept.delivered (kept_recomputeDeficit u)).trans (congrArg (·.delivered) hu)]
    exact hd h
  requested e h := requested_recomputeDeficit (by rw [show u.books = _ from congrArg Ledger.toBooks hu]; exact h)
  placed e h := placed_recomputeDeficit (by rw [hu]; exact h)

end Sys2Proof.Machine
end

section
/-! The operations that leave the grout ledger alone. -/
namespace Sys2Proof.Machine
open Sys2Proof

/-! ## Plain updates, channels and inputs -/

theorem ledger_raiseEvent (e : EventFlag) (s : State) : (raiseEvent e s).ledger = s.ledger := rfl

theorem ledger_putEntry (n : Nat) (e : StationEntry) (s : State) :
    { s with table := s.table.putEntry n e }.ledger = s.ledger := by
  unfold PeerTable.putEntry
  split <;> rfl

theorem ledger_putOwnEntry (e : StationEntry) (s : State) : (putOwnEntry e s).ledger = s.ledger := ledger_putEntry _ e s

theorem ledger_setPulseFlag (on : Bool) (s : State) : (setPulseFlag on s).ledger = s.ledger := by
  unfold setPulseFlag
  split <;> rfl

/-- An operation made of steps that each leave the ledger alone. -/
theorem ledger_foldl {α : Type} {f : State → α → State} (h : ∀ s a, (f s a).ledger = s.ledger) (l : List α) (s : State) :
    (l.foldl f s).ledger = s.ledger := by
  induction l generalizing s with
  | nil => rfl
  | cons a l ih => exact (ih _).trans (h s a)

/-! ## Grout and grease -/

theorem ledger_examineGroutPressure (s : State) : (examineGroutPressure s).ledger = s.ledger := rfl

theorem ledger_startPulse (s : State) : (startPulse s).ledger = s.ledger := ledger_setPulseFlag _ _

theorem ledger_clearPulse (s : State) : (clearPulse s).ledger = s.ledger := ledger_setPulseFlag _ _

theorem ledger_greaseTrigger (s : State) : (greaseTrigger s).ledger = s.ledger := by
  unfold greaseTrigger
  split
  · exact ledger_startPulse s
  · rfl
  · rfl

theorem ledger_greaseTriggers (n : Nat) (s : State) : (greaseTriggers n s).ledger = s.ledger := by
  induction n generalizing s with
  | zero => rfl
  | succ n ih => exact (ih _).trans (ledger_greaseTrigger s)

theorem ledger_issueGrease (s : State) : (issueGrease s).ledger = s.ledger := by
  unfold issueGrease
  dsimp only
  split
  · exact ledger_greaseTriggers _ _
  · rfl

/-! ## Muck -/

theorem ledger_examineScrew (s : State) : (examineScrew s).ledger = s.ledger := rfl

theorem ledger_setScrew (st : ScrewState) (s : State) : (setScrew st s).ledger = s.ledger := by
  unfold setScrew
  split
  · rfl
  · split
    · exact ledger_writeDuty _ _ _
    · rfl

theorem ledger_decideScrew (s : State) : (decideScrew s).ledger = s.ledger := by
  unfold decideScrew
  split
  · exact ledger_setScrew _ s
  · rfl

theorem ledger_recomputeChamber (s : State) : (recomputeChamber s).ledger = s.ledger := by
  unfold recomputeChamber
  split <;> split
  · exact ledger_decideScrew _
  · rfl
  · rfl
  · exact ledger_decideScrew _

theorem ledger_recomputeBalance (s : State) : (recomputeBalance s).ledger = s.ledger := by
  have hover (u : State) : (examineOverdig u).ledger = u.ledger := by unfold examineOverdig; split <;> rfl
  have hunder (u : State) : (examineUnderdig u).ledger = u.ledger := by unfold examineUnderdig; split <;> rfl
  unfold recomputeBalance
  split
  · exact (hunder _).trans (hover _)
  · rfl

theorem ledger_takeExpectedMass (m : Nat) (s : State) : (takeExpectedMass m s).ledger = s.ledger := by
  unfold takeExpectedMass
  split
  · exact ledger_recomputeBalance _
  · rfl

theorem ledger_closeMuck (s : State) : (closeMuck s).ledger = s.ledger := by
  unfold closeMuck
  split <;> rfl

theorem ledger_silenceMuck (s : State) : (silenceMuck s).ledger = s.ledger := ledger_writeDuty _ _ _

theorem ledger_faultScrew (s : State) : (faultScrew s).ledger = s.ledger := ledger_writeDuty _ _ _

/-! ## Gates and the memory port -/

theorem ledger_refreshGate (i : Fin 8) (s : State) : (refreshGate i s).ledger = s.ledger := by
  have hchanged (f : ChFunction) (u : State) : (gateChanged f u).ledger = u.ledger := by cases f <;> rfl
  unfold refreshGate
  split
  · rfl
  · split
    · exact hchanged _ _
    · exact hchanged _ _

theorem ledger_refreshGates (s : State) : (refreshGates s).ledger = s.ledger := by
  simp only [refreshGates, ledger_refreshGate]

theorem ledger_refreshAlarm (s : State) : (refreshAlarm s).ledger = s.ledger := rfl

theorem ledger_triggerSave (s : State) : (triggerSave s).ledger = s.ledger := by
  unfold triggerSave
  split
  · split <;> rfl
  · rfl

theorem ledger_faultAreaChanged (s : State) : (faultAreaChanged s).ledger = s.ledger := by
  unfold faultAreaChanged
  split <;> rfl

theorem ledger_startPendingWrite (s : State) : (startPendingWrite s).ledger = s.ledger := by
  unfold startPendingWrite
  split
  · split
    · rfl
    · split <;> rfl
  · rfl

theorem ledger_countMilestone (s : State) : (countMilestone s).ledger = s.ledger := by
  unfold countMilestone
  dsimp only
  split
  · exact ledger_triggerSave _
  · rfl

/-! ## Thrust -/

theorem ledger_regimeEvent (s : State) : (regimeEvent s).ledger = s.ledger := by
  unfold regimeEvent
  split <;> rfl

theorem ledger_refreshCauses (s : State) : (refreshCauses s).ledger = s.ledger := by
  unfold refreshCauses
  split
  · rfl
  · exact ledger_regimeEvent s

theorem ledger_computePush (s : State) : (computePush s).ledger = s.ledger := by
  unfold computePush
  split <;> rfl

theorem ledger_writeValves (s : State) : (writeValves s).ledger = s.ledger := by
  unfold writeValves
  split
  · rfl
  · exact (ledger_writeDuty _ _ _).trans (ledger_writeDuty _ _ _)

theorem ledger_seatSetpoint (s : State) : (seatSetpoint s).ledger = s.ledger := ledger_writeValves _

theorem ledger_faultThrust (s : State) : (faultThrust s).ledger = s.ledger :=
  (ledger_writeDuty _ _ _).trans (ledger_writeDuty _ _ _)

theorem ledger_evaluateThrust (s : State) : (evaluateThrust s).ledger = s.ledger := by
  have hpush : (computePush (computeHold (decideRegime s))).ledger = s.ledger := ledger_computePush _
  unfold evaluateThrust
  dsimp only
  split
  · exact hpush
  · exact (ledger_writeValves _).trans hpush

/-! ## The ring-build controller -/

theorem ledger_writeExtendDuties (s : State) : (writeExtendDuties s).ledger = s.ledger :=
  (ledger_writeDuty _ _ _).trans (ledger_writeDuty _ _ _)

theorem ledger_enterExtending (s : State) : (enterExtending s).ledger = s.ledger :=
  (ledger_refreshGates _).trans (ledger_writeExtendDuties _)

theorem ledger_enterClear (s : State) : (enterClear s).ledger = s.ledger := by
  have hduties (u : State) : (writeDuty .thrustRetract 0 (writeDuty .thrustExtend 0 u)).ledger = u.ledger :=
    (ledger_writeDuty _ _ _).trans (ledger_writeDuty _ _ _)
  unfold enterClear
  dsimp only
  split
  · exact (ledger_enterExtending _).trans (hduties _)
  · exact hduties _

theorem ledger_checkRetracted (s : State) : (checkRetracted s).ledger = s.ledger := by
  unfold checkRetracted
  split
  · exact ledger_enterClear s
  · rfl

theorem ledger_enterRetracting (s : State) : (enterRetracting s).ledger = s.ledger :=
  (ledger_checkRetracted _).trans ((ledger_refreshGates _).trans ((ledger_writeDuty _ _ _).trans (ledger_writeDuty _ _ _)))

theorem ledger_testClaim (s : State) : (testClaim s).ledger = s.ledger := by
  unfold testClaim
  split
  · exact ledger_enterRetracting s
  · rfl

theorem ledger_refreshWait (s : State) : (refreshWait s).ledger = s.ledger := by
  unfold refreshWait
  split <;> rfl

theorem ledger_startDecision (s : State) : (startDecision s).ledger = s.ledger := by
  unfold startDecision
  dsimp only
  split
  · exact ledger_seatSetpoint _
  · split <;> exact ledger_writeExtendDuties _

theorem ledger_shoePressure (s : State) : (shoePressure s).ledger = s.ledger := by
  unfold shoePressure
  split
  · exact ledger_startDecision s
  · split
    · exact ledger_seatSetpoint _
    · rfl

theorem ledger_shoeStroke (s : State) : (shoeStroke s).ledger = s.ledger := by
  unfold shoeStroke
  split
  · exact ledger_checkRetracted s
  · rfl

theorem ledger_takeBuild (b : BuildBody) (s : State) : (takeBuild b s).ledger = s.ledger := by
  unfold takeBuild
  split
  · split
    · split <;> rfl
    · rfl
    · split <;> rfl
    · split <;> rfl
    · split
      · split
        · rfl
        · exact ledger_enterExtending _
      · rfl
  · rfl

theorem ledger_abortByState (s : State) : (abortByState s).ledger = s.ledger := by
  unfold abortByState
  split
  · rfl
  · rfl
  · rfl
  · exact ledger_enterExtending s
  · split
    · rfl
    · exact ledger_enterExtending s

theorem ledger_abortBuild (s : State) : (abortBuild s).ledger = s.ledger := by
  unfold abortBuild
  split
  · exact ledger_abortByState s
  · rfl

theorem ledger_resumePlaced (s : State) : (resumePlaced s).ledger = s.ledger := by
  unfold resumePlaced
  split
  · split <;> rfl
  · rfl

theorem ledger_resumeAbort (s : State) : (resumeAbort s).ledger = s.ledger := by
  unfold resumeAbort
  split
  · exact ledger_abortByState s
  · rfl

theorem ledger_resumeState (s : State) : (resumeState s).ledger = s.ledger := by
  unfold resumeState
  split
  · rfl
  · rfl
  · exact ledger_enterExtending s
  · split
    · exact ledger_enterExtending s
    · rfl
  · split <;> rfl

theorem ledger_resumeShoe (s : State) : (resumeShoe s).ledger = s.ledger := by
  unfold resumeShoe
  split
  · exact (ledger_resumeState _).trans ((ledger_resumeAbort _).trans (ledger_resumePlaced s))
  · rfl

theorem ledger_faultShoe (s : State) : (faultShoe s).ledger = s.ledger := rfl

theorem ledger_stopShoeTimers (s : State) : (stopShoeTimers s).ledger = s.ledger := rfl

theorem ledger_clearShoeFault (s : State) : (clearShoeFault s).ledger = s.ledger := by
  unfold clearShoeFault
  split
  · exact ledger_enterExtending s
  · rfl

theorem ledger_closeShoe (s : State) : (closeShoe s).ledger = s.ledger := by
  unfold closeShoe
  split <;> rfl

theorem ledger_startPendingExtend (s : State) : (startPendingExtend s).ledger = s.ledger := by
  unfold startPendingExtend
  split <;> rfl

/-! ## The drive and the screw -/

theorem ledger_faultDrive (s : State) : (faultDrive s).ledger = s.ledger := ledger_writeDuty _ _ _

theorem ledger_decideDrive (s : State) : (decideDrive s).ledger = s.ledger := by
  unfold decideDrive
  dsimp only
  split
  · split <;> rfl
  · split
    · rfl
    · split <;> rfl
  · split
    · rfl
    · split
      · rfl
      · split
        · rfl
        · split <;> rfl
  · split <;> rfl
  · split
    · rfl
    · split <;> rfl
  · rfl

theorem ledger_stepDrive (s : State) : (stepDrive s).ledger = s.ledger := by
  unfold stepDrive
  dsimp only
  split <;> rfl

theorem ledger_evaluateDrive (s : State) : (evaluateDrive s).ledger = s.ledger :=
  (ledger_writeDuty _ _ _).trans ((ledger_stepDrive _).trans (ledger_decideDrive s))

theorem ledger_feedScrew (s : State) : (feedScrew s).ledger = s.ledger := by
  unfold feedScrew
  split <;> rfl

theorem ledger_integrateScrew (s : State) : (integrateScrew s).ledger = s.ledger := by
  unfold integrateScrew
  split <;> rfl

theorem ledger_commandScrew (s : State) : (commandScrew s).ledger = s.ledger := rfl

theorem ledger_rampScrew (s : State) : (rampScrew s).ledger = s.ledger := ledger_writeDuty _ _ _

theorem ledger_evaluateScrew (s : State) : (evaluateScrew s).ledger = s.ledger := by
  unfold evaluateScrew
  dsimp only
  split
  · rw [ledger_examineScrew, ledger_decideScrew]
  · rw [ledger_rampScrew, ledger_commandScrew, ledger_integrateScrew, ledger_feedScrew, ledger_decideScrew]

/-! ## Publication -/

theorem ledger_refreshPubTimer (k : OwnKind) (s : State) : (refreshPubTimer k s).ledger = s.ledger := by
  unfold refreshPubTimer
  dsimp only
  split
  · rfl
  · split <;> rfl

theorem ledger_refreshPubTimers (s : State) : (refreshPubTimers s).ledger = s.ledger := by
  simp only [refreshPubTimers, ledger_refreshPubTimer]

theorem ledger_enqueueKind (k : OwnKind) (b : Bulletin) (s : State) : (enqueueKind k b s).ledger = s.ledger := rfl

theorem ledger_markSeen (k : OwnKind) (s : State) : (markSeen k s).ledger = s.ledger := rfl

end Sys2Proof.Machine
end

section
/-! The operations that can give E a new value, or what the table of R118 reads, and how each carries the grout ledger on to the
decisions; with them the end of every event. -/
namespace Sys2Proof.Machine
open Sys2Proof

/-! ## Target, band and advance -/

theorem follows_recomputeTarget (s : State) : Follows s (recomputeTarget s) := by
  unfold recomputeTarget
  split
  · exact follows_recomputeDeficit (delivered := s.grout.delivered) rfl fun h => ⟨le_rfl, h⟩
  · exact .refl s

theorem follows_takeVoid (v : Nat) (s : State) : Follows s (takeVoid v s) := by
  unfold takeVoid
  split
  · exact (follows_recomputeTarget _).after (.of_ledger rfl)
  · exact .refl s

theorem follows_takeWeight (w : Nat) (s : State) : Follows s (takeWeight w s) := by
  unfold takeWeight
  split
  · exact (follows_recomputeTarget _).after (.of_ledger rfl)
  · exact .refl s

theorem follows_examineDerate (s : State) : Follows s (examineDerate s) := by
  unfold examineDerate
  dsimp only
  split
  · exact .refl s
  · exact follows_decideLine (.of_books rfl)

theorem follows_recomputeBand (s : State) : Follows s (recomputeBand s) :=
  .keep (ledger_examineGroutPressure _) ((follows_examineDerate _).after (.of_ledger rfl))

theorem follows_setReference (st : RefState) (p : Nat) (t : Timer) (s : State) : Follows s (setReference st p t s) := by
  unfold setReference
  dsimp only
  split
  · exact .of_ledger rfl
  · exact (follows_recomputeBand _).after (.of_ledger rfl)

theorem follows_refreshReference (s : State) : Follows s (refreshReference s) := by
  unfold refreshReference
  split
  · exact follows_setReference _ _ _ s
  · split
    · exact follows_setReference _ _ _ s
    · exact .refl s

theorem follows_setARing (x : Nat) (s : State) : Follows s (setARing x s) :=
  .keep (ledger_countMilestone _) (.keep (ledger_issueGrease _) (.keep (ledger_takeExpectedMass _ _)
    ((follows_takeVoid _ _).after (.of_ledger rfl))))

theorem follows_updateARing (s : State) : Follows s (updateARing s) := by
  unfold updateARing
  split
  · exact follows_setARing _ s
  · exact .refl s

theorem follows_recomputeAdvance (s : State) : Follows s (recomputeAdvance s) := by
  unfold recomputeAdvance
  split
  · exact (follows_updateARing _).after (.of_ledger rfl)
  · exact .refl s

/-- A change of the peer table carries the ledger on: by the reference, A_ring and the live grout weight (R33, R41, R28). -/
theorem follows_tableChanged (s : State) : Follows s (tableChanged s) :=
  .keep (ledger_refreshGates _) (.keep (ledger_refreshCauses _)
    ((follows_takeWeight _ _).after ((follows_recomputeAdvance _).after (follows_refreshReference s))))

/-! ## The STOPPED latch and the effective mode -/

theorem follows_setStopped (s : State) : Follows s (setStopped s) := by
  unfold setStopped
  split
  · exact .refl s
  · exact .keep (ledger_refreshGates _) (.keep (ledger_triggerSave _) (.keep (ledger_decideScrew _)
      (follows_decideLine (.of_books rfl))))

theorem follows_clearStopped (s : State) : Follows s (clearStopped s) := by
  have hshoe (u : State) : (resumeShoe (refreshGates u)).books = u.books :=
    books_of_ledger ((ledger_resumeShoe _).trans (ledger_refreshGates u))
  have hstopped : Carries s (resumeShoe (refreshGates { s with events.stopped := false })) := .of_books ((hshoe _).trans rfl)
  exact .keep (ledger_refreshGates _) (.keep (ledger_decideScrew _) (follows_decideLine hstopped))

theorem follows_setMode (m : EffMode) (s : State) : Follows s (setMode m s) := by
  have hmode : Carries s { s with table.mode := m } := .of_books rfl
  have hjobs : Follows s (regimeEvent (decideScrew (decideLine (updateARing { s with table.mode := m })))) :=
    .keep (ledger_regimeEvent _) (.keep (ledger_decideScrew _)
      (follows_decideLine (hmode.trans (follows_updateARing _).toCarries)))
  unfold setMode
  split
  · exact .refl s
  · refine .keep (ledger_refreshGates _) ?_
    split
    · exact hjobs
    · exact .keep (ledger_abortBuild _) hjobs

/-! ## Publication and the end of an event -/

theorem follows_writeOwn (b : Bulletin) (s : State) : Follows s (writeOwn b s) := by
  have htable (e : StationEntry) : Follows s (tableChanged (putOwnEntry e s)) :=
    (follows_tableChanged _).after (.of_ledger (ledger_putOwnEntry e s))
  unfold writeOwn
  dsimp only
  split
  · exact (htable _).trans (follows_setStopped _)
  · exact htable _

theorem follows_publish (k : OwnKind) (s : State) : Follows s (publish k s) := by
  unfold publish
  split
  · exact .keep (ledger_enqueueKind _ _ _) (follows_writeOwn _ s)
  · exact .refl s

theorem follows_publishIfChanged (k : OwnKind) (s : State) : Follows s (publishIfChanged k s) := by
  unfold publishIfChanged
  split
  · split
    · exact (follows_publish k _).after (.of_ledger (ledger_markSeen k s))
    · exact .of_ledger (ledger_markSeen k s)
  · exact .refl s

theorem follows_publishRound (s : State) : Follows s (publishRound s) := by
  have h (k : OwnKind) {u : State} (hu : Follows s u) : Follows s (publishIfChanged k u) :=
    hu.trans (follows_publishIfChanged k u)
  exact h _ (h _ (h _ (h _ (h _ (h _ (h _ (.refl s)))))))

theorem follows_settle (s : State) : Follows s (settle s) :=
  (follows_publishRound _).after ((follows_publishRound _).after ((follows_publishRound _).after (follows_publishRound s)))

/-- The end of every event carries the ledger on. -/
theorem follows_finish (s : State) : Follows s (finish s) :=
  .keep (ledger_refreshAlarm _) (.keep (ledger_refreshGates _) (follows_settle s))

/-! ## Faults -/

theorem follows_faultGrout (s : State) : Follows s (faultGrout s) := by
  have h : (faultGrout s).ledger = { s.ledger with line := .fault } := ledger_writeDuty _ _ _
  exact ⟨.of_books (congrArg Ledger.toBooks h), fun e _ => by rw [h]; exact .inr (.inr (.inr (.inl rfl)))⟩

theorem follows_enterFault (j : Job) (s : State) : Follows s (enterFault j s) := by
  cases j with
  | station => exact .refl s
  | thrust => exact .of_ledger ((ledger_faultShoe _).trans (ledger_faultThrust s))
  | grout => exact follows_faultGrout s
  | drive => exact .of_ledger (ledger_faultDrive s)
  | screw => exact .of_ledger (ledger_faultScrew s)

theorem follows_raiseFault (j : Job) (c : FaultCause) (value : Int) (s : State) : Follows s (raiseFault j c value s) := by
  unfold raiseFault
  split
  · exact .keep (ledger_refreshGates _) ((follows_enterFault j _).after (.of_ledger (ledger_faultAreaChanged _)))
  · split
    · exact .of_ledger (ledger_faultAreaChanged _)
    · exact .refl s

end Sys2Proof.Machine
end

section
/-! What each command does to the grout ledger, by the chapters its operations stand in. -/
namespace Sys2Proof.Machine
open Sys2Proof

/-! ## What a command answers -/

/-- What a command `c`, run in `s`, makes of the ledger: E stays balanced and a new E has reached the hold-request decision;
outside the starts, or with the advance accounts true, it has reached the line state decision; and where nothing starts and no
ring is closed, D has not fallen. -/
structure Lands (c : Instr) (s t : State) : Prop where
  balanced  : s.sums.Balanced → t.sums.Balanced
  requested : t.books.Requested s.grout.deficit
  placed    : AccountsTrue s ∨ StartsNothing c s → t.ledger.Placed s.grout.deficit
  delivered : StartsNothing c s → t.adv.ring = s.adv.ring → s.grout.delivered ≤ 2000000000 →
    s.grout.delivered ≤ t.grout.delivered ∧ t.grout.delivered ≤ 2000000000

/-- Every next state an outcome of `c` in `s` gives lands. -/
def Answers (c : Instr) (s : State) (o : Host.Outcome State Fault Refusal) : Prop := ∀ t, o = .next t → Lands c s t

variable {c : Instr} {s t u : State}

theorem Lands.of_follows (h : Follows s t) : Lands c s t where
  balanced := h.balanced
  requested := h.requested _ (.inl rfl)
  placed _ := h.placed _ (.inl rfl)
  delivered _ _ := h.delivered

/-- While E and its terms stand there is nothing to decide. -/
theorem Lands.of_sums (h : t.sums = s.sums) : Lands c s t where
  balanced := by rw [h]; exact id
  requested := .inl (congrArg Sums.deficit h)
  placed _ := .inl (congrArg Sums.deficit h)
  delivered _ _ := delivered_of_sums h

/-- An operation that carries the ledger on, after what has landed. -/
theorem Follows.lands (k : Follows t u) (h : Lands c s t) : Lands c s u where
  balanced := k.balanced ∘ h.balanced
  requested := k.requested _ h.requested
  placed hs := k.placed _ (h.placed hs)
  delivered hs hr hd :=
    have ⟨h1, h2⟩ := h.delivered hs (k.ring.symm.trans hr) hd
    have ⟨k1, k2⟩ := k.delivered h2
    ⟨h1.trans k1, k2⟩

theorem answers_noEffect : Answers c s (noEffect s) := by
  intro u hu
  rw [← Host.Outcome.next.inj hu]
  exact .of_follows (.refl s)

theorem answers_of_lands (h : Lands c s t) : Answers c s (answer t) := by
  intro u hu
  rw [← Host.Outcome.next.inj hu]
  exact (follows_finish t).lands h

theorem answers_of_follows (h : Follows s t) : Answers c s (answer t) := answers_of_lands (.of_follows h)

theorem answers_of_ledger (h : t.ledger = s.ledger) : Answers c s (answer t) := answers_of_follows (.of_ledger h)

/-- A command whose event may not occur. -/
theorem answers_when {p : Prop} [Decidable p] {o : Host.Outcome State Fault Refusal} (h : Answers c s o) :
    Answers c s (if p then o else noEffect s) := by
  split
  · exact h
  · exact answers_noEffect

theorem answers_of_sums (h : t.sums = s.sums) : Answers c s (answer t) := answers_of_lands (.of_sums h)

/-! ## Starts -/

/-- The ledger at a start (R127): nothing filled, nothing owed, the line in OFF, or in FAULT by a record kept. -/
structure Ledger.Fresh (l : Ledger) : Prop where
  balanced : l.Balanced
  deficit  : l.deficit = 0
  request  : l.holdRequest = false
  line     : l.line = .off ∨ l.line = .fault

theorem fresh_of_start {cfg : StationConfig} {faulted : Bool} (h : s.grout = Grout.start cfg faulted) : s.ledger.Fresh := by
  refine ⟨?_, ?_, ?_, ?_⟩ <;> simp only [State.ledger, State.books, State.sums, Sums.Balanced, h]
  · rfl
  · rfl
  · rfl
  · cases faulted
    · exact .inl rfl
    · exact .inr rfl

/-- A start answers E = 0 with no hold request, and a line in OFF or FAULT. -/
theorem lands_of_fresh (h : t.ledger.Fresh) (hn : ¬ StartsNothing c s) : Lands c s t where
  balanced _ := h.balanced
  requested := by
    refine .inr (.inr ⟨fun hlim => ?_, fun _ => h.request⟩)
    rw [show t.books.deficit = 0 from h.deficit] at hlim
    omega
  placed _ := .inr (.inr (h.line.imp_right .inl))
  delivered hs := absurd hs hn

theorem fresh_startStation (kind : StartKind) (phase : BootPhase) (straps : BitVec 4) (faults : FaultRecords)
    (flags : Word16) (mem : MemPort) (s : State) : (startStation kind phase straps faults flags mem s).ledger.Fresh := by
  unfold startStation
  dsimp only
  split
  · exact fresh_of_start rfl
  · rw [ledger_faultAreaChanged]; exact fresh_of_start rfl

theorem follows_configBad (s : State) : Follows s (configBad s) := (follows_raiseFault _ _ _ _).after (.of_ledger rfl)

theorem ledger_restPins (s : State) : (restPins s).ledger = s.ledger := by
  have hset (i : Fin 8) (r : ChannelRec) {u v : State} (h : u.ledger = v.ledger) : (putChannel i r u).ledger = v.ledger := h
  exact hset _ _ (hset _ _ (hset _ _ (hset _ _ (hset _ _ (hset _ _ (hset _ _ (hset _ _ rfl)))))))

theorem lands_acceptConfig (hn : ¬ StartsNothing c s) (u : State) : Lands c s (acceptConfig u) := by
  have hstop (v : State) (hv : v.ledger.Fresh) : Lands c s (if v.pins.stopInput then setStopped v else v) := by
    split
    · exact (follows_setStopped v).lands (lands_of_fresh hv hn)
    · exact lands_of_fresh hv hn
  unfold acceptConfig
  refine hstop _ ?_
  rw [ledger_refreshGates, ledger_restPins]
  exact fresh_of_start rfl

theorem not_startsNothing_of_start (h : startsStation c = true) (hc : ∀ straps, c ≠ .restart straps) :
    ¬ StartsNothing c s := fun hn =>
  have ⟨straps, he⟩ := hn.restart h
  hc straps he

theorem answers_powerOn (straps : BitVec 4) : Answers (.powerOn straps) s (execPowerOn straps s) :=
  answers_of_lands (lands_of_fresh (fresh_startStation ..) (not_startsNothing_of_start rfl (by simp)))

theorem answers_lineReset (straps : BitVec 4) : Answers (.lineReset straps) s (execLineReset straps s) :=
  answers_of_lands (lands_of_fresh (fresh_startStation ..) (not_startsNothing_of_start rfl (by simp)))

theorem answers_resetAsserted : Answers .resetAsserted s (execResetAsserted s) :=
  answers_of_lands (lands_of_fresh (fresh_startStation ..) (not_startsNothing_of_start rfl (by simp)))

theorem lands_restartStation (straps : BitVec 4) (hn : ¬ StartsNothing c s) (u : State) :
    Lands c s (restartStation straps u) := by
  unfold restartStation
  dsimp only
  split
  · exact (follows_configBad _).lands (lands_of_fresh (fresh_startStation ..) hn)
  · exact lands_acceptConfig hn _

theorem answers_configReadComplete (image : Option (List Byte)) :
    Answers (.configReadComplete image) s (execConfigReadComplete image s) := by
  unfold execConfigReadComplete
  split
  · next hphase =>
    dsimp only
    split
    · exact answers_of_lands (lands_acceptConfig (fun hn => hn.image image rfl hphase) _)
    · exact answers_of_follows ((follows_configBad _).after (.of_ledger rfl))
  · exact answers_noEffect

/-! ## The restore -/

theorem ledger_restoreMck (r : Option MckComponent) (s : State) : (restoreMck r s).ledger = s.ledger := by
  cases r <;> rfl

theorem ledger_restoreTrm (r : Option TrmComponent) (s : State) : (restoreTrm r s).ledger = s.ledger := by
  unfold restoreTrm restoreIntegrator restoreDrive
  split
  · split <;> split <;> rfl
  · rfl

theorem ledger_restoredBalance (s : State) : (restoredBalance s).ledger = s.ledger := by
  unfold restoredBalance
  split
  · exact ledger_recomputeBalance s
  · rfl

theorem grout_restoreAdv (r : Option AdvComponent) (s : State) : (restoreAdv r s).grout = s.grout := by
  cases r <;> rfl

theorem backbone_restoreRecord (r : RingRecord) (s : State) : (restoreRecord r s).port.backbone = s.port.backbone := by
  have hadv : (restoreAdv r.adv { s with mem.seq := r.seq }).port = s.port := by cases r.adv <;> rfl
  have hgrt (u : State) : (restoreGrt r.grt u).port.backbone = u.port.backbone := by
    cases r.grt
    · rfl
    · exact congrArg Kept.backbone (kept_recomputeDeficit _)
  have hmck (u : State) : (restoreMck r.mck u).port = u.port := by cases r.mck <;> rfl
  have htrm (u : State) : (restoreTrm r.trm u).port = u.port := by
    unfold restoreTrm restoreIntegrator restoreDrive
    split
    · split <;> split <;> rfl
    · rfl
  have hbalance (u : State) : (restoredBalance u).port.backbone = u.port.backbone := by
    unfold restoredBalance
    split
    · exact congrArg Kept.backbone (kept_recomputeBalance u)
    · rfl
  unfold restoreRecord
  rw [hbalance, htrm, hmck, hgrt]
  exact congrArg Port.backbone hadv

/-- The restored GRT, or E as it stood, reaches both decisions. -/
theorem lands_restoreGrt (hn : ¬ StartsNothing c s) (r : Option GrtComponent) (hu : u.grout.deficit = s.grout.deficit)
    (hb : s.sums.Balanced → u.sums.Balanced) : Lands c s (restoreGrt r u) where
  balanced h := by
    cases r with
    | none => exact hb h
    | some _ => exact balanced_recomputeDeficit _
  requested := by
    cases r with
    | none => exact .inl hu
    | some _ => exact requested_recomputeDeficit (.inl hu)
  placed _ := by
    cases r with
    | none => exact .inl hu
    | some _ => exact placed_recomputeDeficit (.inl hu)
  delivered hs := absurd hs hn

theorem lands_restoreRecord (hn : ¬ StartsNothing c s) (r : RingRecord) (mem : MemPort) :
    Lands c s (restoreRecord r { s with mem := mem }) := by
  have hgrout (u : State) : (completeAdv u).grout = { u.grout with void := voidOf u.cfg u.adv.aRing } := rfl
  have hadv : (completeAdv (restoreAdv r.adv { s with mem := { mem with seq := r.seq } })).grout = _ :=
    (hgrout _).trans (by rw [grout_restoreAdv])
  have hgrt : Lands c s (restoreGrt r.grt (completeAdv (restoreAdv r.adv { s with mem := { mem with seq := r.seq } }))) := by
    refine lands_restoreGrt hn r.grt (by rw [hadv]) fun h => ?_
    simp only [Sums.Balanced, State.sums, hadv]
    exact h
  exact Follows.lands (.keep (ledger_restoredBalance _) (.keep (ledger_restoreTrm _ _) (.of_ledger (ledger_restoreMck _ _)))) hgrt

/-- JOINING entered from OFFLINE: what the publications of the join change reaches the decisions (R15). -/
theorem lands_enterJoining (hn : ¬ StartsNothing c s) (h : Lands c s u) (hb : AccountsTrue s → u.port.backbone = .offline) :
    Lands c s (enterJoining u) := by
  have hjoin : Lands c s { u with
      port := { u.port with backbone := .joining, joinTimer := u.timer u.cfg.joinWindow }
      adv := { u.adv with rateTimer := u.timer u.cfg.rateWindow } } := by
    refine ⟨h.balanced, h.requested, fun hs => ?_, fun hs => absurd hs hn⟩
    have ha : AccountsTrue s := hs.resolve_right hn
    have hp := h.placed hs
    simp only [Ledger.Placed, Ledger.table, State.ledger, State.books, hb ha] at hp
    exact hp
  exact (follows_publish _ _).lands ((follows_publish _ _).lands (Follows.lands (.of_ledger (ledger_refreshPubTimers _)) hjoin))

theorem backbone_startPendingWrite (s : State) : (startPendingWrite s).port.backbone = s.port.backbone := by
  unfold startPendingWrite
  split
  · split
    · rfl
    · split <;> rfl
  · rfl

theorem lands_completeRestore (hn : ¬ StartsNothing c s) (h : Lands c s u)
    (hb : AccountsTrue s → u.port.backbone = .offline) : Lands c s (completeRestore u) := by
  have hdone : Lands c s { u with boot.phase := .done } := Follows.lands (t := u) (.of_ledger rfl) h
  refine lands_enterJoining hn (Follows.lands (.of_ledger (ledger_startPendingWrite _)) hdone) fun ha => ?_
  rw [backbone_startPendingWrite]
  exact hb ha

theorem answers_ringRecordReadComplete (record : Option (List Byte)) :
    Answers (.ringRecordReadComplete record) s (execRingRecordReadComplete record s) := by
  unfold execRingRecordReadComplete
  split
  · next hphase =>
    have hn : ¬ StartsNothing (.ringRecordReadComplete record) s := fun hn => hn.record record rfl hphase
    have hb (ha : AccountsTrue s) : s.port.backbone = .offline := (ha.before (by simp [hphase])).1
    dsimp only
    split
    · refine answers_of_lands (lands_completeRestore hn (lands_restoreRecord hn _ _) fun ha => ?_)
      rw [backbone_restoreRecord]
      exact hb ha
    · exact answers_of_lands (lands_completeRestore hn (.of_follows (.of_ledger (ledger_raiseEvent _ _))) hb)
  · exact answers_noEffect

/-! ## The backbone port -/

theorem sums_setBackbone (b : Backbone) (s : State) : (setBackbone b s).sums = s.sums := by
  have hline (v : State) : (decideLine v).sums = v.sums := sums_of_books (books_decideLine v)
  have hjobs (v : State) : (refreshGates (if b = .isolated then abortBuild v else v)).sums = v.sums := by
    rw [sums_of_ledger (ledger_refreshGates _)]
    split
    · exact sums_of_ledger (ledger_abortBuild v)
    · rfl
  unfold setBackbone
  dsimp only
  rw [hjobs]
  split
  · exact hline _
  · rfl

theorem ledger_startEvaluations (s : State) : (startEvaluations s).ledger = s.ledger := rfl

theorem answers_joinTimerExpiry : Answers .joinTimerExpiry s (execJoinTimerExpiry s) := by
  unfold execJoinTimerExpiry
  split
  · refine answers_of_sums ?_
    rw [sums_of_ledger (ledger_startPendingExtend _), sums_of_ledger (ledger_refreshPubTimers _),
      sums_of_ledger (ledger_startEvaluations _)]
    exact sums_setBackbone _ _
  · exact answers_noEffect

theorem answers_lineFree : Answers .lineFree s (execLineFree s) := by
  unfold execLineFree
  split
  · split
    · exact answers_noEffect
    · exact answers_of_ledger rfl
  · exact answers_noEffect

theorem answers_lostArbitration : Answers .lostArbitration s (execLostArbitration s) := by
  unfold execLostArbitration
  split
  · exact answers_of_ledger rfl
  · exact answers_noEffect

theorem sums_leaveIsolated (s : State) : (leaveIsolated s).sums = s.sums := by
  unfold leaveIsolated
  split
  · exact sums_setBackbone _ _
  · rfl

theorem answers_acknowledged : Answers .acknowledged s (execAcknowledged s) := by
  unfold execAcknowledged
  split
  · exact answers_of_sums (sums_leaveIsolated _)
  · exact answers_noEffect

theorem sums_failTransmission (f : Frame) (s : State) : (failTransmission f s).sums = s.sums := by
  unfold failTransmission
  dsimp only
  split
  · exact sums_setBackbone _ _
  · rfl

theorem answers_unacknowledged : Answers .unacknowledged s (execUnacknowledged s) := by
  unfold execUnacknowledged
  split
  · exact answers_of_sums (sums_failTransmission _ s)
  · exact answers_noEffect

theorem answers_bitError : Answers .bitError s (execBitError s) := by
  unfold execBitError
  split
  · exact answers_of_sums (sums_failTransmission _ s)
  · exact answers_noEffect

theorem sums_silenceGrout (atYield : Bool) (s : State) : (silenceGrout atYield s).sums = s.sums := by
  unfold silenceGrout
  dsimp only
  rw [sums_of_ledger (ledger_clearPulse _), sums_of_ledger (ledger_writeDuty _ _ _)]
  rfl

/-- At a number clash E and its terms stand (R128), and the STATION fault carries the ledger on. -/
theorem lands_enterSilent (h : u.sums = s.sums) (code : Nat) : Lands c s (enterSilent code u) := by
  have hjobs (v : State) : (refreshGates (stopShoeTimers (silenceMuck (silenceGrout false v)))).sums = v.sums := by
    rw [sums_of_ledger (ledger_refreshGates _), sums_of_ledger (ledger_stopShoeTimers _),
      sums_of_ledger (ledger_silenceMuck _), sums_silenceGrout]
  unfold enterSilent
  exact (follows_raiseFault _ _ _ _).lands (.of_sums ((hjobs _).trans h))

theorem ledger_bufferFrame (sender : Nat) (b : Bulletin) (s : State) : (bufferFrame sender b s).ledger = s.ledger := by
  unfold bufferFrame
  split <;> rfl

theorem lands_judgeFrame (h : u.sums = s.sums) (f : Frame) : Lands c s (judgeFrame f u) := by
  unfold judgeFrame
  split
  · exact lands_enterSilent h _
  · split
    · exact .of_sums ((sums_of_ledger (ledger_bufferFrame _ _ _)).trans h)
    · exact .of_sums h

theorem answers_frameArrives (f : Frame) : Answers (.frameArrives f) s (execFrameArrives f s) := by
  unfold execFrameArrives
  split
  · have hleave : (leaveIsolated { s with port.ackDriven := true }).sums = s.sums := (sums_leaveIsolated _).trans rfl
    exact answers_of_lands (lands_judgeFrame hleave f)
  · exact answers_of_ledger rfl

theorem answers_publicationTimerExpiry (k : OwnKind) :
    Answers (.publicationTimerExpiry k) s (execPublicationTimerExpiry k s) :=
  answers_when (answers_of_follows (follows_publish k s))

end Sys2Proof.Machine
end

section
/-! The commands of the peer table, the services, the samples, the jobs, the pulses and the pins, and with them every command. -/
namespace Sys2Proof.Machine
open Sys2Proof

variable {c : Instr} {s t u : State}

/-! ## Taking frames -/

theorem follows_takeContent (n : Nat) (b : Bulletin) (s : State) : Follows s (takeContent n b (popFrame s)) := by
  unfold takeContent
  split
  · exact (follows_tableChanged _).after (.of_ledger rfl)
  · refine (follows_tableChanged _).after (.of_ledger ?_)
    split
    · exact (ledger_raiseEvent _ _).trans (ledger_putEntry _ _ (popFrame s))
    · exact ledger_putEntry _ _ (popFrame s)

theorem follows_handBulletin (b : Bulletin) (empty : Bool) (s : State) : Follows s (handBulletin b empty s) := by
  unfold handBulletin
  split
  · split
    · exact follows_setMode _ s
    · exact .refl s
  · exact .of_ledger (ledger_refreshWait s)
  · exact .refl s

theorem answers_bulletinTaken : Answers .bulletinTaken s (execBulletinTaken s) := by
  have htaken (n : Nat) (b : Bulletin) (empty : Bool) :
      Answers .bulletinTaken s (answer (handBulletin b empty (takeContent n b (popFrame s)))) :=
    answers_of_follows ((follows_handBulletin _ _ _).after (follows_takeContent n b s))
  unfold execBulletinTaken
  split
  · split
    iterate 7 exact htaken _ _ _
    iterate 5 exact answers_noEffect
  · exact answers_noEffect

theorem answers_buildTaken : Answers .buildTaken s (execBuildTaken s) := by
  unfold execBuildTaken
  split
  · exact answers_of_follows (.keep (ledger_refreshGates _) (.keep (ledger_takeBuild _ _) (follows_takeContent _ _ s)))
  · exact answers_noEffect

theorem answers_stopTaken : Answers .stopTaken s (execStopTaken s) := by
  unfold execStopTaken
  split
  · exact answers_of_follows ((follows_setStopped _).after (follows_takeContent _ _ s))
  · exact answers_noEffect

/-! ## Yields (R171) -/

theorem ledger_stopRoleInputs (r : Role) (s : State) : (stopRoleInputs r s).ledger = s.ledger := by
  unfold stopRoleInputs
  extract_lets stopIn stopCh
  rw [ledger_foldl, ledger_foldl]
  · intro v i
    simp only [stopIn]
    split <;> rfl
  · intro v i
    simp only [stopCh]
    split <;> rfl

/-- Off the GROUT role there is nothing to decide. -/
theorem follows_of_not_inRole (h : t.sums = s.sums) (hr : t.holds .grout = false) : Follows s t where
  ring := congrArg Sums.ring h
  balanced := by rw [h]; exact id
  delivered := delivered_of_sums h
  requested _ _ := .inr (.inl hr)
  placed _ _ := .inr (.inl hr)

theorem inRole_silenceGrout (atYield : Bool) (s : State) : (silenceGrout atYield s).holds .grout = s.holds .grout :=
  congrArg (·.inRole) ((ledger_clearPulse _).trans (ledger_writeDuty _ _ _))

theorem follows_yieldUnit (r : Role) (s : State) :
    Follows s (yieldUnit r { s with boot.yielded := s.boot.yielded.add r }) := by
  cases r with
  | thrust => exact .of_ledger rfl
  | drive => exact .of_ledger rfl
  | screw => exact .of_ledger ((ledger_silenceMuck _).trans rfl)
  | grout =>
    refine follows_of_not_inRole ((sums_silenceGrout true _).trans rfl) ((inRole_silenceGrout true _).trans ?_)
    exact Bool.and_false _

theorem follows_yieldRole (r : Role) (s : State) : Follows s (yieldRole r s) :=
  (follows_tableChanged _).after (.keep (ledger_putOwnEntry _ _) (.keep (ledger_refreshPubTimers _)
    (.keep (ledger_stopRoleInputs _ _) (follows_yieldUnit r s))))

theorem follows_yieldScrew (b : IdBody) (s : State) : Follows s (yieldScrew b s) := by
  unfold yieldScrew
  split
  · exact .keep (ledger_raiseEvent _ _) (follows_yieldRole _ s)
  · exact .refl s

theorem follows_yieldSector (b : IdBody) (s : State) : Follows s (yieldSector b s) := by
  unfold yieldSector
  split
  · refine .keep (ledger_raiseEvent _ _) ?_
    split
    · exact (follows_yieldRole _ _).after (follows_yieldRole _ s)
    · exact follows_yieldRole _ s
  · exact .refl s

theorem follows_checkYield (sender : Nat) (b : IdBody) (s : State) : Follows s (checkYield sender b s) := by
  unfold checkYield
  split
  · exact (follows_yieldSector _ _).after (follows_yieldScrew _ s)
  · exact .refl s

theorem answers_idTaken : Answers .idTaken s (execIdTaken s) := by
  unfold execIdTaken
  split
  · exact answers_of_follows ((follows_checkYield _ _ _).after (follows_takeContent _ _ s))
  · exact answers_noEffect

/-! ## Ring closes (R116, R47 to R49) -/

/-- A ring close of the grout unit: E is the carried balance, and it reaches both decisions (R116). -/
theorem closeGrout_decides (withCarry : Bool) (s : State) :
    (s.sums.Balanced → (closeGrout withCarry s).sums.Balanced) ∧
      (∀ e, s.books.Requested e → (closeGrout withCarry s).books.Requested e) ∧
      ∀ e, s.ledger.Placed e → (closeGrout withCarry s).ledger.Placed e := by
  unfold closeGrout
  split
  · dsimp only
    refine ⟨fun _ => ?_, fun e _ => ?_, fun e _ => placed_decideLine e _⟩
    · rw [sums_of_books (books_decideLine _)]
      simp [Sums.Balanced, State.sums, decideHoldRequest]
    · rw [books_decideLine]; exact requested_decideHoldRequest e _
  · exact ⟨id, fun _ => id, fun _ => id⟩

/-- From a state with the ring moved on, the close of the grout unit lands: D may fall there, the ring being another. -/
theorem lands_closeGrout (withCarry : Bool) {ring : Nat} (h : Follows s t) (hr : ring ≠ t.adv.ring)
    (hu : u.ledger = { t.ledger with ring := ring }) : Lands c s (closeGrout withCarry u) := by
  obtain ⟨hbalanced, hrequested, hplaced⟩ := closeGrout_decides withCarry u
  refine ⟨fun hs => hbalanced ?_, hrequested _ ?_, fun _ => hplaced _ ?_, fun _ hring => ?_⟩
  · rw [show u.sums = { t.sums with ring := ring } from congrArg (·.toSums) hu]
    exact h.balanced hs
  · rw [show u.books = { t.books with ring := ring } from congrArg (·.toBooks) hu]
    exact h.requested _ (.inl rfl)
  · rw [hu]; exact h.placed _ (.inl rfl)
  · have hnew : (closeGrout withCarry u).adv.ring = ring := by
      have hring : u.adv.ring = ring := congrArg (·.ring) hu
      simpa using hring
    exact absurd (hnew.symm.trans (hring.trans h.ring.symm)) hr

theorem lands_closeRing (withCarry : Bool) {ring : Nat} (h : Follows s t) (hr : ring ≠ t.adv.ring) :
    Lands c s (closeRing withCarry ring t) := by
  unfold closeRing
  exact (follows_settle _).lands (Follows.lands (.keep (ledger_triggerSave _) ((follows_tableChanged _).after
    (.keep (ledger_closeShoe _) (.of_ledger (ledger_closeMuck _))))) (lands_closeGrout withCarry h hr rfl))

theorem lands_takeRing (ring : Nat) (h : Follows s t) : Lands c s (takeRing ring t) := by
  unfold takeRing
  split
  · exact .of_follows h
  · next hr =>
    split
    · exact lands_closeRing true h hr
    · split
      · exact Follows.lands (.of_ledger (ledger_raiseEvent _ _)) (lands_closeRing false h hr)
      · exact .of_follows (.keep (ledger_raiseEvent _ _) h)

theorem follows_takeMode (m : MachineMode) (s : State) : Follows s (takeMode m s) := by
  unfold takeMode
  split
  · exact follows_setMode _ s
  · exact .refl s

theorem answers_modeTaken : Answers .modeTaken s (execModeTaken s) := by
  unfold execModeTaken
  split
  · exact answers_of_lands ((follows_takeMode _ _).lands (lands_takeRing _ (follows_takeContent _ _ s)))
  · exact answers_noEffect

/-! ## Timers of the peer table and of the advance unit -/

theorem follows_expireStationSlot (n : Nat) (k : OwnKind) (s : State) : Follows s (expireStationSlot n k s) := by
  have hentry (e : StationEntry) : Follows s (tableChanged { s with table := s.table.putEntry n e }) :=
    (follows_tableChanged _).after (.of_ledger (ledger_putEntry n e s))
  unfold expireStationSlot
  dsimp only
  split
  · exact .keep (ledger_raiseEvent _ _) (hentry _)
  · exact hentry _

theorem follows_expireConsoleSlot (sl : ConsoleSlot) (s : State) : Follows s (expireConsoleSlot sl s) := by
  unfold expireConsoleSlot
  dsimp only
  split
  · exact .keep (ledger_raiseEvent _ _) (.keep (ledger_refreshGates _) ((follows_setMode _ _).after (.of_ledger rfl)))
  · exact .keep (ledger_refreshGates _) (.of_ledger rfl)
  · exact .keep (ledger_refreshGates _) (.of_ledger rfl)
  · exact .keep (ledger_refreshGates _) (.of_ledger rfl)

theorem answers_slotCurrencyExpiry (slot : SlotRef) :
    Answers (.slotCurrencyExpiry slot) s (execSlotCurrencyExpiry slot s) := by
  cases slot with
  | station n k =>
    unfold execSlotCurrencyExpiry
    dsimp only
    split
    · exact answers_of_follows (follows_expireStationSlot n k s)
    · exact answers_noEffect
  | console sl =>
    unfold execSlotCurrencyExpiry
    dsimp only
    split
    · exact answers_of_follows (follows_expireConsoleSlot sl s)
    · exact answers_noEffect

theorem answers_staleTimerExpiry : Answers .staleTimerExpiry s (execStaleTimerExpiry s) :=
  answers_when (answers_of_follows (.keep (ledger_refreshGates _) (follows_setReference _ _ _ s)))

theorem answers_rateTimerExpiry : Answers .rateTimerExpiry s (execRateTimerExpiry s) :=
  answers_when (answers_of_ledger rfl)

/-! ## Services -/

/-- A SERVICE taken leaves what its action makes of the state, or the state with the frame gone. -/
theorem lands_takeService (b : ServiceBody) {act : State → State} (h : s.targeted b = true → Lands c s (act (popFrame s))) :
    Lands c s (takeService b act s) := by
  unfold takeService
  split
  · next htarget => exact h htarget
  · exact .of_follows (.of_ledger rfl)

theorem follows_leave {act : State → State} (h : ∀ v, Follows v (act v)) : Lands c s (act (popFrame s)) :=
  .of_follows ((h _).after (.of_ledger rfl))

/-- E and its terms stand at a CLEAR_FAULT itself: a line that leaves FAULT waits in IDLE for the end of the event (log 31). -/
theorem sums_clearJobFault (j : Job) (s : State) : (clearJobFault j s).sums = s.sums := by
  have hleave (v : State) : (leaveFault j v).sums = v.sums := by
    cases j with
    | thrust => exact sums_of_ledger (ledger_clearShoeFault v)
    | station | grout | drive | screw => rfl
  unfold clearJobFault
  split
  · rfl
  · split
    · rfl
    · unfold acceptClear
      rw [sums_of_ledger (ledger_refreshGates _), hleave, sums_of_ledger (ledger_faultAreaChanged _)]
      rfl

theorem answers_clearFault : Answers .clearFault s (execClearFault s) := by
  unfold execClearFault
  split
  · refine answers_of_lands (lands_takeService _ fun _ => ?_)
    split
    · exact .of_sums ((sums_clearJobFault _ _).trans rfl)
    · exact .of_sums rfl
  · exact answers_noEffect

theorem answers_clearEvents : Answers .clearEvents s (execClearEvents s) := by
  unfold execClearEvents
  split
  · exact answers_of_lands (lands_takeService _ fun _ => .of_sums rfl)
  · exact answers_noEffect

theorem follows_resumeStation (s : State) : Follows s (resumeStation s) := by
  unfold resumeStation
  split
  · exact .refl s
  · split
    · exact .of_ledger (ledger_raiseEvent _ s)
    · exact follows_clearStopped s

theorem answers_resume : Answers .resume s (execResume s) := by
  unfold execResume
  split
  · exact answers_of_lands (lands_takeService _ fun _ => follows_leave follows_resumeStation)
  · exact answers_noEffect

theorem answers_restart (straps : BitVec 4) : Answers (.restart straps) s (execRestart straps s) := by
  unfold execRestart
  split
  · next b hb =>
    refine answers_of_lands (lands_takeService b fun htarget => lands_restartStation straps (fun hn => ?_) _)
    obtain ⟨hown, hall⟩ := hn.target b hb rfl
    simp [State.targeted, hown, hall] at htarget
  · exact answers_noEffect

theorem follows_forgetStation (n : Nat) (s : State) : Follows s (forgetStation n s) := by
  unfold forgetStation
  split
  · exact .refl s
  · exact (follows_tableChanged _).after (.of_ledger (ledger_putEntry _ _ s))

theorem answers_forget : Answers .forget s (execForget s) := by
  unfold execForget
  split
  · exact answers_of_lands (lands_takeService _ fun _ => follows_leave (follows_forgetStation _))
  · exact answers_noEffect

theorem answers_save : Answers .save s (execSave s) := by
  unfold execSave
  split
  · exact answers_of_lands (lands_takeService _ fun _ => follows_leave fun v => .of_ledger (ledger_triggerSave v))
  · exact answers_noEffect

/-! ## Samples -/

theorem follows_sampleLinePressure (value : Option Int) (s : State) : Follows s (sampleLinePressure value s) := by
  cases value with
  | none => exact .of_ledger rfl
  | some v => exact .keep (ledger_examineGroutPressure _) ((follows_examineDerate _).after (.of_ledger rfl))

theorem ledger_sampleGroupPressure (value : Option Int) (s : State) : (sampleGroupPressure value s).ledger = s.ledger := by
  cases value with
  | none => rfl
  | some v => exact (ledger_shoePressure _).trans rfl

theorem ledger_sampleStroke (value : Option Int) (s : State) : (sampleStroke value s).ledger = s.ledger := by
  cases value with
  | none => rfl
  | some v => exact (ledger_shoeStroke _).trans rfl

theorem ledger_takeChamber (before after : ChamberInput) (s : State) : (takeChamber before after s).ledger = s.ledger := by
  refine (ledger_recomputeChamber _).trans ?_
  split <;> rfl

theorem follows_deliverSample (f : InFunction) (value : Option Int) (s : State) : Follows s (deliverSample f value s) := by
  cases f with
  | unused => exact .refl s
  | stroke => exact .of_ledger (ledger_sampleStroke value s)
  | groupPressure => exact .of_ledger (ledger_sampleGroupPressure value s)
  | linePressure => exact follows_sampleLinePressure value s
  | chamber1 | chamber2 | chamber3 => exact .of_ledger ((ledger_takeChamber _ _ _).trans rfl)
  | torqueA | torqueB => exact .of_ledger rfl

theorem answers_conversionComplete (raw : BitVec 12) :
    Answers (.conversionComplete raw) s (execConversionComplete raw s) := by
  unfold execConversionComplete
  split
  · dsimp only
    split
    · exact answers_of_follows ((follows_deliverSample _ _ _).after (.of_ledger rfl))
    · exact answers_of_ledger rfl
  · exact answers_noEffect

theorem follows_reportLost (f : InFunction) (value : Int) (s : State) : Follows s (reportLost f value s) := by
  cases f with
  | stroke | groupPressure | linePressure | torqueA | torqueB => exact follows_raiseFault _ _ _ s
  | unused | chamber1 | chamber2 | chamber3 => exact .refl s

theorem answers_inputHoldExpiry (i : Fin 12) : Answers (.inputHoldExpiry i) s (execInputHoldExpiry i s) :=
  answers_when (answers_of_follows ((follows_reportLost _ _ _).after (.of_ledger rfl)))

/-! ## Job evaluations and expiries -/

theorem answers_driveEvaluation : Answers .driveEvaluation s (execDriveEvaluation s) := by
  unfold execDriveEvaluation
  split
  · exact answers_of_ledger (show (evaluateDrive s).ledger = _ from ledger_evaluateDrive s)
  · exact answers_noEffect

theorem answers_thrustEvaluation : Answers .thrustEvaluation s (execThrustEvaluation s) := by
  unfold execThrustEvaluation
  split
  · exact answers_of_ledger (show (evaluateThrust s).ledger = _ from ledger_evaluateThrust s)
  · exact answers_noEffect

theorem answers_screwEvaluation : Answers .screwEvaluation s (execScrewEvaluation s) := by
  unfold execScrewEvaluation
  split
  · exact answers_of_ledger (show (evaluateScrew s).ledger = _ from ledger_evaluateScrew s)
  · exact answers_noEffect

theorem follows_evaluateLine (s : State) : Follows s (evaluateLine s) where
  toCarries := .of_books (books_setLine _ s)
  placed _ _ := by
    rw [evaluateLine, ledger_setLine, lineTable_eq_table]
    exact .inr (.inr (.inr (.inr rfl)))

theorem ledger_writeRate (s : State) : (writeRate s).ledger = s.ledger := ledger_writeDuty _ _ _

/-- The evaluation of R117: a fill ratio's new T reaches the decisions, and step 3 decides a line in OFF too. -/
theorem follows_evaluateGrout (s : State) : Follows s (evaluateGrout s) := by
  have hfill : Follows s (deriveFill s) := by
    unfold deriveFill
    split
    · exact .refl s
    · exact (follows_recomputeTarget _).after (.of_ledger rfl)
  have hband : Follows s (recomputeBand (deriveFill s)) := hfill.trans (follows_recomputeBand _)
  unfold evaluateGrout
  dsimp only
  split
  · exact hband
  · exact .keep (ledger_writeRate _) ((follows_evaluateLine _).after hband)

theorem answers_groutEvaluation : Answers .groutEvaluation s (execGroutEvaluation s) := by
  have htimer (v : State) (d : Timer) : { v with grout.evalTimer := d }.ledger = v.ledger := rfl
  unfold execGroutEvaluation
  split
  · exact answers_of_follows (.keep (htimer _ _) (follows_evaluateGrout s))
  · exact answers_noEffect

/-- A timer's expiry that raises a fault. -/
theorem answers_faultExpiry {p : Prop} [Decidable p] {j : Job} {cause : FaultCause} {value : Int} (h : t.ledger = s.ledger) :
    Answers c s (if p then answer (raiseFault j cause value t) else noEffect s) :=
  answers_when (answers_of_follows ((follows_raiseFault _ _ _ _).after (.of_ledger h)))

theorem answers_holdOffExpiry : Answers .holdOffExpiry s (execHoldOffExpiry s) :=
  answers_when (answers_of_ledger ((ledger_testClaim _).trans rfl))

theorem answers_waitTimerExpiry : Answers .waitTimerExpiry s (execWaitTimerExpiry s) :=
  answers_when (answers_of_ledger rfl)

/-! ## Channels -/

theorem answers_periodBoundary (i : Fin 8) : Answers (.periodBoundary i) s (execPeriodBoundary i s) :=
  answers_when (answers_of_ledger (ledger_putChannel _ _ s))

theorem answers_activeTimeEnd (i : Fin 8) : Answers (.activeTimeEnd i) s (execActiveTimeEnd i s) :=
  answers_when (answers_of_ledger (ledger_putChannel _ _ s))

theorem follows_takeDriveSpeed (n : Nat) (s : State) : Follows s (takeDriveSpeed n s) := by
  unfold takeDriveSpeed examineOverspeed
  dsimp only
  split
  · exact (follows_raiseFault _ _ _ _).after (.of_ledger rfl)
  · exact .of_ledger rfl

theorem ledger_takeScrewSpeed (n : Nat) (s : State) : (takeScrewSpeed n s).ledger = s.ledger := rfl

theorem ledger_restartScrewStall (s : State) : (restartScrewStall s).ledger = s.ledger := by
  unfold restartScrewStall
  split <;> rfl

theorem follows_deliverPeriod (f : ChFunction) (d : Nat) (s : State) : Follows s (deliverPeriod f d s) := by
  unfold deliverPeriod
  split
  · exact follows_takeDriveSpeed _ s
  · exact .of_ledger ((ledger_takeScrewSpeed _ _).trans (ledger_restartScrewStall s))
  all_goals exact .refl s

theorem follows_deliverNoEdge (f : ChFunction) (s : State) : Follows s (deliverNoEdge f s) := by
  unfold deliverNoEdge
  split
  · exact follows_takeDriveSpeed _ s
  · exact .of_ledger (ledger_takeScrewSpeed _ s)
  all_goals exact .refl s

theorem ledger_restartBlocked (s : State) : (restartBlocked s).ledger = s.ledger := by
  unfold restartBlocked
  split <;> rfl

/-- A counted stroke adds to D, up to its bound, and E follows (R112, R115). -/
theorem follows_countStroke (s : State) : Follows s (countStroke s) := by
  refine .keep (ledger_restartBlocked _) ?_
  split
  · exact follows_recomputeDeficit (target := s.grout.target) rfl fun h => ⟨le_min h (Nat.le_add_right _ _), min_le_left _ _⟩
  · exact .refl s

theorem ledger_countScale (s : State) : (countScale s).ledger = s.ledger := by
  unfold countScale
  split
  · exact (ledger_recomputeBalance _).trans rfl
  · rfl

theorem follows_deliverCount (f : ChFunction) (s : State) : Follows s (deliverCount f s) := by
  unfold deliverCount
  split
  · exact follows_countStroke s
  · exact .of_ledger (ledger_countScale s)
  all_goals exact .refl s

theorem follows_countEdge (i : Fin 8) (s : State) : Follows s (countEdge i s) := by
  unfold countEdge
  dsimp only
  split
  · exact (follows_deliverCount _ _).after (.of_ledger (ledger_putChannel _ _ s))
  · split
    · exact (follows_deliverPeriod _ _ _).after (.of_ledger (ledger_putChannel _ _ s))
    · exact .of_ledger (ledger_putChannel _ _ s)
  all_goals exact .refl s

theorem follows_takeEdge (pin : Fin 4) (rising : Bool) (s : State) : Follows s (takeEdge pin rising s) := by
  unfold takeEdge
  split
  · split
    · exact follows_countEdge _ s
    · exact .refl s
  · exact .refl s

theorem answers_channelEdge (pin : Fin 4) (rising : Bool) (time : Nat) :
    Answers (.channelEdge pin rising time) s (execChannelEdge pin rising time s) := by
  unfold execChannelEdge
  dsimp only
  split
  · exact answers_of_follows ((follows_takeEdge _ _ _).after (.of_ledger rfl))
  · exact answers_of_ledger rfl

theorem answers_channelTimeoutExpiry (i : Fin 8) : Answers (.channelTimeoutExpiry i) s (execChannelTimeoutExpiry i s) :=
  answers_when (answers_of_follows ((follows_deliverNoEdge _ _).after (.of_ledger (ledger_putChannel _ _ s))))

theorem ledger_endPulse (s : State) : (endPulse s).ledger = s.ledger := by
  unfold endPulse
  split
  · exact ledger_startPulse s
  · exact ledger_clearPulse s
  · exact ledger_clearPulse s

theorem answers_pulseWidthExpiry : Answers .pulseWidthExpiry s (execPulseWidthExpiry s) :=
  answers_when (answers_of_ledger (ledger_endPulse s))

/-! ## Pins and memory writes -/

theorem answers_stopInputActive : Answers .stopInputActive s (execStopInputActive s) := by
  have hpin : Follows s (refreshPubTimers { s with pins.stopInput := true }) :=
    .of_ledger ((ledger_refreshPubTimers _).trans rfl)
  unfold execStopInputActive
  split
  · exact answers_noEffect
  · dsimp only
    split
    · exact answers_of_follows ((follows_setStopped _).after ((follows_publish _ _).after hpin))
    · exact answers_of_follows hpin

theorem answers_stopInputReleased : Answers .stopInputReleased s (execStopInputReleased s) := by
  have hpin : Follows s (refreshPubTimers { s with pins.stopInput := false }) :=
    .of_ledger ((ledger_refreshPubTimers _).trans rfl)
  unfold execStopInputReleased
  split
  · exact answers_of_follows ((follows_tableChanged _).after (.keep (ledger_putOwnEntry _ _) hpin))
  · exact answers_noEffect

theorem answers_permitInputChange (active : Bool) : Answers (.permitInputChange active) s (execPermitInputChange active s) :=
  answers_of_ledger ((ledger_refreshGates _).trans rfl)

theorem ledger_continueStart (s : State) : (continueStart s).ledger = s.ledger := by
  unfold continueStart
  split <;> rfl

theorem ledger_completeWrite (w : MemWrite) (answered : Bool) (s : State) : (completeWrite w answered s).ledger = s.ledger := by
  cases answered <;> rfl

theorem answers_memoryWriteComplete (answered : Bool) :
    Answers (.memoryWriteComplete answered) s (execMemoryWriteComplete answered s) := by
  unfold execMemoryWriteComplete
  split
  · exact answers_of_ledger ((ledger_startPendingWrite _).trans ((ledger_continueStart _).trans (ledger_completeWrite _ _ s)))
  · exact answers_noEffect

/-! ## Every command -/

/-- What any command makes of the grout ledger. -/
theorem lands_exec (h : exec c s = .next t) : Lands c s t := by
  suffices hc : Answers c s (exec c s) from hc t h
  cases c with
  | powerOn straps => exact answers_powerOn straps
  | lineReset straps => exact answers_lineReset straps
  | configReadComplete image => exact answers_configReadComplete image
  | ringRecordReadComplete record => exact answers_ringRecordReadComplete record
  | joinTimerExpiry => exact answers_joinTimerExpiry
  | lineFree => exact answers_lineFree
  | lostArbitration => exact answers_lostArbitration
  | acknowledged => exact answers_acknowledged
  | unacknowledged => exact answers_unacknowledged
  | bitError => exact answers_bitError
  | frameArrives frame => exact answers_frameArrives frame
  | bulletinTaken => exact answers_bulletinTaken
  | idTaken => exact answers_idTaken
  | modeTaken => exact answers_modeTaken
  | buildTaken => exact answers_buildTaken
  | stopTaken => exact answers_stopTaken
  | clearFault => exact answers_clearFault
  | clearEvents => exact answers_clearEvents
  | resume => exact answers_resume
  | restart straps => exact answers_restart straps
  | forget => exact answers_forget
  | save => exact answers_save
  | slotCurrencyExpiry slot => exact answers_slotCurrencyExpiry slot
  | staleTimerExpiry => exact answers_staleTimerExpiry
  | publicationTimerExpiry kind => exact answers_publicationTimerExpiry kind
  | rateTimerExpiry => exact answers_rateTimerExpiry
  | conversionComplete raw => exact answers_conversionComplete raw
  | inputHoldExpiry input => exact answers_inputHoldExpiry input
  | driveEvaluation => exact answers_driveEvaluation
  | thrustEvaluation => exact answers_thrustEvaluation
  | driveStallTimerExpiry | thrustOverpressureExpiry | retractTimerExpiry | extendTimerExpiry | blockedTimerExpiry
  | groutOverpressureExpiry | screwStallTimerExpiry | feedbackTimerExpiry => exact answers_faultExpiry rfl
  | holdOffExpiry => exact answers_holdOffExpiry
  | waitTimerExpiry => exact answers_waitTimerExpiry
  | groutEvaluation => exact answers_groutEvaluation
  | screwEvaluation => exact answers_screwEvaluation
  | periodBoundary channel => exact answers_periodBoundary channel
  | channelEdge pin rising time => exact answers_channelEdge pin rising time
  | channelTimeoutExpiry channel => exact answers_channelTimeoutExpiry channel
  | pulseWidthExpiry => exact answers_pulseWidthExpiry
  | stopInputActive => exact answers_stopInputActive
  | stopInputReleased => exact answers_stopInputReleased
  | permitInputChange active => exact answers_permitInputChange active
  | memoryWriteComplete answered => exact answers_memoryWriteComplete answered
  | resetAsserted => exact answers_resetAsserted
  | activeTimeEnd channel => exact answers_activeTimeEnd channel

end Sys2Proof.Machine
end

section
/-! R115: the deficit stays balanced, in its range, never lost at a stroke, and decided upon at every new value. -/
namespace Sys2Proof.Machine
open Sys2Proof

/-- Every step keeps E = T + C − D. -/
theorem step_keeps_deficitBalanced {s t : State} (hs : DeficitBalanced s) (h : step s = .next t) : DeficitBalanced t := by
  unfold step at h
  split at h
  · obtain rfl := Host.Outcome.next.inj h
    exact hs
  · exact (deficitBalanced_iff t).mpr ((lands_exec h).balanced ((deficitBalanced_iff s).mp hs))

/-- The range of E from those of T, C and D (section 7.4). -/
theorem deficit_range {s : State} (hs : DeficitBalanced s) (hd : s.grout.delivered ≤ 2000000000)
    (hc : s.grout.carry.natAbs ≤ 1000000) (ht : s.grout.target ≤ 43253100) :
    -2001000000 ≤ s.grout.deficit ∧ s.grout.deficit ≤ 44253100 := by
  unfold DeficitBalanced at hs
  omega

/-- The table of R118 read from the state. -/
theorem lineTable_eq (s : State) :
    s.lineTable =
      if s.grout.deficit < (s.cfg.effectiveStroke : Int) then .idle
      else if s.events.stopped = true ∨ s.port.backbone = .isolated ∨ s.table.mode = .hold then .held
      else if s.grout.derate = true then .limited
      else .injecting := by
  simp only [State.lineTable, Bool.or_eq_true, beq_iff_eq, or_assoc]

/-- GROUT carries E as it stands, among the quantities that are no change fields (R11, R122). -/
theorem content_grout (s : State) :
    ∃ b, s.content .grout = .grout b ∧ b.deficit = s.grout.deficit ∧
      ∀ e : Int, changePart (.grout { b with deficit := e }) = changePart (.grout b) :=
  ⟨s.groutBody, rfl, rfl, fun _ => rfl⟩

/-- At a new E in the GROUT role the flag is as R121 decides it. -/
theorem Books.Requested.decided {e : Int} {b : Books} (h : b.Requested e) (he : b.deficit ≠ e) (hr : b.inRole = true) :
    ((b.cfg.backlogLimit : Int) < b.deficit → b.holdRequest = true) ∧
      (b.deficit ≤ (b.cfg.backlogLimit / 2 : Nat) → b.holdRequest = false) := by
  rcases h with hold | hrole | hdecided
  · exact absurd hold he
  · simp [hr] at hrole
  · exact hdecided

/-- At a new E in the GROUT role a line neither OFF nor in FAULT is as its table says. -/
theorem Ledger.Placed.decided {e : Int} {l : Ledger} (h : l.Placed e) (he : l.deficit ≠ e) (hr : l.inRole = true)
    (hoff : l.line ≠ .off) (hfault : l.line ≠ .fault) : l.line = l.table := by
  rcases h with hold | hrole | hline | hline | hline
  · exact absurd hold he
  · simp [hr] at hrole
  · exact absurd hline hoff
  · exact absurd hline hfault
  · exact hline

/-- Settles O7, by the grout ledger: each operation carries it on to the two decisions (`Follows`), and so does each command
(`lands_exec`). -/
theorem deficitStaysBalanced : Obligations.DeficitStaysBalanced := by
  refine ⟨fun s t => step_keeps_deficitBalanced, fun s => deficit_range, fun c s t h hd hn hr => ?_,
    fun c s t _ h he hg => ?_, content_grout⟩
  · exact ((lands_exec h).delivered hn hr hd).1
  · obtain ⟨habove, hbelow⟩ := (lands_exec h).requested.decided he hg
    refine ⟨habove, hbelow, fun hs hoff hfault => ?_⟩
    rw [← lineTable_eq, lineTable_eq_table]
    exact ((lands_exec h).placed hs).decided he hg hoff hfault

end Sys2Proof.Machine
end

section
/-! Where a configuration comes to be accepted (R168): every operation but those of a start leaves the acceptance standing, and
all but the yields of R171 and the phases of a start leave the whole boot unit alone. -/
namespace Sys2Proof.Machine
open Sys2Proof

/-! ## Faults, the STOPPED latch and publication -/

@[simp] theorem boot_raiseFault (j : Job) (c : FaultCause) (value : Int) (s : State) : (raiseFault j c value s).boot = s.boot := by
  unfold raiseFault
  split
  · simp
  · split
    · simp
    · rfl

@[simp] theorem boot_clearJobFault (j : Job) (s : State) : (clearJobFault j s).boot = s.boot := by
  unfold clearJobFault
  split
  · rfl
  · split
    · rfl
    · simp [acceptClear]

@[simp] theorem boot_setStopped (s : State) : (setStopped s).boot = s.boot := by
  unfold setStopped
  split
  · rfl
  · simp

@[simp] theorem boot_resumeStation (s : State) : (resumeStation s).boot = s.boot := by
  unfold resumeStation
  split
  · rfl
  · split
    · rfl
    · simp [clearStopped]

@[simp] theorem boot_writeOwn (b : Bulletin) (s : State) : (writeOwn b s).boot = s.boot := by
  unfold writeOwn
  dsimp only
  split <;> simp

@[simp] theorem boot_publish (k : OwnKind) (s : State) : (publish k s).boot = s.boot := by
  unfold publish
  split
  · exact boot_writeOwn _ s
  · rfl

/-! ## The backbone port -/

@[simp] theorem boot_leaveIsolated (s : State) : (leaveIsolated s).boot = s.boot := by
  unfold leaveIsolated
  split
  · simp
  · rfl

@[simp] theorem boot_failTransmission (f : Frame) (s : State) : (failTransmission f s).boot = s.boot := by
  unfold failTransmission
  dsimp only
  split
  · simp
  · rfl

@[simp] theorem boot_bufferFrame (sender : Nat) (b : Bulletin) (s : State) : (bufferFrame sender b s).boot = s.boot := by
  unfold bufferFrame
  split <;> rfl

@[simp] theorem boot_judgeFrame (f : Frame) (s : State) : (judgeFrame f s).boot = s.boot := by
  unfold judgeFrame
  split
  · simp [enterSilent]
  · split
    · simp
    · rfl

/-! ## Taking frames -/

@[simp] theorem boot_takeContent (n : Nat) (b : Bulletin) (s : State) : (takeContent n b s).boot = s.boot := by
  unfold takeContent
  split
  · simp [takeConsole]
  · unfold takeStation
    dsimp only
    split <;> simp

@[simp] theorem boot_handBulletin (b : Bulletin) (empty : Bool) (s : State) : (handBulletin b empty s).boot = s.boot := by
  unfold handBulletin
  split
  · split
    · simp
    · rfl
  · simp
  · rfl

@[simp] theorem boot_closeRing (withCarry : Bool) (ring : Nat) (s : State) : (closeRing withCarry ring s).boot = s.boot := by
  simp [closeRing]

@[simp] theorem boot_takeRing (ring : Nat) (s : State) : (takeRing ring s).boot = s.boot := by
  unfold takeRing
  split
  · rfl
  · split
    · simp
    · split <;> simp

@[simp] theorem boot_takeMode (m : MachineMode) (s : State) : (takeMode m s).boot = s.boot := by
  unfold takeMode
  split
  · simp
  · rfl

@[simp] theorem boot_forgetStation (n : Nat) (s : State) : (forgetStation n s).boot = s.boot := by
  unfold forgetStation
  split
  · rfl
  · simp

@[simp] theorem boot_expireStationSlot (n : Nat) (k : OwnKind) (s : State) : (expireStationSlot n k s).boot = s.boot := by
  unfold expireStationSlot
  dsimp only
  split <;> simp

@[simp] theorem boot_expireConsoleSlot (sl : ConsoleSlot) (s : State) : (expireConsoleSlot sl s).boot = s.boot := by
  unfold expireConsoleSlot
  dsimp only
  split <;> simp

/-! ## Yields (R171): of the boot unit they move the yielded roles only -/

theorem boot_foldl {α : Type} {f : State → α → State} (h : ∀ s a, (f s a).boot = s.boot) (l : List α) (s : State) :
    (l.foldl f s).boot = s.boot := by
  induction l generalizing s with
  | nil => rfl
  | cons a l ih => exact (ih _).trans (h s a)

@[simp] theorem boot_stopRoleInputs (r : Role) (s : State) : (stopRoleInputs r s).boot = s.boot := by
  unfold stopRoleInputs
  extract_lets stopIn stopCh
  rw [boot_foldl, boot_foldl]
  · intro v i
    simp only [stopIn]
    split <;> rfl
  · intro v i
    simp only [stopCh]
    split <;> rfl

@[simp] theorem boot_yieldUnit (r : Role) (s : State) : (yieldUnit r s).boot = s.boot := by
  cases r with
  | drive => rfl
  | thrust | grout | screw => simp [yieldUnit]

@[simp] theorem accepted_yieldRole (r : Role) (s : State) : (yieldRole r s).boot.accepted = s.boot.accepted := by
  simp [yieldRole]

theorem accepted_yieldScrew (b : IdBody) (s : State) : (yieldScrew b s).boot.accepted = s.boot.accepted := by
  unfold yieldScrew
  split
  · simp
  · rfl

theorem accepted_yieldSector (b : IdBody) (s : State) : (yieldSector b s).boot.accepted = s.boot.accepted := by
  unfold yieldSector
  split
  · dsimp only
    split <;> simp
  · rfl

@[simp] theorem accepted_checkYield (n : Nat) (b : IdBody) (s : State) : (checkYield n b s).boot.accepted = s.boot.accepted := by
  unfold checkYield
  split
  · rw [accepted_yieldSector, accepted_yieldScrew]
  · rfl

/-! ## Samples -/

@[simp] theorem boot_takeChamber (before after : ChamberInput) (s : State) : (takeChamber before after s).boot = s.boot := by
  unfold takeChamber
  split <;> simp

@[simp] theorem boot_deliverSample (f : InFunction) (value : Option Int) (s : State) :
    (deliverSample f value s).boot = s.boot := by
  cases f with
  | unused => rfl
  | stroke => cases value <;> simp [deliverSample, sampleStroke]
  | groupPressure => cases value <;> simp [deliverSample, sampleGroupPressure]
  | linePressure => cases value <;> simp [deliverSample, sampleLinePressure]
  | chamber1 | chamber2 | chamber3 => simp [deliverSample]
  | torqueA | torqueB => rfl

@[simp] theorem boot_reportLost (f : InFunction) (value : Int) (s : State) : (reportLost f value s).boot = s.boot := by
  cases f with
  | stroke | groupPressure | linePressure | torqueA | torqueB => exact boot_raiseFault _ _ _ s
  | unused | chamber1 | chamber2 | chamber3 => rfl

/-! ## Job evaluations -/

theorem boot_decideDrive (s : State) : (decideDrive s).boot = s.boot := by
  unfold decideDrive
  dsimp only
  (repeat' split) <;> rfl

theorem boot_stepDrive (s : State) : (stepDrive s).boot = s.boot := by
  unfold stepDrive
  dsimp only
  split <;> rfl

@[simp] theorem boot_evaluateDrive (s : State) : (evaluateDrive s).boot = s.boot := by
  have hcommand (u : State) : (commandDrive u).boot = u.boot := by simp [commandDrive]
  exact (hcommand _).trans ((boot_stepDrive _).trans (boot_decideDrive s))

@[simp] theorem boot_evaluateThrust (s : State) : (evaluateThrust s).boot = s.boot := by
  unfold evaluateThrust
  dsimp only
  split <;> simp

@[simp] theorem boot_evaluateGrout (s : State) : (evaluateGrout s).boot = s.boot := by
  have hfill (u : State) : (deriveFill u).boot = u.boot := by
    unfold deriveFill
    split
    · rfl
    · simp
  unfold evaluateGrout
  dsimp only
  split
  · simp [hfill]
  · simp [writeRate, evaluateLine, hfill]

theorem boot_feedScrew (s : State) : (feedScrew s).boot = s.boot := by
  unfold feedScrew
  split <;> rfl

theorem boot_integrateScrew (s : State) : (integrateScrew s).boot = s.boot := by
  unfold integrateScrew
  split <;> rfl

@[simp] theorem boot_evaluateScrew (s : State) : (evaluateScrew s).boot = s.boot := by
  unfold evaluateScrew
  dsimp only
  split
  · simp
  · simp [rampScrew, commandScrew, boot_integrateScrew, boot_feedScrew]

/-! ## Channels -/

@[simp] theorem boot_takeDriveSpeed (n : Nat) (s : State) : (takeDriveSpeed n s).boot = s.boot := by
  unfold takeDriveSpeed examineOverspeed
  dsimp only
  split
  · exact boot_raiseFault _ _ _ _
  · rfl

@[simp] theorem boot_takeScrewSpeed (n : Nat) (s : State) : (takeScrewSpeed n s).boot = s.boot := rfl

theorem boot_restartScrewStall (s : State) : (restartScrewStall s).boot = s.boot := by
  unfold restartScrewStall
  split <;> rfl

@[simp] theorem boot_deliverPeriod (f : ChFunction) (d : Nat) (s : State) : (deliverPeriod f d s).boot = s.boot := by
  unfold deliverPeriod
  split
  · simp
  · simp [boot_restartScrewStall]
  all_goals rfl

@[simp] theorem boot_deliverNoEdge (f : ChFunction) (s : State) : (deliverNoEdge f s).boot = s.boot := by
  unfold deliverNoEdge
  split
  · simp
  · simp
  all_goals rfl

theorem boot_restartBlocked (s : State) : (restartBlocked s).boot = s.boot := by
  unfold restartBlocked
  split <;> rfl

@[simp] theorem boot_deliverCount (f : ChFunction) (s : State) : (deliverCount f s).boot = s.boot := by
  unfold deliverCount
  split
  · unfold countStroke
    rw [boot_restartBlocked]
    split
    · simp
    · rfl
  · unfold countScale
    split
    · simp
    · rfl
  all_goals rfl

@[simp] theorem boot_countEdge (i : Fin 8) (s : State) : (countEdge i s).boot = s.boot := by
  unfold countEdge
  dsimp only
  split
  · simp
  · split
    · simp
    · rfl
  all_goals rfl

@[simp] theorem boot_takeEdge (pin : Fin 4) (rising : Bool) (s : State) : (takeEdge pin rising s).boot = s.boot := by
  unfold takeEdge
  split
  · split
    · simp
    · rfl
  · rfl

@[simp] theorem boot_endPulse (s : State) : (endPulse s).boot = s.boot := by
  unfold endPulse
  split <;> simp

/-! ## The restore and the writes: of the boot unit they move the phase only -/

@[simp] theorem boot_restoreRecord (r : RingRecord) (s : State) : (restoreRecord r s).boot = s.boot := by
  have hadv (u : State) : (restoreAdv r.adv u).boot = u.boot := by cases r.adv <;> rfl
  have hcomplete (u : State) : (completeAdv u).boot = u.boot := rfl
  have hgrt (u : State) : (restoreGrt r.grt u).boot = u.boot := by cases r.grt <;> simp [restoreGrt]
  have hmck (u : State) : (restoreMck r.mck u).boot = u.boot := by cases r.mck <;> rfl
  have htrm (u : State) : (restoreTrm r.trm u).boot = u.boot := by
    unfold restoreTrm restoreIntegrator restoreDrive
    (repeat' split) <;> rfl
  have hbalance (u : State) : (restoredBalance u).boot = u.boot := by
    unfold restoredBalance
    split
    · simp
    · rfl
  rw [restoreRecord, hbalance, htrm, hmck, hgrt, hcomplete, hadv]

@[simp] theorem accepted_completeRestore (s : State) : (completeRestore s).boot.accepted = s.boot.accepted := by
  simp [completeRestore, enterJoining]

@[simp] theorem boot_completeWrite (w : MemWrite) (answered : Bool) (s : State) :
    (completeWrite w answered s).boot = s.boot := by
  cases answered <;> rfl

@[simp] theorem accepted_continueStart (s : State) : (continueStart s).boot.accepted = s.boot.accepted := by
  unfold continueStart
  split <;> rfl

end Sys2Proof.Machine
end

section
/-! R164: the alarm output follows its formula at every step, and what the starts, the acceptance of the configuration and a
RESTART make of it. -/
namespace Sys2Proof.Machine
open Sys2Proof

variable {c : Instr} {s t u : State}

/-! ## Commands that accept no configuration -/

/-- Every next state the outcome gives has the acceptance of `s`. -/
def KeepsAccepted (s : State) (o : Host.Outcome State Fault Refusal) : Prop :=
  ∀ t, o = .next t → t.boot.accepted = s.boot.accepted

theorem keepsAccepted_noEffect : KeepsAccepted s (noEffect s) := by
  intro t h
  rw [← Host.Outcome.next.inj h]

theorem keepsAccepted_answer (h : u.boot.accepted = s.boot.accepted) : KeepsAccepted s (answer u) := by
  intro t ht
  rw [← Host.Outcome.next.inj ht, (base_finish u).1, h]

theorem keepsAccepted_of_boot (h : u.boot = s.boot) : KeepsAccepted s (answer u) :=
  keepsAccepted_answer (congrArg Boot.accepted h)

/-- A command whose event may not occur. -/
theorem keepsAccepted_when {p : Prop} [Decidable p] (h : u.boot.accepted = s.boot.accepted) :
    KeepsAccepted s (if p then answer u else noEffect s) := by
  split
  · exact keepsAccepted_answer h
  · exact keepsAccepted_noEffect

theorem boot_takeService (b : ServiceBody) {act : State → State} (h : ∀ u, (act u).boot = u.boot) (s : State) :
    (takeService b act s).boot = s.boot := by
  unfold takeService
  split
  · exact h _
  · rfl

/-- Only a start and the answer to its read of the image move the acceptance (R167, R168). -/
theorem accepted_exec (hstart : startsStation c = false) (himage : ∀ image, c ≠ .configReadComplete image)
    (h : exec c s = .next t) : t.boot.accepted = s.boot.accepted := by
  suffices hc : KeepsAccepted s (exec c s) from hc t h
  cases c with
  | powerOn | lineReset | resetAsserted | restart => cases hstart
  | configReadComplete image => exact absurd rfl (himage image)
  | ringRecordReadComplete record =>
    simp only [exec, execRingRecordReadComplete]
    split
    · split <;> exact keepsAccepted_answer (by simp)
    · exact keepsAccepted_noEffect
  | lineFree =>
    simp only [exec, execLineFree]
    split
    · split
      · exact keepsAccepted_noEffect
      · exact keepsAccepted_answer rfl
    · exact keepsAccepted_noEffect
  | frameArrives frame =>
    simp only [exec, execFrameArrives]
    split <;> exact keepsAccepted_answer (by simp)
  | bulletinTaken =>
    have htaken (n : Nat) (b : Bulletin) (empty : Bool) :
        KeepsAccepted s (answer (handBulletin b empty (takeContent n b (popFrame s)))) := keepsAccepted_of_boot (by simp)
    simp only [exec, execBulletinTaken]
    split
    · split
      iterate 7 exact htaken _ _ _
      iterate 5 exact keepsAccepted_noEffect
    · exact keepsAccepted_noEffect
  | lostArbitration | acknowledged | unacknowledged | bitError =>
    simp only [exec, execLostArbitration, execAcknowledged, execUnacknowledged, execBitError]
    split
    · exact keepsAccepted_of_boot (by simp)
    · exact keepsAccepted_noEffect
  | idTaken | modeTaken | buildTaken | stopTaken =>
    simp only [exec, execIdTaken, execModeTaken, execBuildTaken, execStopTaken]
    split
    · exact keepsAccepted_answer (by simp)
    · exact keepsAccepted_noEffect
  | clearFault =>
    simp only [exec, execClearFault]
    split
    · refine keepsAccepted_of_boot (boot_takeService _ (fun u => ?_) s)
      split
      · exact boot_clearJobFault _ u
      · rfl
    · exact keepsAccepted_noEffect
  | clearEvents | resume | forget | save =>
    simp only [exec, execClearEvents, execResume, execForget, execSave]
    split
    · exact keepsAccepted_of_boot (boot_takeService _ (by simp) s)
    · exact keepsAccepted_noEffect
  | slotCurrencyExpiry slot =>
    cases slot <;> exact keepsAccepted_when (by simp)
  | conversionComplete raw =>
    simp only [exec, execConversionComplete]
    split
    · refine keepsAccepted_of_boot ?_
      split
      · simp [convertInput]
      · rfl
    · exact keepsAccepted_noEffect
  | channelEdge pin rising time =>
    refine keepsAccepted_of_boot ?_
    split <;> simp
  | stopInputActive =>
    simp only [exec, execStopInputActive]
    split
    · exact keepsAccepted_noEffect
    · refine keepsAccepted_of_boot ?_
      split <;> simp
  | memoryWriteComplete answered =>
    simp only [exec, execMemoryWriteComplete]
    split
    · exact keepsAccepted_answer (by simp)
    · exact keepsAccepted_noEffect
  | permitInputChange active => exact keepsAccepted_of_boot (by simp)
  | joinTimerExpiry | staleTimerExpiry | publicationTimerExpiry kind | rateTimerExpiry | inputHoldExpiry input
  | stopInputReleased => exact keepsAccepted_when (by simp [startEvaluations])
  | driveEvaluation | thrustEvaluation | groutEvaluation | screwEvaluation | driveStallTimerExpiry | thrustOverpressureExpiry
  | holdOffExpiry | waitTimerExpiry | retractTimerExpiry | extendTimerExpiry | blockedTimerExpiry | groutOverpressureExpiry
  | screwStallTimerExpiry | feedbackTimerExpiry | periodBoundary channel | activeTimeEnd channel
  | channelTimeoutExpiry channel | pulseWidthExpiry => exact keepsAccepted_when (by simp)

/-! ## The formula of R164 -/

theorem anyHeld_iff (f : FaultRecords) : f.anyHeld = true ↔ ∃ j : Job, (f.get j).isSome := by
  simp only [FaultRecords.anyHeld, Bool.or_eq_true]
  constructor
  · rintro ((((h | h) | h) | h) | h)
    exacts [⟨.station, h⟩, ⟨.thrust, h⟩, ⟨.grout, h⟩, ⟨.drive, h⟩, ⟨.screw, h⟩]
  · rintro ⟨j, h⟩
    cases j <;> simp_all [FaultRecords.get]

theorem alarmDue_iff (s : State) :
    s.alarmDue = true ↔
      (s.boot.accepted = false ∨ s.events.flags &&& s.cfg.evAlarm ≠ 0#16 ∨ ∃ j : Job, (s.faults.get j).isSome) := by
  simp only [State.alarmDue, Bool.or_eq_true, Bool.not_eq_true', bne_iff_ne, anyHeld_iff, or_assoc]

/-- An alarm output as due is true to R164. -/
theorem alarmTrue_of_due (h : s.events.alarm = s.alarmDue) : AlarmTrue s := by
  unfold AlarmTrue
  rw [h]
  exact alarmDue_iff s

theorem alarmTrue_finish (s : State) : AlarmTrue (finish s) := alarmTrue_of_due (alarm_finish s)

/-- With no configuration accepted the end of an event leaves the output active. -/
theorem alarm_finish_of_not_accepted (h : s.boot.accepted = false) : (finish s).events.alarm = true :=
  (alarmTrue_finish s).mpr (.inl (by rw [(base_finish s).1, h]))

/-- A command leaves the output true to R164: at the end of its event, or by changing nothing. -/
theorem exec_keeps_alarmTrue (hs : AlarmTrue s) (h : exec c s = .next t) : AlarmTrue t := by
  rcases exec_answers c s with ⟨e, he⟩ | he
  · rw [← Host.Outcome.next.inj (he.symm.trans h)]
    exact alarmTrue_finish e
  · rw [← Host.Outcome.next.inj (he.symm.trans h)]
    exact hs

theorem alarmTrue_withPending (q : List Instr) : AlarmTrue (s.withPending q) ↔ AlarmTrue s := Iff.rfl

theorem step_keeps_alarmTrue (hs : AlarmTrue s) (h : step s = .next t) : AlarmTrue t := by
  unfold step at h
  split at h
  · rw [← Host.Outcome.next.inj h]
    exact hs
  · exact exec_keeps_alarmTrue ((alarmTrue_withPending _).mpr hs) h

/-! ## Starts, and the answer to the read of the image -/

theorem accepted_startStation (kind : StartKind) (phase : BootPhase) (straps : BitVec 4) (faults : FaultRecords)
    (flags : Word16) (mem : MemPort) (s : State) :
    (startStation kind phase straps faults flags mem s).boot.accepted = false := by
  unfold startStation
  dsimp only
  split
  · rfl
  · simp [State.startValues]

/-- A start that reads the image accepts no configuration, and its alarm output is active (R167). -/
theorem start_alarms (h : u.boot.accepted = false) (ht : answer u = .next t) :
    t.boot.accepted = false ∧ t.events.alarm = true := by
  rw [← Host.Outcome.next.inj ht]
  exact ⟨by rw [(base_finish u).1, h], alarm_finish_of_not_accepted h⟩

theorem imageStart_alarms {straps : BitVec 4}
    (h : exec (.powerOn straps) s = .next t ∨ exec (.lineReset straps) s = .next t) :
    t.boot.accepted = false ∧ t.events.alarm = true :=
  h.elim (start_alarms (accepted_startStation ..)) (start_alarms (accepted_startStation ..))

theorem boot_configBad (s : State) : (configBad s).boot = { s.boot with phase := .bad, accepted := false } := by
  rw [configBad, boot_raiseFault]

/-- A fault raised with its record empty fills it (R160). -/
theorem faults_raiseFault_of_empty {j : Job} (h : s.faults.get j = none) (cause : FaultCause) (value : Int) :
    (raiseFault j cause value s).faults = s.faults.put j (some ⟨cause, value, s.adv.ring, s.faultStep j, 0⟩) := by
  unfold raiseFault
  rw [h]
  simp

theorem cause_configBad (h : s.faults.station = none) : (configBad s).faults.station.map (·.cause) = some .configBad := by
  rw [configBad, faults_raiseFault_of_empty]
  exacts [rfl, h]

/-- A bad image, read as the start waits for it (R168, R170). -/
theorem exec_configReadComplete_of_bad {image : Option (List Byte)} (hphase : s.boot.phase = .readingConfig)
    (hbad : image.bind (loadImage s.boot.station) = none) :
    exec (.configReadComplete image) s = answer (configBad { s with mem.image := image.getD s.mem.image }) := by
  simp only [exec, execConfigReadComplete, if_pos hphase, hbad]

/-- A bad image leaves CONFIG_BAD held and the output active (R168). -/
theorem badImage_alarms {image : Option (List Byte)} (hphase : s.boot.phase = .readingConfig)
    (hstation : s.faults.station = none) (hbad : image.bind (loadImage s.boot.station) = none)
    (h : exec (.configReadComplete image) s = .next t) :
    t.boot.accepted = false ∧ t.faults.station.map (·.cause) = some .configBad ∧ t.events.alarm = true := by
  rw [exec_configReadComplete_of_bad hphase hbad] at h
  obtain ⟨haccepted, halarm⟩ := start_alarms (by rw [boot_configBad]) h
  have hfaults (u : State) : (finish u).faults = u.faults := by simp
  refine ⟨haccepted, ?_, halarm⟩
  rw [← Host.Outcome.next.inj h, hfaults]
  exact cause_configBad hstation

theorem goodImage_of_accepted {image : Option (List Byte)} (hs : s.boot.accepted = false)
    (h : exec (.configReadComplete image) s = .next t) (ht : t.boot.accepted = true) :
    ∃ bytes, image = some bytes ∧ (loadImage s.boot.station bytes).isSome := by
  by_cases hphase : s.boot.phase = .readingConfig
  · cases hload : image.bind (loadImage s.boot.station) with
    | some c =>
      obtain ⟨bytes, hbytes, hc⟩ := Option.bind_eq_some_iff.mp hload
      exact ⟨bytes, hbytes, by rw [hc]; rfl⟩
    | none =>
      rw [exec_configReadComplete_of_bad hphase hload] at h
      have hbad := (start_alarms (by rw [boot_configBad]) h).1
      simp [hbad] at ht
  · have hidle : exec (.configReadComplete image) s = noEffect s := if_neg hphase
    have hsame := keepsAccepted_noEffect t (hidle.symm.trans h)
    simp [hs, ht] at hsame

/-- A configuration comes to be accepted at a RESTART, or at the read of a good image (R168). -/
theorem accepted_by_restart_or_image (hs : s.boot.accepted = false) (h : exec c s = .next t) (ht : t.boot.accepted = true) :
    (∃ straps, c = .restart straps) ∨
      ∃ bytes, c = .configReadComplete (some bytes) ∧ (loadImage s.boot.station bytes).isSome := by
  cases c with
  | restart straps => exact .inl ⟨straps, rfl⟩
  | powerOn | lineReset | resetAsserted =>
    have hstart := (start_alarms (accepted_startStation ..) h).1
    simp [hstart] at ht
  | configReadComplete image =>
    obtain ⟨bytes, rfl, hgood⟩ := goodImage_of_accepted hs h ht
    exact .inr ⟨bytes, rfl, hgood⟩
  | _ =>
    have hsame := accepted_exec rfl (by simp) h
    simp [hs, ht] at hsame

/-! ## A RESTART keeps what the formula reads (R167) -/

/-- What R164 reads beside the acceptance, and the backbone state, by which a start publishes nothing. -/
structure AlarmView where
  cfg      : StationConfig
  flags    : Word16
  faults   : FaultRecords
  backbone : Backbone

def State.alarmView (s : State) : AlarmView := ⟨s.cfg, s.events.flags, s.faults, s.port.backbone⟩

theorem alarmView_of_kept (hk : t.kept = s.kept) (hf : t.events.flags = s.events.flags) : t.alarmView = s.alarmView := by
  simp only [State.alarmView, hf, show t.cfg = s.cfg from congrArg Kept.cfg hk,
    show t.faults = s.faults from congrArg Kept.faults hk,
    show t.port.backbone = s.port.backbone from congrArg Kept.backbone hk]

theorem alarmView_refreshGates (s : State) : (refreshGates s).alarmView = s.alarmView :=
  alarmView_of_kept (kept_refreshGates s) (congrArg Events.flags (events_refreshGates s))

theorem alarmView_triggerSave (s : State) : (triggerSave s).alarmView = s.alarmView :=
  alarmView_of_kept (kept_triggerSave s) (congrArg Events.flags (events_triggerSave s))

theorem alarmView_decideLine (s : State) : (decideLine s).alarmView = s.alarmView :=
  alarmView_of_kept (kept_decideLine s) (congrArg Events.flags (events_decideLine s))

theorem alarmView_decideScrew (s : State) : (decideScrew s).alarmView = s.alarmView := by
  have hduty (u : State) : (writeDuty .screwSpeedOut 0 u).alarmView = u.alarmView := by
    unfold writeDuty
    split <;> rfl
  have hexamine (u : State) : (examineScrew u).alarmView = u.alarmView := rfl
  unfold decideScrew setScrew
  split
  · split
    · rfl
    · split
      · rw [hexamine, hduty]; rfl
      · rfl
  · rfl

theorem alarmView_setStopped (s : State) : (setStopped s).alarmView = s.alarmView := by
  unfold setStopped
  split
  · rfl
  · rw [alarmView_refreshGates, alarmView_triggerSave, alarmView_decideScrew, alarmView_decideLine]
    rfl

theorem alarmView_restPins (s : State) : (restPins s).alarmView = s.alarmView := by
  have hset (i : Fin 8) (r : ChannelRec) {u v : State} (h : u.alarmView = v.alarmView) :
      (putChannel i r u).alarmView = v.alarmView := h
  exact hset _ _ (hset _ _ (hset _ _ (hset _ _ (hset _ _ (hset _ _ (hset _ _ (hset _ _ rfl)))))))

theorem boot_restPins (s : State) : (restPins s).boot = s.boot := by
  have hset (i : Fin 8) (r : ChannelRec) {u v : State} (h : u.boot = v.boot) : (putChannel i r u).boot = v.boot := h
  exact hset _ _ (hset _ _ (hset _ _ (hset _ _ (hset _ _ (hset _ _ (hset _ _ (hset _ _ rfl)))))))

/-- The acceptance of a configuration, with the STOPPED latch that an active stop input sets at it (R165, R168). -/
theorem acceptConfig_accepts (s : State) :
    (acceptConfig s).boot.accepted = true ∧ (acceptConfig s).alarmView = s.alarmView := by
  have hrest (u : State) : (refreshGates (restPins u)).boot = u.boot ∧ (refreshGates (restPins u)).alarmView = u.alarmView :=
    ⟨(base_refreshGates _).1.trans (boot_restPins u), (alarmView_refreshGates _).trans (alarmView_restPins u)⟩
  unfold acceptConfig
  extract_lets boot s1 s2
  have haccepted : s2.boot.accepted = true := by
    have hboot : s2.boot = s1.boot := (hrest _).1
    rw [hboot]
    rfl
  have hview : s2.alarmView = s.alarmView := (hrest _).2
  split
  · exact ⟨by rw [boot_setStopped, haccepted], by rw [alarmView_setStopped, hview]⟩
  · exact ⟨haccepted, hview⟩

theorem alarmView_startStation (kind : StartKind) (phase : BootPhase) (straps : BitVec 4) (faults : FaultRecords)
    (flags : Word16) (mem : MemPort) (s : State) :
    (startStation kind phase straps faults flags mem s).alarmView =
      ⟨s.cfg, flags, { faults with station := none }, .offline⟩ := by
  have hchanged (u : State) : (faultAreaChanged u).alarmView = u.alarmView := by
    unfold faultAreaChanged
    split <;> rfl
  unfold startStation
  dsimp only
  split
  · rfl
  · rw [hchanged]
    rfl

/-- A restarted station has its configuration accepted, and is OFFLINE with the flags and the job records it had (R167). -/
theorem restartStation_keeps {straps : BitVec 4} (h : straps ≠ 0#4) (s : State) :
    (restartStation straps s).boot.accepted = true ∧
      (restartStation straps s).alarmView = ⟨s.cfg, s.events.flags, { s.faults with station := none }, .offline⟩ := by
  simp only [restartStation, if_neg h]
  exact ⟨(acceptConfig_accepts _).1, (acceptConfig_accepts _).2.trans (alarmView_startStation ..)⟩

/-! ## The end of an event publishes nothing in OFFLINE (R10) -/

theorem publish_of_offline (h : s.port.backbone = .offline) (k : OwnKind) : publish k s = s :=
  if_neg (by simp [State.onBackbone, State.jobsRun, h])

theorem alarmView_publishIfChanged (h : s.port.backbone = .offline) (k : OwnKind) :
    (publishIfChanged k s).alarmView = s.alarmView := by
  have hseen : (markSeen k s).alarmView = s.alarmView := rfl
  unfold publishIfChanged
  split
  · split
    · rw [publish_of_offline (s := markSeen k s) h, hseen]
    · exact hseen
  · rfl

theorem alarmView_publishRound (h : s.port.backbone = .offline) : (publishRound s).alarmView = s.alarmView := by
  have hnext (k : OwnKind) {u : State} (hu : u.alarmView = s.alarmView) : (publishIfChanged k u).alarmView = s.alarmView :=
    (alarmView_publishIfChanged ((congrArg AlarmView.backbone hu).trans h) k).trans hu
  unfold publishRound
  exact hnext _ (hnext _ (hnext _ (hnext _ (hnext _ (hnext _ (hnext _ rfl))))))

theorem alarmView_settle (h : s.port.backbone = .offline) : (settle s).alarmView = s.alarmView := by
  have hnext {u : State} (hu : u.alarmView = s.alarmView) : (publishRound u).alarmView = s.alarmView :=
    (alarmView_publishRound ((congrArg AlarmView.backbone hu).trans h)).trans hu
  unfold settle
  exact hnext (hnext (hnext (hnext rfl)))

theorem alarmView_refreshAlarm (s : State) : (refreshAlarm s).alarmView = s.alarmView := rfl

theorem alarmView_finish (h : s.port.backbone = .offline) : (finish s).alarmView = s.alarmView := by
  unfold finish
  rw [alarmView_refreshAlarm, alarmView_refreshGates, alarmView_settle h]

/-- A RESTART for this station (R25, R167). -/
theorem exec_restart_of_target {straps : BitVec 4} {b : ServiceBody} (hb : s.serviceHead .restart = some b)
    (htarget : b.target = s.boot.station ∨ b.target = 0) :
    exec (.restart straps) s = answer (restartStation straps (popFrame s)) := by
  have hhere : s.targeted b = true := by simpa [State.targeted] using htarget
  simp only [exec, execRestart, hb, takeService, hhere, if_true]

/-- The output follows the routes, the flags and the job records that a RESTART keeps (R164, R167). -/
theorem restart_keeps_alarmView {straps : BitVec 4} {b : ServiceBody} (hb : s.serviceHead .restart = some b)
    (htarget : b.target = s.boot.station ∨ b.target = 0) (hstraps : straps ≠ 0#4) (h : exec (.restart straps) s = .next t) :
    t.boot.accepted = true ∧ t.alarmView = ⟨s.cfg, s.events.flags, { s.faults with station := none }, .offline⟩ ∧
      AlarmTrue t := by
  obtain ⟨haccepted, hview⟩ := restartStation_keeps hstraps (popFrame s)
  rw [exec_restart_of_target hb htarget] at h
  rw [← Host.Outcome.next.inj h]
  refine ⟨?_, (alarmView_finish (congrArg AlarmView.backbone hview)).trans hview, alarmTrue_finish _⟩
  rw [(base_finish _).1, haccepted]

/-- Settles O6: every event ends with the output re-evaluated (`alarm_finish`); of all commands only a RESTART and the read of a
good image come to accept a configuration (`accepted_exec`); and a restarted station is OFFLINE, so nothing is published over the
flags that it keeps. -/
theorem alarmStaysTrue : Obligations.AlarmStaysTrue := by
  refine ⟨fun s t => step_keeps_alarmTrue, fun straps s t => imageStart_alarms,
    fun c s t => accepted_by_restart_or_image, fun image s t hphase hstation hbad h => ?_,
    fun straps s t b hb htarget hstraps h => ?_⟩
  · have hload : image.bind (loadImage s.boot.station) = none := Option.bind_eq_none_iff.mpr hbad
    exact (badImage_alarms hphase hstation hload h).2
  · obtain ⟨haccepted, hview, htrue⟩ := restart_keeps_alarmView hb htarget hstraps h
    exact ⟨haccepted, congrArg (·.cfg.evAlarm) hview, congrArg (·.flags) hview, congrArg (·.faults) hview, htrue⟩

end Sys2Proof.Machine
end

section
/-! O9, O10 and O11 fail where CLEAR_FAULT finds a job out of FAULT although its record is held: none of the three invariants
ties the record to the job's state, and the accepted clear (R161) moves the state and leaves command, rate or condition as they
stood. O16 fails where one end of an event takes the own line into the share and out of it again. -/
namespace Sys2Proof.Machine
open Sys2Proof

/-! ## States that meet an invariant and a step that leaves it -/

/-- A running station in OFFLINE that holds every role, with a CLEAR_FAULT of the job of code `job` taken next. -/
def clearingFault (job : Nat) (faults : FaultRecords) : State :=
  { State.reset with
    boot := ⟨.done, .powerOn, true, 1, RoleMask.empty, 0#16⟩
    cfg := { roles := ⟨true, true, true, true⟩, sector := some 0 }
    port := { Port.start with rx := [⟨0, .service ⟨0, .clearFault, job⟩⟩] }
    faults := faults
    pending := [.clearFault] }

/-- A record of a cause that is gone. -/
def clearableRecord (cause : FaultCause) : FaultRecord := ⟨cause, 0, 0, 0, 0⟩

/-- RUNNING at a command of 1.00 rpm with the DRIVE record held. -/
def runningWithRecord : State :=
  { clearingFault 3 { FaultRecords.empty with drive := some (clearableRecord .stall) } with
    drive := { Drive.start false with state := .running, cmd := 100 } }

/-- INJECTING at a rate above 0 with the GROUT record held. -/
def injectingWithRecord : State :=
  { clearingFault 2 { FaultRecords.empty with grout := some (clearableRecord .lineBlocked) } with
    grout := { Grout.start {} false with line := .injecting, rate := 5 } }

/-- RUNNING and stalled with the DRIVE record held for an overspeed that is gone. -/
def stalledWithRecord : State :=
  { clearingFault 3 { FaultRecords.empty with drive := some (clearableRecord .overspeed) } with
    drive := { Drive.start false with state := .running, tau := 1000, stallPresent := true } }

/-- What is answered, seen through `f`. -/
def seenAs {α : Type} (f : State → α) : Host.Outcome State Fault Refusal → Option α
  | .next t => some (f t)
  | .fault _ | .refused _ => none

theorem next_of_seenAs {α : Type} {f : State → α} {o : Host.Outcome State Fault Refusal} {a : α} (h : seenAs f o = some a) :
    ∃ t, o = .next t ∧ f t = a := by
  cases o with
  | next t => exact ⟨t, rfl, by simpa [seenAs] using h⟩
  | fault _ => cases h
  | refused _ => cases h

theorem runningWithRecord_bounded : DriveCommandBounded runningWithRecord := by
  refine ⟨by decide +kernel, by decide +kernel, by decide +kernel, by decide +kernel, ?_, ?_, by decide +kernel⟩
  · intro b hb; cases hb
  · intro f hf b hb
    rw [show f = _ from List.mem_singleton.mp hf] at hb
    cases hb

/-- Refutes O9: the accepted clear of a DRIVE record puts a RUNNING drive OFF and leaves its speed command. -/
theorem not_driveCommandStaysBounded : ¬ Obligations.DriveCommandStaysBounded := by
  unfold Obligations.DriveCommandStaysBounded
  intro h
  obtain ⟨t, hstep, hseen⟩ := next_of_seenAs (o := step runningWithRecord)
    (f := fun t => (t.drive.state, t.drive.cmd)) (a := (.off, 100)) (by decide +kernel)
  obtain ⟨hstate, hcmd⟩ := Prod.mk.inj hseen
  have hzero := (h _ t runningWithRecord_bounded hstep).zero (.inl hstate)
  omega

theorem injectingWithRecord_bounded : SetpointAndPumpBounded injectingWithRecord := by
  refine ⟨by decide +kernel, by decide +kernel, by decide +kernel, ?_, by decide +kernel, by decide +kernel,
    by decide +kernel, by decide +kernel, by decide +kernel⟩
  intro p hp; cases hp

/-- Refutes O10: the accepted clear of a GROUT record puts an INJECTING line IDLE and leaves its pump rate. -/
theorem not_setpointAndPumpStayBounded : ¬ Obligations.SetpointAndPumpStayBounded := by
  unfold Obligations.SetpointAndPumpStayBounded
  intro h
  obtain ⟨t, hstep, hseen⟩ := next_of_seenAs (o := step injectingWithRecord)
    (f := fun t => (t.grout.line, t.grout.rate)) (a := (.idle, 5)) (by decide +kernel)
  obtain ⟨hline, hrate⟩ := Prod.mk.inj hseen
  have hpump := ((h _ t injectingWithRecord_bounded hstep).pump (by simp [hline]) (by simp [hline])).1
  omega

theorem stalledWithRecord_watched : ConditionsWatched stalledWithRecord := by
  refine ⟨by decide +kernel, by decide +kernel, by decide +kernel, by decide +kernel, by decide +kernel, by decide +kernel⟩

/-- Refutes O11: the accepted clear of a DRIVE record puts a stalled RUNNING drive OFF and leaves its stall condition present. -/
theorem not_conditionTimersFollow : ¬ Obligations.ConditionTimersFollow := by
  unfold Obligations.ConditionTimersFollow
  intro h
  obtain ⟨t, hstep, hseen⟩ := next_of_seenAs (o := step stalledWithRecord)
    (f := fun t => (t.drive.state, t.drive.stallPresent)) (a := (.off, true)) (by decide +kernel)
  obtain ⟨hstate, hpresent⟩ := Prod.mk.inj hseen
  have hstall := (h.1 _ t stalledWithRecord_watched hstep).driveStall
  simp [hstate, hpresent] at hstall

/-! ## The own line in the share for a part of an event -/

/-- An ID of station 1 under which it holds no role. -/
def rolelessId : IdBody := ⟨1, RoleMask.empty, 0, 0, 0#16, .powerOn⟩

/-- A line in FAULT whose own GROUT slot still shows INJECTING, kept out of the share by an own ID without the GROUT role. -/
def outOfShare : State :=
  { State.reset with
    boot := ⟨.done, .powerOn, true, 1, RoleMask.empty, 0#16⟩
    cfg := { roles := ⟨false, true, false, false⟩, sector := some 0, backlogLimit := 100 }
    port := { Port.start with
      backbone := .online
      pubTimer := { PerKind.all .stopped with id := .running 1000, grout := .running 1000 }
      seen := { PerKind.all none with grout := some (.grout ⟨0, 1, false, .fault, 0, 0⟩) } }
    table := (PeerTable.start 1 3500).putEntry 1 { StationEntry.absent with
      liveness := .live
      grout := ⟨some ⟨0, 1, false, .injecting, 0, 0⟩, .running 1000⟩
      id := ⟨some rolelessId, .running 1000⟩ }
    grout := { Grout.start {} true with void := 10000 } }

theorem permit_startsNothing (active : Bool) (s : State) : StartsNothing (.permitInputChange active) s where
  restart h := by cases h
  target _ _ h := by cases h
  image _ h := by cases h
  record _ h := by cases h

/-- Refutes O16: the ID published at the end of an event takes the own line into the share, where T is computed, and the GROUT
published for the new hold request takes it out again, with T changed. -/
theorem not_accountsStayTrue : ¬ Obligations.AccountsStayTrue := by
  unfold Obligations.AccountsStayTrue
  intro h
  obtain ⟨t, hexec, hseen⟩ := next_of_seenAs (o := exec (.permitInputChange false) outOfShare)
    (f := fun t => (t.adv.ring, t.inShare, t.grout.target)) (a := (0, false, 10000)) (by decide +kernel)
  obtain ⟨hring, hpair⟩ := Prod.mk.inj hseen
  obtain ⟨hshare, htarget⟩ := Prod.mk.inj hpair
  obtain ⟨-, -, -, -, -, hstands⟩ := h.2 _ outOfShare t hexec (permit_startsNothing _ _) hring
  have hstands := hstands (fun f hf => by cases hf) (by decide +kernel) hshare
  rw [htarget] at hstands
  exact absurd hstands (by decide +kernel)

end Sys2Proof.Machine
end

section
/-! The step, and the state right after a POWER_ON start. -/
namespace Sys2Proof.Machine
open Sys2Proof

/-- Settles O1, by the definition of `step` on a queue with a front and on an empty one. -/
theorem stepRunsFrontCommand : Obligations.StepRunsFrontCommand := by
  unfold Obligations.StepRunsFrontCommand
  refine ⟨fun c rest s => rfl, fun s hs => ?_⟩
  simp [step, State.idle, hs]

/-- Settles O3, by evaluating the start values. -/
theorem resetValues : Obligations.ResetValues := by
  unfold Obligations.ResetValues
  decide +kernel

theorem portBounded_reset : PortBounded State.reset :=
  ⟨by decide, by decide, by decide, by decide, by decide, by decide⟩

theorem outputsGuarded_reset : OutputsGuarded State.reset :=
  ⟨by decide, by decide, by decide +kernel, by decide +kernel, by decide +kernel⟩

theorem faultedJobsStand_reset : FaultedJobsStand State.reset := ⟨by decide, by decide, by decide⟩

theorem driveCommandBounded_reset : DriveCommandBounded State.reset := by
  refine ⟨by decide, by decide, by decide, by decide, ?_, ?_, by decide⟩
  · intro b hb; cases hb
  · intro f hf; cases hf

theorem accountsTrue_reset : AccountsTrue State.reset := by
  constructor <;> decide +kernel

theorem setpointAndPumpBounded_reset : SetpointAndPumpBounded State.reset := by
  refine ⟨by decide, by decide, by decide, ?_, by decide, by decide, by decide, by decide +kernel, by decide +kernel⟩
  intro p hp; cases hp

theorem conditionsWatched_reset : ConditionsWatched State.reset := by
  constructor <;> decide +kernel

/-- Settles O12, invariant by invariant. -/
theorem resetMeetsInvariants : Obligations.ResetMeetsInvariants :=
  ⟨portBounded_reset, outputsGuarded_reset, alarmTrue_of_due rfl, rfl, faultedJobsStand_reset, driveCommandBounded_reset,
    accountsTrue_reset, setpointAndPumpBounded_reset, conditionsWatched_reset⟩

end Sys2Proof.Machine
end

section
/-! What each operation at the end of an event leaves alone: one lemma per operation, over every block it does not touch. -/
namespace Sys2Proof.Machine
open Sys2Proof

/-! ## Channels -/

@[simp] theorem frame_writeDuty (f : ChFunction) (d : Nat) (s : State) :
    (writeDuty f d s).port = s.port ∧ (writeDuty f d s).table = s.table ∧ (writeDuty f d s).adv = s.adv ∧
    (writeDuty f d s).drive = s.drive ∧ (writeDuty f d s).thrust = s.thrust ∧ (writeDuty f d s).shoe = s.shoe ∧
    (writeDuty f d s).grout = s.grout ∧ (writeDuty f d s).muck = s.muck ∧ (writeDuty f d s).inputs = s.inputs ∧
    (writeDuty f d s).converting = s.converting ∧ (writeDuty f d s).faults = s.faults ∧
    (writeDuty f d s).events = s.events ∧ (writeDuty f d s).mem = s.mem := by
  unfold writeDuty
  split <;> simp

@[simp] theorem frame_setPulseFlag (on : Bool) (s : State) :
    (setPulseFlag on s).port = s.port ∧ (setPulseFlag on s).table = s.table ∧ (setPulseFlag on s).adv = s.adv ∧
    (setPulseFlag on s).drive = s.drive ∧ (setPulseFlag on s).thrust = s.thrust ∧ (setPulseFlag on s).shoe = s.shoe ∧
    (setPulseFlag on s).grout = s.grout ∧ (setPulseFlag on s).muck = s.muck ∧ (setPulseFlag on s).inputs = s.inputs ∧
    (setPulseFlag on s).converting = s.converting ∧ (setPulseFlag on s).faults = s.faults ∧
    (setPulseFlag on s).events = s.events ∧ (setPulseFlag on s).mem = s.mem := by
  unfold setPulseFlag
  split <;> simp

/-! ## The grout unit -/

@[simp] theorem frame_setLine (l : LineState) (s : State) :
    (setLine l s).port = s.port ∧ (setLine l s).table = s.table ∧ (setLine l s).adv = s.adv ∧
    (setLine l s).drive = s.drive ∧ (setLine l s).thrust = s.thrust ∧ (setLine l s).shoe = s.shoe ∧
    (setLine l s).muck = s.muck ∧ (setLine l s).inputs = s.inputs ∧ (setLine l s).converting = s.converting ∧
    (setLine l s).faults = s.faults ∧ (setLine l s).events = s.events ∧ (setLine l s).mem = s.mem := by
  unfold setLine
  split
  · simp
  · split <;> simp [examineBlocked]

@[simp] theorem frame_decideLine  (s : State) :
    (decideLine s).port = s.port ∧ (decideLine s).table = s.table ∧ (decideLine s).adv = s.adv ∧
    (decideLine s).drive = s.drive ∧ (decideLine s).thrust = s.thrust ∧ (decideLine s).shoe = s.shoe ∧
    (decideLine s).muck = s.muck ∧ (decideLine s).inputs = s.inputs ∧ (decideLine s).converting = s.converting ∧
    (decideLine s).faults = s.faults ∧ (decideLine s).events = s.events ∧ (decideLine s).mem = s.mem := by
  unfold decideLine
  split <;> simp

@[simp] theorem frame_recomputeDeficit  (s : State) :
    (recomputeDeficit s).port = s.port ∧ (recomputeDeficit s).table = s.table ∧ (recomputeDeficit s).adv = s.adv ∧
    (recomputeDeficit s).drive = s.drive ∧ (recomputeDeficit s).thrust = s.thrust ∧
    (recomputeDeficit s).shoe = s.shoe ∧ (recomputeDeficit s).muck = s.muck ∧
    (recomputeDeficit s).inputs = s.inputs ∧ (recomputeDeficit s).converting = s.converting ∧
    (recomputeDeficit s).faults = s.faults ∧ (recomputeDeficit s).events = s.events ∧
    (recomputeDeficit s).mem = s.mem := by
  unfold recomputeDeficit
  dsimp only
  split <;> simp [decideHoldRequest]

@[simp] theorem frame_recomputeTarget  (s : State) :
    (recomputeTarget s).port = s.port ∧ (recomputeTarget s).table = s.table ∧ (recomputeTarget s).adv = s.adv ∧
    (recomputeTarget s).drive = s.drive ∧ (recomputeTarget s).thrust = s.thrust ∧ (recomputeTarget s).shoe = s.shoe ∧
    (recomputeTarget s).muck = s.muck ∧ (recomputeTarget s).inputs = s.inputs ∧
    (recomputeTarget s).converting = s.converting ∧ (recomputeTarget s).faults = s.faults ∧
    (recomputeTarget s).events = s.events ∧ (recomputeTarget s).mem = s.mem := by
  unfold recomputeTarget
  split <;> simp

@[simp] theorem frame_examineDerate  (s : State) :
    (examineDerate s).port = s.port ∧ (examineDerate s).table = s.table ∧ (examineDerate s).adv = s.adv ∧
    (examineDerate s).drive = s.drive ∧ (examineDerate s).thrust = s.thrust ∧ (examineDerate s).shoe = s.shoe ∧
    (examineDerate s).muck = s.muck ∧ (examineDerate s).inputs = s.inputs ∧
    (examineDerate s).converting = s.converting ∧ (examineDerate s).faults = s.faults ∧
    (examineDerate s).events = s.events ∧ (examineDerate s).mem = s.mem := by
  unfold examineDerate
  dsimp only
  split <;> simp

@[simp] theorem frame_recomputeBand  (s : State) :
    (recomputeBand s).port = s.port ∧ (recomputeBand s).table = s.table ∧ (recomputeBand s).adv = s.adv ∧
    (recomputeBand s).drive = s.drive ∧ (recomputeBand s).thrust = s.thrust ∧ (recomputeBand s).shoe = s.shoe ∧
    (recomputeBand s).muck = s.muck ∧ (recomputeBand s).inputs = s.inputs ∧
    (recomputeBand s).converting = s.converting ∧ (recomputeBand s).faults = s.faults ∧
    (recomputeBand s).events = s.events ∧ (recomputeBand s).mem = s.mem := by
  simp [recomputeBand, examineGroutPressure]

@[simp] theorem frame_takeVoid (v : Nat) (s : State) :
    (takeVoid v s).port = s.port ∧ (takeVoid v s).table = s.table ∧ (takeVoid v s).adv = s.adv ∧
    (takeVoid v s).drive = s.drive ∧ (takeVoid v s).thrust = s.thrust ∧ (takeVoid v s).shoe = s.shoe ∧
    (takeVoid v s).muck = s.muck ∧ (takeVoid v s).inputs = s.inputs ∧ (takeVoid v s).converting = s.converting ∧
    (takeVoid v s).faults = s.faults ∧ (takeVoid v s).events = s.events ∧ (takeVoid v s).mem = s.mem := by
  unfold takeVoid
  split <;> simp

@[simp] theorem frame_takeWeight (w : Nat) (s : State) :
    (takeWeight w s).port = s.port ∧ (takeWeight w s).table = s.table ∧ (takeWeight w s).adv = s.adv ∧
    (takeWeight w s).drive = s.drive ∧ (takeWeight w s).thrust = s.thrust ∧ (takeWeight w s).shoe = s.shoe ∧
    (takeWeight w s).muck = s.muck ∧ (takeWeight w s).inputs = s.inputs ∧
    (takeWeight w s).converting = s.converting ∧ (takeWeight w s).faults = s.faults ∧
    (takeWeight w s).events = s.events ∧ (takeWeight w s).mem = s.mem := by
  unfold takeWeight
  split <;> simp

@[simp] theorem frame_startPulse  (s : State) :
    (startPulse s).port = s.port ∧ (startPulse s).table = s.table ∧ (startPulse s).adv = s.adv ∧
    (startPulse s).drive = s.drive ∧ (startPulse s).thrust = s.thrust ∧ (startPulse s).shoe = s.shoe ∧
    (startPulse s).muck = s.muck ∧ (startPulse s).inputs = s.inputs ∧ (startPulse s).converting = s.converting ∧
    (startPulse s).faults = s.faults ∧ (startPulse s).events = s.events ∧ (startPulse s).mem = s.mem := by
  simp [startPulse]

@[simp] theorem frame_clearPulse  (s : State) :
    (clearPulse s).port = s.port ∧ (clearPulse s).table = s.table ∧ (clearPulse s).adv = s.adv ∧
    (clearPulse s).drive = s.drive ∧ (clearPulse s).thrust = s.thrust ∧ (clearPulse s).shoe = s.shoe ∧
    (clearPulse s).muck = s.muck ∧ (clearPulse s).inputs = s.inputs ∧ (clearPulse s).converting = s.converting ∧
    (clearPulse s).faults = s.faults ∧ (clearPulse s).events = s.events ∧ (clearPulse s).mem = s.mem := by
  simp [clearPulse]

@[simp] theorem frame_greaseTrigger  (s : State) :
    (greaseTrigger s).table = s.table ∧ (greaseTrigger s).adv = s.adv ∧ (greaseTrigger s).drive = s.drive ∧
    (greaseTrigger s).thrust = s.thrust ∧ (greaseTrigger s).shoe = s.shoe ∧ (greaseTrigger s).muck = s.muck ∧
    (greaseTrigger s).inputs = s.inputs ∧ (greaseTrigger s).converting = s.converting ∧
    (greaseTrigger s).faults = s.faults ∧ (greaseTrigger s).mem = s.mem ∧
    (greaseTrigger s).grout.line = s.grout.line ∧ (greaseTrigger s).grout.phi = s.grout.phi ∧
    (greaseTrigger s).grout.target = s.grout.target ∧ (greaseTrigger s).grout.delivered = s.grout.delivered ∧
    (greaseTrigger s).grout.carry = s.grout.carry ∧ (greaseTrigger s).grout.deficit = s.grout.deficit ∧
    (greaseTrigger s).grout.holdRequest = s.grout.holdRequest ∧ (greaseTrigger s).grout.void = s.grout.void ∧
    (greaseTrigger s).grout.weight = s.grout.weight ∧ (greaseTrigger s).grout.pressure = s.grout.pressure ∧
    (greaseTrigger s).grout.pressureValid = s.grout.pressureValid ∧ (greaseTrigger s).grout.capLo = s.grout.capLo ∧
    (greaseTrigger s).grout.capHi = s.grout.capHi ∧ (greaseTrigger s).grout.derate = s.grout.derate ∧
    (greaseTrigger s).grout.rate = s.grout.rate ∧ (greaseTrigger s).grout.blockedPresent = s.grout.blockedPresent ∧
    (greaseTrigger s).grout.blockedTimer = s.grout.blockedTimer ∧
    (greaseTrigger s).grout.opPresent = s.grout.opPresent ∧ (greaseTrigger s).grout.opTimer = s.grout.opTimer ∧
    (greaseTrigger s).grout.evalTimer = s.grout.evalTimer ∧ (greaseTrigger s).port.backbone = s.port.backbone ∧
    (greaseTrigger s).port.failures = s.port.failures ∧ (greaseTrigger s).port.rejected = s.port.rejected ∧
    (greaseTrigger s).port.queue = s.port.queue ∧ (greaseTrigger s).port.onLine = s.port.onLine ∧
    (greaseTrigger s).port.rx = s.port.rx ∧ (greaseTrigger s).port.ackDriven = s.port.ackDriven ∧
    (greaseTrigger s).port.joinTimer = s.port.joinTimer ∧ (greaseTrigger s).port.pubTimer = s.port.pubTimer ∧
    (greaseTrigger s).port.seen = s.port.seen ∧ (greaseTrigger s).port.claimDue = s.port.claimDue ∧
    (greaseTrigger s).events.stopped = s.events.stopped ∧ (greaseTrigger s).events.alarm = s.events.alarm := by
  unfold greaseTrigger
  split <;> simp [startPulse]

@[simp] theorem frame_greaseTriggers (n : Nat) (s : State) :
    (greaseTriggers n s).table = s.table ∧ (greaseTriggers n s).adv = s.adv ∧ (greaseTriggers n s).drive = s.drive ∧
    (greaseTriggers n s).thrust = s.thrust ∧ (greaseTriggers n s).shoe = s.shoe ∧
    (greaseTriggers n s).muck = s.muck ∧ (greaseTriggers n s).inputs = s.inputs ∧
    (greaseTriggers n s).converting = s.converting ∧ (greaseTriggers n s).faults = s.faults ∧
    (greaseTriggers n s).mem = s.mem ∧ (greaseTriggers n s).grout.line = s.grout.line ∧
    (greaseTriggers n s).grout.phi = s.grout.phi ∧ (greaseTriggers n s).grout.target = s.grout.target ∧
    (greaseTriggers n s).grout.delivered = s.grout.delivered ∧ (greaseTriggers n s).grout.carry = s.grout.carry ∧
    (greaseTriggers n s).grout.deficit = s.grout.deficit ∧
    (greaseTriggers n s).grout.holdRequest = s.grout.holdRequest ∧ (greaseTriggers n s).grout.void = s.grout.void ∧
    (greaseTriggers n s).grout.weight = s.grout.weight ∧ (greaseTriggers n s).grout.pressure = s.grout.pressure ∧
    (greaseTriggers n s).grout.pressureValid = s.grout.pressureValid ∧
    (greaseTriggers n s).grout.capLo = s.grout.capLo ∧ (greaseTriggers n s).grout.capHi = s.grout.capHi ∧
    (greaseTriggers n s).grout.derate = s.grout.derate ∧ (greaseTriggers n s).grout.rate = s.grout.rate ∧
    (greaseTriggers n s).grout.blockedPresent = s.grout.blockedPresent ∧
    (greaseTriggers n s).grout.blockedTimer = s.grout.blockedTimer ∧
    (greaseTriggers n s).grout.opPresent = s.grout.opPresent ∧ (greaseTriggers n s).grout.opTimer = s.grout.opTimer ∧
    (greaseTriggers n s).grout.evalTimer = s.grout.evalTimer ∧ (greaseTriggers n s).port.backbone = s.port.backbone ∧
    (greaseTriggers n s).port.failures = s.port.failures ∧ (greaseTriggers n s).port.rejected = s.port.rejected ∧
    (greaseTriggers n s).port.queue = s.port.queue ∧ (greaseTriggers n s).port.onLine = s.port.onLine ∧
    (greaseTriggers n s).port.rx = s.port.rx ∧ (greaseTriggers n s).port.ackDriven = s.port.ackDriven ∧
    (greaseTriggers n s).port.joinTimer = s.port.joinTimer ∧ (greaseTriggers n s).port.pubTimer = s.port.pubTimer ∧
    (greaseTriggers n s).port.seen = s.port.seen ∧ (greaseTriggers n s).port.claimDue = s.port.claimDue ∧
    (greaseTriggers n s).events.stopped = s.events.stopped ∧ (greaseTriggers n s).events.alarm = s.events.alarm := by
  induction n generalizing s with
  | zero => simp [greaseTriggers]
  | succ n ih => simp [greaseTriggers, ih]

@[simp] theorem frame_issueGrease  (s : State) :
    (issueGrease s).table = s.table ∧ (issueGrease s).drive = s.drive ∧ (issueGrease s).thrust = s.thrust ∧
    (issueGrease s).shoe = s.shoe ∧ (issueGrease s).muck = s.muck ∧ (issueGrease s).inputs = s.inputs ∧
    (issueGrease s).converting = s.converting ∧ (issueGrease s).faults = s.faults ∧ (issueGrease s).mem = s.mem ∧
    (issueGrease s).grout.line = s.grout.line ∧ (issueGrease s).grout.phi = s.grout.phi ∧
    (issueGrease s).grout.target = s.grout.target ∧ (issueGrease s).grout.delivered = s.grout.delivered ∧
    (issueGrease s).grout.carry = s.grout.carry ∧ (issueGrease s).grout.deficit = s.grout.deficit ∧
    (issueGrease s).grout.holdRequest = s.grout.holdRequest ∧ (issueGrease s).grout.void = s.grout.void ∧
    (issueGrease s).grout.weight = s.grout.weight ∧ (issueGrease s).grout.pressure = s.grout.pressure ∧
    (issueGrease s).grout.pressureValid = s.grout.pressureValid ∧ (issueGrease s).grout.capLo = s.grout.capLo ∧
    (issueGrease s).grout.capHi = s.grout.capHi ∧ (issueGrease s).grout.derate = s.grout.derate ∧
    (issueGrease s).grout.rate = s.grout.rate ∧ (issueGrease s).grout.blockedPresent = s.grout.blockedPresent ∧
    (issueGrease s).grout.blockedTimer = s.grout.blockedTimer ∧ (issueGrease s).grout.opPresent = s.grout.opPresent ∧
    (issueGrease s).grout.opTimer = s.grout.opTimer ∧ (issueGrease s).grout.evalTimer = s.grout.evalTimer ∧
    (issueGrease s).port.backbone = s.port.backbone ∧ (issueGrease s).port.failures = s.port.failures ∧
    (issueGrease s).port.rejected = s.port.rejected ∧ (issueGrease s).port.queue = s.port.queue ∧
    (issueGrease s).port.onLine = s.port.onLine ∧ (issueGrease s).port.rx = s.port.rx ∧
    (issueGrease s).port.ackDriven = s.port.ackDriven ∧ (issueGrease s).port.joinTimer = s.port.joinTimer ∧
    (issueGrease s).port.pubTimer = s.port.pubTimer ∧ (issueGrease s).port.seen = s.port.seen ∧
    (issueGrease s).port.claimDue = s.port.claimDue ∧ (issueGrease s).adv.stroke = s.adv.stroke ∧
    (issueGrease s).adv.strokeValid = s.adv.strokeValid ∧ (issueGrease s).adv.base = s.adv.base ∧
    (issueGrease s).adv.advance = s.adv.advance ∧ (issueGrease s).adv.ring = s.adv.ring ∧
    (issueGrease s).adv.machineA = s.adv.machineA ∧ (issueGrease s).adv.aRing = s.adv.aRing ∧
    (issueGrease s).adv.void = s.adv.void ∧ (issueGrease s).adv.mExp = s.adv.mExp ∧
    (issueGrease s).adv.rate = s.adv.rate ∧ (issueGrease s).adv.rateBase = s.adv.rateBase ∧
    (issueGrease s).adv.rateTimer = s.adv.rateTimer ∧ (issueGrease s).adv.milestones = s.adv.milestones ∧
    (issueGrease s).events.stopped = s.events.stopped ∧ (issueGrease s).events.alarm = s.events.alarm := by
  unfold issueGrease
  dsimp only
  split <;> simp

/-! ## The muck unit, the gates and the memory port -/

@[simp] theorem frame_examineOverdig  (s : State) :
    (examineOverdig s).table = s.table ∧ (examineOverdig s).adv = s.adv ∧ (examineOverdig s).drive = s.drive ∧
    (examineOverdig s).thrust = s.thrust ∧ (examineOverdig s).shoe = s.shoe ∧ (examineOverdig s).grout = s.grout ∧
    (examineOverdig s).inputs = s.inputs ∧ (examineOverdig s).converting = s.converting ∧
    (examineOverdig s).channels = s.channels ∧ (examineOverdig s).faults = s.faults ∧
    (examineOverdig s).mem = s.mem ∧ (examineOverdig s).muck.chamber1 = s.muck.chamber1 ∧
    (examineOverdig s).muck.chamber2 = s.muck.chamber2 ∧ (examineOverdig s).muck.chamber3 = s.muck.chamber3 ∧
    (examineOverdig s).muck.pCh = s.muck.pCh ∧ (examineOverdig s).muck.blind = s.muck.blind ∧
    (examineOverdig s).muck.state = s.muck.state ∧ (examineOverdig s).muck.err = s.muck.err ∧
    (examineOverdig s).muck.nFf = s.muck.nFf ∧ (examineOverdig s).muck.integ = s.muck.integ ∧
    (examineOverdig s).muck.nCmd = s.muck.nCmd ∧ (examineOverdig s).muck.nOut = s.muck.nOut ∧
    (examineOverdig s).muck.nS = s.muck.nS ∧ (examineOverdig s).muck.mMeas = s.muck.mMeas ∧
    (examineOverdig s).muck.stallPresent = s.muck.stallPresent ∧
    (examineOverdig s).muck.stallTimer = s.muck.stallTimer ∧ (examineOverdig s).muck.fbPresent = s.muck.fbPresent ∧
    (examineOverdig s).muck.fbTimer = s.muck.fbTimer ∧ (examineOverdig s).muck.evalTimer = s.muck.evalTimer ∧
    (examineOverdig s).muck.mExp = s.muck.mExp ∧ (examineOverdig s).muck.balance = s.muck.balance ∧
    (examineOverdig s).muck.underdig = s.muck.underdig ∧ (examineOverdig s).port.backbone = s.port.backbone ∧
    (examineOverdig s).port.failures = s.port.failures ∧ (examineOverdig s).port.rejected = s.port.rejected ∧
    (examineOverdig s).port.queue = s.port.queue ∧ (examineOverdig s).port.onLine = s.port.onLine ∧
    (examineOverdig s).port.rx = s.port.rx ∧ (examineOverdig s).port.ackDriven = s.port.ackDriven ∧
    (examineOverdig s).port.joinTimer = s.port.joinTimer ∧ (examineOverdig s).port.pubTimer = s.port.pubTimer ∧
    (examineOverdig s).port.seen = s.port.seen ∧ (examineOverdig s).port.claimDue = s.port.claimDue ∧
    (examineOverdig s).events.stopped = s.events.stopped ∧ (examineOverdig s).events.alarm = s.events.alarm := by
  unfold examineOverdig
  split <;> simp

@[simp] theorem frame_examineUnderdig  (s : State) :
    (examineUnderdig s).table = s.table ∧ (examineUnderdig s).adv = s.adv ∧ (examineUnderdig s).drive = s.drive ∧
    (examineUnderdig s).thrust = s.thrust ∧ (examineUnderdig s).shoe = s.shoe ∧ (examineUnderdig s).grout = s.grout ∧
    (examineUnderdig s).inputs = s.inputs ∧ (examineUnderdig s).converting = s.converting ∧
    (examineUnderdig s).channels = s.channels ∧ (examineUnderdig s).faults = s.faults ∧
    (examineUnderdig s).mem = s.mem ∧ (examineUnderdig s).muck.chamber1 = s.muck.chamber1 ∧
    (examineUnderdig s).muck.chamber2 = s.muck.chamber2 ∧ (examineUnderdig s).muck.chamber3 = s.muck.chamber3 ∧
    (examineUnderdig s).muck.pCh = s.muck.pCh ∧ (examineUnderdig s).muck.blind = s.muck.blind ∧
    (examineUnderdig s).muck.state = s.muck.state ∧ (examineUnderdig s).muck.err = s.muck.err ∧
    (examineUnderdig s).muck.nFf = s.muck.nFf ∧ (examineUnderdig s).muck.integ = s.muck.integ ∧
    (examineUnderdig s).muck.nCmd = s.muck.nCmd ∧ (examineUnderdig s).muck.nOut = s.muck.nOut ∧
    (examineUnderdig s).muck.nS = s.muck.nS ∧ (examineUnderdig s).muck.mMeas = s.muck.mMeas ∧
    (examineUnderdig s).muck.stallPresent = s.muck.stallPresent ∧
    (examineUnderdig s).muck.stallTimer = s.muck.stallTimer ∧ (examineUnderdig s).muck.fbPresent = s.muck.fbPresent ∧
    (examineUnderdig s).muck.fbTimer = s.muck.fbTimer ∧ (examineUnderdig s).muck.evalTimer = s.muck.evalTimer ∧
    (examineUnderdig s).muck.mExp = s.muck.mExp ∧ (examineUnderdig s).muck.balance = s.muck.balance ∧
    (examineUnderdig s).muck.overdig = s.muck.overdig ∧ (examineUnderdig s).port.backbone = s.port.backbone ∧
    (examineUnderdig s).port.failures = s.port.failures ∧ (examineUnderdig s).port.rejected = s.port.rejected ∧
    (examineUnderdig s).port.queue = s.port.queue ∧ (examineUnderdig s).port.onLine = s.port.onLine ∧
    (examineUnderdig s).port.rx = s.port.rx ∧ (examineUnderdig s).port.ackDriven = s.port.ackDriven ∧
    (examineUnderdig s).port.joinTimer = s.port.joinTimer ∧ (examineUnderdig s).port.pubTimer = s.port.pubTimer ∧
    (examineUnderdig s).port.seen = s.port.seen ∧ (examineUnderdig s).port.claimDue = s.port.claimDue ∧
    (examineUnderdig s).events.stopped = s.events.stopped ∧ (examineUnderdig s).events.alarm = s.events.alarm := by
  unfold examineUnderdig
  split <;> simp

@[simp] theorem frame_recomputeBalance  (s : State) :
    (recomputeBalance s).table = s.table ∧ (recomputeBalance s).adv = s.adv ∧ (recomputeBalance s).drive = s.drive ∧
    (recomputeBalance s).thrust = s.thrust ∧ (recomputeBalance s).shoe = s.shoe ∧
    (recomputeBalance s).grout = s.grout ∧ (recomputeBalance s).inputs = s.inputs ∧
    (recomputeBalance s).converting = s.converting ∧ (recomputeBalance s).channels = s.channels ∧
    (recomputeBalance s).faults = s.faults ∧ (recomputeBalance s).mem = s.mem ∧
    (recomputeBalance s).muck.chamber1 = s.muck.chamber1 ∧ (recomputeBalance s).muck.chamber2 = s.muck.chamber2 ∧
    (recomputeBalance s).muck.chamber3 = s.muck.chamber3 ∧ (recomputeBalance s).muck.pCh = s.muck.pCh ∧
    (recomputeBalance s).muck.blind = s.muck.blind ∧ (recomputeBalance s).muck.state = s.muck.state ∧
    (recomputeBalance s).muck.err = s.muck.err ∧ (recomputeBalance s).muck.nFf = s.muck.nFf ∧
    (recomputeBalance s).muck.integ = s.muck.integ ∧ (recomputeBalance s).muck.nCmd = s.muck.nCmd ∧
    (recomputeBalance s).muck.nOut = s.muck.nOut ∧ (recomputeBalance s).muck.nS = s.muck.nS ∧
    (recomputeBalance s).muck.mMeas = s.muck.mMeas ∧ (recomputeBalance s).muck.stallPresent = s.muck.stallPresent ∧
    (recomputeBalance s).muck.stallTimer = s.muck.stallTimer ∧
    (recomputeBalance s).muck.fbPresent = s.muck.fbPresent ∧ (recomputeBalance s).muck.fbTimer = s.muck.fbTimer ∧
    (recomputeBalance s).muck.evalTimer = s.muck.evalTimer ∧ (recomputeBalance s).muck.mExp = s.muck.mExp ∧
    (recomputeBalance s).port.backbone = s.port.backbone ∧ (recomputeBalance s).port.failures = s.port.failures ∧
    (recomputeBalance s).port.rejected = s.port.rejected ∧ (recomputeBalance s).port.queue = s.port.queue ∧
    (recomputeBalance s).port.onLine = s.port.onLine ∧ (recomputeBalance s).port.rx = s.port.rx ∧
    (recomputeBalance s).port.ackDriven = s.port.ackDriven ∧ (recomputeBalance s).port.joinTimer = s.port.joinTimer ∧
    (recomputeBalance s).port.pubTimer = s.port.pubTimer ∧ (recomputeBalance s).port.seen = s.port.seen ∧
    (recomputeBalance s).port.claimDue = s.port.claimDue ∧ (recomputeBalance s).events.stopped = s.events.stopped ∧
    (recomputeBalance s).events.alarm = s.events.alarm := by
  unfold recomputeBalance
  split <;> simp

@[simp] theorem frame_takeExpectedMass (m : Nat) (s : State) :
    (takeExpectedMass m s).table = s.table ∧ (takeExpectedMass m s).adv = s.adv ∧
    (takeExpectedMass m s).drive = s.drive ∧ (takeExpectedMass m s).thrust = s.thrust ∧
    (takeExpectedMass m s).shoe = s.shoe ∧ (takeExpectedMass m s).grout = s.grout ∧
    (takeExpectedMass m s).inputs = s.inputs ∧ (takeExpectedMass m s).converting = s.converting ∧
    (takeExpectedMass m s).channels = s.channels ∧ (takeExpectedMass m s).faults = s.faults ∧
    (takeExpectedMass m s).mem = s.mem ∧ (takeExpectedMass m s).muck.chamber1 = s.muck.chamber1 ∧
    (takeExpectedMass m s).muck.chamber2 = s.muck.chamber2 ∧ (takeExpectedMass m s).muck.chamber3 = s.muck.chamber3 ∧
    (takeExpectedMass m s).muck.pCh = s.muck.pCh ∧ (takeExpectedMass m s).muck.blind = s.muck.blind ∧
    (takeExpectedMass m s).muck.state = s.muck.state ∧ (takeExpectedMass m s).muck.err = s.muck.err ∧
    (takeExpectedMass m s).muck.nFf = s.muck.nFf ∧ (takeExpectedMass m s).muck.integ = s.muck.integ ∧
    (takeExpectedMass m s).muck.nCmd = s.muck.nCmd ∧ (takeExpectedMass m s).muck.nOut = s.muck.nOut ∧
    (takeExpectedMass m s).muck.nS = s.muck.nS ∧ (takeExpectedMass m s).muck.mMeas = s.muck.mMeas ∧
    (takeExpectedMass m s).muck.stallPresent = s.muck.stallPresent ∧
    (takeExpectedMass m s).muck.stallTimer = s.muck.stallTimer ∧
    (takeExpectedMass m s).muck.fbPresent = s.muck.fbPresent ∧ (takeExpectedMass m s).muck.fbTimer = s.muck.fbTimer ∧
    (takeExpectedMass m s).muck.evalTimer = s.muck.evalTimer ∧
    (takeExpectedMass m s).port.backbone = s.port.backbone ∧ (takeExpectedMass m s).port.failures = s.port.failures ∧
    (takeExpectedMass m s).port.rejected = s.port.rejected ∧ (takeExpectedMass m s).port.queue = s.port.queue ∧
    (takeExpectedMass m s).port.onLine = s.port.onLine ∧ (takeExpectedMass m s).port.rx = s.port.rx ∧
    (takeExpectedMass m s).port.ackDriven = s.port.ackDriven ∧
    (takeExpectedMass m s).port.joinTimer = s.port.joinTimer ∧
    (takeExpectedMass m s).port.pubTimer = s.port.pubTimer ∧ (takeExpectedMass m s).port.seen = s.port.seen ∧
    (takeExpectedMass m s).port.claimDue = s.port.claimDue ∧
    (takeExpectedMass m s).events.stopped = s.events.stopped ∧
    (takeExpectedMass m s).events.alarm = s.events.alarm := by
  unfold takeExpectedMass
  split <;> simp

@[simp] theorem frame_gateChanged (f : ChFunction) (s : State) :
    (gateChanged f s).port = s.port ∧ (gateChanged f s).table = s.table ∧ (gateChanged f s).adv = s.adv ∧
    (gateChanged f s).drive = s.drive ∧ (gateChanged f s).thrust = s.thrust ∧ (gateChanged f s).shoe = s.shoe ∧
    (gateChanged f s).inputs = s.inputs ∧ (gateChanged f s).converting = s.converting ∧
    (gateChanged f s).channels = s.channels ∧ (gateChanged f s).faults = s.faults ∧
    (gateChanged f s).events = s.events ∧ (gateChanged f s).mem = s.mem ∧
    (gateChanged f s).muck.chamber1 = s.muck.chamber1 ∧ (gateChanged f s).muck.chamber2 = s.muck.chamber2 ∧
    (gateChanged f s).muck.chamber3 = s.muck.chamber3 ∧ (gateChanged f s).muck.pCh = s.muck.pCh ∧
    (gateChanged f s).muck.blind = s.muck.blind ∧ (gateChanged f s).muck.state = s.muck.state ∧
    (gateChanged f s).muck.err = s.muck.err ∧ (gateChanged f s).muck.nFf = s.muck.nFf ∧
    (gateChanged f s).muck.integ = s.muck.integ ∧ (gateChanged f s).muck.nCmd = s.muck.nCmd ∧
    (gateChanged f s).muck.nOut = s.muck.nOut ∧ (gateChanged f s).muck.nS = s.muck.nS ∧
    (gateChanged f s).muck.mMeas = s.muck.mMeas ∧ (gateChanged f s).muck.mExp = s.muck.mExp ∧
    (gateChanged f s).muck.balance = s.muck.balance ∧ (gateChanged f s).muck.overdig = s.muck.overdig ∧
    (gateChanged f s).muck.underdig = s.muck.underdig ∧ (gateChanged f s).muck.evalTimer = s.muck.evalTimer ∧
    (gateChanged f s).grout.line = s.grout.line ∧ (gateChanged f s).grout.phi = s.grout.phi ∧
    (gateChanged f s).grout.target = s.grout.target ∧ (gateChanged f s).grout.delivered = s.grout.delivered ∧
    (gateChanged f s).grout.carry = s.grout.carry ∧ (gateChanged f s).grout.deficit = s.grout.deficit ∧
    (gateChanged f s).grout.holdRequest = s.grout.holdRequest ∧ (gateChanged f s).grout.void = s.grout.void ∧
    (gateChanged f s).grout.weight = s.grout.weight ∧ (gateChanged f s).grout.pressure = s.grout.pressure ∧
    (gateChanged f s).grout.pressureValid = s.grout.pressureValid ∧ (gateChanged f s).grout.capLo = s.grout.capLo ∧
    (gateChanged f s).grout.capHi = s.grout.capHi ∧ (gateChanged f s).grout.derate = s.grout.derate ∧
    (gateChanged f s).grout.rate = s.grout.rate ∧ (gateChanged f s).grout.opPresent = s.grout.opPresent ∧
    (gateChanged f s).grout.opTimer = s.grout.opTimer ∧ (gateChanged f s).grout.pulse = s.grout.pulse ∧
    (gateChanged f s).grout.pulseTimer = s.grout.pulseTimer ∧
    (gateChanged f s).grout.evalTimer = s.grout.evalTimer := by
  unfold gateChanged
  split <;> simp [examineBlocked, examineScrew]

@[simp] theorem frame_refreshGate (i : Fin 8) (s : State) :
    (refreshGate i s).port = s.port ∧ (refreshGate i s).table = s.table ∧ (refreshGate i s).adv = s.adv ∧
    (refreshGate i s).drive = s.drive ∧ (refreshGate i s).thrust = s.thrust ∧ (refreshGate i s).shoe = s.shoe ∧
    (refreshGate i s).inputs = s.inputs ∧ (refreshGate i s).converting = s.converting ∧
    (refreshGate i s).faults = s.faults ∧ (refreshGate i s).events = s.events ∧ (refreshGate i s).mem = s.mem ∧
    (refreshGate i s).muck.chamber1 = s.muck.chamber1 ∧ (refreshGate i s).muck.chamber2 = s.muck.chamber2 ∧
    (refreshGate i s).muck.chamber3 = s.muck.chamber3 ∧ (refreshGate i s).muck.pCh = s.muck.pCh ∧
    (refreshGate i s).muck.blind = s.muck.blind ∧ (refreshGate i s).muck.state = s.muck.state ∧
    (refreshGate i s).muck.err = s.muck.err ∧ (refreshGate i s).muck.nFf = s.muck.nFf ∧
    (refreshGate i s).muck.integ = s.muck.integ ∧ (refreshGate i s).muck.nCmd = s.muck.nCmd ∧
    (refreshGate i s).muck.nOut = s.muck.nOut ∧ (refreshGate i s).muck.nS = s.muck.nS ∧
    (refreshGate i s).muck.mMeas = s.muck.mMeas ∧ (refreshGate i s).muck.mExp = s.muck.mExp ∧
    (refreshGate i s).muck.balance = s.muck.balance ∧ (refreshGate i s).muck.overdig = s.muck.overdig ∧
    (refreshGate i s).muck.underdig = s.muck.underdig ∧ (refreshGate i s).muck.evalTimer = s.muck.evalTimer ∧
    (refreshGate i s).grout.line = s.grout.line ∧ (refreshGate i s).grout.phi = s.grout.phi ∧
    (refreshGate i s).grout.target = s.grout.target ∧ (refreshGate i s).grout.delivered = s.grout.delivered ∧
    (refreshGate i s).grout.carry = s.grout.carry ∧ (refreshGate i s).grout.deficit = s.grout.deficit ∧
    (refreshGate i s).grout.holdRequest = s.grout.holdRequest ∧ (refreshGate i s).grout.void = s.grout.void ∧
    (refreshGate i s).grout.weight = s.grout.weight ∧ (refreshGate i s).grout.pressure = s.grout.pressure ∧
    (refreshGate i s).grout.pressureValid = s.grout.pressureValid ∧ (refreshGate i s).grout.capLo = s.grout.capLo ∧
    (refreshGate i s).grout.capHi = s.grout.capHi ∧ (refreshGate i s).grout.derate = s.grout.derate ∧
    (refreshGate i s).grout.rate = s.grout.rate ∧ (refreshGate i s).grout.opPresent = s.grout.opPresent ∧
    (refreshGate i s).grout.opTimer = s.grout.opTimer ∧ (refreshGate i s).grout.pulse = s.grout.pulse ∧
    (refreshGate i s).grout.pulseTimer = s.grout.pulseTimer ∧
    (refreshGate i s).grout.evalTimer = s.grout.evalTimer := by
  unfold refreshGate
  split
  · simp
  · split <;> simp

@[simp] theorem frame_refreshGates  (s : State) :
    (refreshGates s).port = s.port ∧ (refreshGates s).table = s.table ∧ (refreshGates s).adv = s.adv ∧
    (refreshGates s).drive = s.drive ∧ (refreshGates s).thrust = s.thrust ∧ (refreshGates s).shoe = s.shoe ∧
    (refreshGates s).inputs = s.inputs ∧ (refreshGates s).converting = s.converting ∧
    (refreshGates s).faults = s.faults ∧ (refreshGates s).events = s.events ∧ (refreshGates s).mem = s.mem ∧
    (refreshGates s).muck.chamber1 = s.muck.chamber1 ∧ (refreshGates s).muck.chamber2 = s.muck.chamber2 ∧
    (refreshGates s).muck.chamber3 = s.muck.chamber3 ∧ (refreshGates s).muck.pCh = s.muck.pCh ∧
    (refreshGates s).muck.blind = s.muck.blind ∧ (refreshGates s).muck.state = s.muck.state ∧
    (refreshGates s).muck.err = s.muck.err ∧ (refreshGates s).muck.nFf = s.muck.nFf ∧
    (refreshGates s).muck.integ = s.muck.integ ∧ (refreshGates s).muck.nCmd = s.muck.nCmd ∧
    (refreshGates s).muck.nOut = s.muck.nOut ∧ (refreshGates s).muck.nS = s.muck.nS ∧
    (refreshGates s).muck.mMeas = s.muck.mMeas ∧ (refreshGates s).muck.mExp = s.muck.mExp ∧
    (refreshGates s).muck.balance = s.muck.balance ∧ (refreshGates s).muck.overdig = s.muck.overdig ∧
    (refreshGates s).muck.underdig = s.muck.underdig ∧ (refreshGates s).muck.evalTimer = s.muck.evalTimer ∧
    (refreshGates s).grout.line = s.grout.line ∧ (refreshGates s).grout.phi = s.grout.phi ∧
    (refreshGates s).grout.target = s.grout.target ∧ (refreshGates s).grout.delivered = s.grout.delivered ∧
    (refreshGates s).grout.carry = s.grout.carry ∧ (refreshGates s).grout.deficit = s.grout.deficit ∧
    (refreshGates s).grout.holdRequest = s.grout.holdRequest ∧ (refreshGates s).grout.void = s.grout.void ∧
    (refreshGates s).grout.weight = s.grout.weight ∧ (refreshGates s).grout.pressure = s.grout.pressure ∧
    (refreshGates s).grout.pressureValid = s.grout.pressureValid ∧ (refreshGates s).grout.capLo = s.grout.capLo ∧
    (refreshGates s).grout.capHi = s.grout.capHi ∧ (refreshGates s).grout.derate = s.grout.derate ∧
    (refreshGates s).grout.rate = s.grout.rate ∧ (refreshGates s).grout.opPresent = s.grout.opPresent ∧
    (refreshGates s).grout.opTimer = s.grout.opTimer ∧ (refreshGates s).grout.pulse = s.grout.pulse ∧
    (refreshGates s).grout.pulseTimer = s.grout.pulseTimer ∧
    (refreshGates s).grout.evalTimer = s.grout.evalTimer := by
  simp [refreshGates]

@[simp] theorem frame_triggerSave  (s : State) :
    (triggerSave s).port = s.port ∧ (triggerSave s).table = s.table ∧ (triggerSave s).adv = s.adv ∧
    (triggerSave s).drive = s.drive ∧ (triggerSave s).thrust = s.thrust ∧ (triggerSave s).shoe = s.shoe ∧
    (triggerSave s).grout = s.grout ∧ (triggerSave s).muck = s.muck ∧ (triggerSave s).inputs = s.inputs ∧
    (triggerSave s).converting = s.converting ∧ (triggerSave s).channels = s.channels ∧
    (triggerSave s).faults = s.faults ∧ (triggerSave s).events = s.events := by
  unfold triggerSave startRecordWrite
  split
  · split <;> simp
  · simp

@[simp] theorem frame_countMilestone  (s : State) :
    (countMilestone s).port = s.port ∧ (countMilestone s).table = s.table ∧ (countMilestone s).drive = s.drive ∧
    (countMilestone s).thrust = s.thrust ∧ (countMilestone s).shoe = s.shoe ∧ (countMilestone s).grout = s.grout ∧
    (countMilestone s).muck = s.muck ∧ (countMilestone s).inputs = s.inputs ∧
    (countMilestone s).converting = s.converting ∧ (countMilestone s).channels = s.channels ∧
    (countMilestone s).faults = s.faults ∧ (countMilestone s).events = s.events ∧
    (countMilestone s).adv.stroke = s.adv.stroke ∧ (countMilestone s).adv.strokeValid = s.adv.strokeValid ∧
    (countMilestone s).adv.base = s.adv.base ∧ (countMilestone s).adv.advance = s.adv.advance ∧
    (countMilestone s).adv.ring = s.adv.ring ∧ (countMilestone s).adv.machineA = s.adv.machineA ∧
    (countMilestone s).adv.aRing = s.adv.aRing ∧ (countMilestone s).adv.void = s.adv.void ∧
    (countMilestone s).adv.mExp = s.adv.mExp ∧ (countMilestone s).adv.rate = s.adv.rate ∧
    (countMilestone s).adv.rateBase = s.adv.rateBase ∧ (countMilestone s).adv.rateTimer = s.adv.rateTimer ∧
    (countMilestone s).adv.grease = s.adv.grease := by
  unfold countMilestone
  dsimp only
  split <;> simp

/-! ## The advance unit and the peer table -/

@[simp] theorem frame_setARing (x : Nat) (s : State) :
    (setARing x s).table = s.table ∧ (setARing x s).drive = s.drive ∧ (setARing x s).thrust = s.thrust ∧
    (setARing x s).shoe = s.shoe ∧ (setARing x s).inputs = s.inputs ∧ (setARing x s).converting = s.converting ∧
    (setARing x s).faults = s.faults ∧ (setARing x s).adv.stroke = s.adv.stroke ∧
    (setARing x s).adv.strokeValid = s.adv.strokeValid ∧ (setARing x s).adv.base = s.adv.base ∧
    (setARing x s).adv.advance = s.adv.advance ∧ (setARing x s).adv.ring = s.adv.ring ∧
    (setARing x s).adv.machineA = s.adv.machineA ∧ (setARing x s).adv.rate = s.adv.rate ∧
    (setARing x s).adv.rateBase = s.adv.rateBase ∧ (setARing x s).adv.rateTimer = s.adv.rateTimer ∧
    (setARing x s).muck.chamber1 = s.muck.chamber1 ∧ (setARing x s).muck.chamber2 = s.muck.chamber2 ∧
    (setARing x s).muck.chamber3 = s.muck.chamber3 ∧ (setARing x s).muck.pCh = s.muck.pCh ∧
    (setARing x s).muck.blind = s.muck.blind ∧ (setARing x s).muck.state = s.muck.state ∧
    (setARing x s).muck.err = s.muck.err ∧ (setARing x s).muck.nFf = s.muck.nFf ∧
    (setARing x s).muck.integ = s.muck.integ ∧ (setARing x s).muck.nCmd = s.muck.nCmd ∧
    (setARing x s).muck.nOut = s.muck.nOut ∧ (setARing x s).muck.nS = s.muck.nS ∧
    (setARing x s).muck.mMeas = s.muck.mMeas ∧ (setARing x s).muck.stallPresent = s.muck.stallPresent ∧
    (setARing x s).muck.stallTimer = s.muck.stallTimer ∧ (setARing x s).muck.fbPresent = s.muck.fbPresent ∧
    (setARing x s).muck.fbTimer = s.muck.fbTimer ∧ (setARing x s).muck.evalTimer = s.muck.evalTimer ∧
    (setARing x s).port.backbone = s.port.backbone ∧ (setARing x s).port.failures = s.port.failures ∧
    (setARing x s).port.rejected = s.port.rejected ∧ (setARing x s).port.queue = s.port.queue ∧
    (setARing x s).port.onLine = s.port.onLine ∧ (setARing x s).port.rx = s.port.rx ∧
    (setARing x s).port.ackDriven = s.port.ackDriven ∧ (setARing x s).port.joinTimer = s.port.joinTimer ∧
    (setARing x s).port.pubTimer = s.port.pubTimer ∧ (setARing x s).port.seen = s.port.seen ∧
    (setARing x s).port.claimDue = s.port.claimDue ∧ (setARing x s).events.stopped = s.events.stopped ∧
    (setARing x s).events.alarm = s.events.alarm := by
  simp [setARing]

@[simp] theorem frame_updateARing  (s : State) :
    (updateARing s).table = s.table ∧ (updateARing s).drive = s.drive ∧ (updateARing s).thrust = s.thrust ∧
    (updateARing s).shoe = s.shoe ∧ (updateARing s).inputs = s.inputs ∧ (updateARing s).converting = s.converting ∧
    (updateARing s).faults = s.faults ∧ (updateARing s).adv.stroke = s.adv.stroke ∧
    (updateARing s).adv.strokeValid = s.adv.strokeValid ∧ (updateARing s).adv.base = s.adv.base ∧
    (updateARing s).adv.advance = s.adv.advance ∧ (updateARing s).adv.ring = s.adv.ring ∧
    (updateARing s).adv.machineA = s.adv.machineA ∧ (updateARing s).adv.rate = s.adv.rate ∧
    (updateARing s).adv.rateBase = s.adv.rateBase ∧ (updateARing s).adv.rateTimer = s.adv.rateTimer ∧
    (updateARing s).muck.chamber1 = s.muck.chamber1 ∧ (updateARing s).muck.chamber2 = s.muck.chamber2 ∧
    (updateARing s).muck.chamber3 = s.muck.chamber3 ∧ (updateARing s).muck.pCh = s.muck.pCh ∧
    (updateARing s).muck.blind = s.muck.blind ∧ (updateARing s).muck.state = s.muck.state ∧
    (updateARing s).muck.err = s.muck.err ∧ (updateARing s).muck.nFf = s.muck.nFf ∧
    (updateARing s).muck.integ = s.muck.integ ∧ (updateARing s).muck.nCmd = s.muck.nCmd ∧
    (updateARing s).muck.nOut = s.muck.nOut ∧ (updateARing s).muck.nS = s.muck.nS ∧
    (updateARing s).muck.mMeas = s.muck.mMeas ∧ (updateARing s).muck.stallPresent = s.muck.stallPresent ∧
    (updateARing s).muck.stallTimer = s.muck.stallTimer ∧ (updateARing s).muck.fbPresent = s.muck.fbPresent ∧
    (updateARing s).muck.fbTimer = s.muck.fbTimer ∧ (updateARing s).muck.evalTimer = s.muck.evalTimer ∧
    (updateARing s).port.backbone = s.port.backbone ∧ (updateARing s).port.failures = s.port.failures ∧
    (updateARing s).port.rejected = s.port.rejected ∧ (updateARing s).port.queue = s.port.queue ∧
    (updateARing s).port.onLine = s.port.onLine ∧ (updateARing s).port.rx = s.port.rx ∧
    (updateARing s).port.ackDriven = s.port.ackDriven ∧ (updateARing s).port.joinTimer = s.port.joinTimer ∧
    (updateARing s).port.pubTimer = s.port.pubTimer ∧ (updateARing s).port.seen = s.port.seen ∧
    (updateARing s).port.claimDue = s.port.claimDue ∧ (updateARing s).events.stopped = s.events.stopped ∧
    (updateARing s).events.alarm = s.events.alarm := by
  unfold updateARing
  split <;> simp

@[simp] theorem frame_recomputeAdvance  (s : State) :
    (recomputeAdvance s).table = s.table ∧ (recomputeAdvance s).drive = s.drive ∧
    (recomputeAdvance s).thrust = s.thrust ∧ (recomputeAdvance s).shoe = s.shoe ∧
    (recomputeAdvance s).inputs = s.inputs ∧ (recomputeAdvance s).converting = s.converting ∧
    (recomputeAdvance s).faults = s.faults ∧ (recomputeAdvance s).adv.stroke = s.adv.stroke ∧
    (recomputeAdvance s).adv.strokeValid = s.adv.strokeValid ∧ (recomputeAdvance s).adv.base = s.adv.base ∧
    (recomputeAdvance s).adv.advance = s.adv.advance ∧ (recomputeAdvance s).adv.ring = s.adv.ring ∧
    (recomputeAdvance s).adv.rate = s.adv.rate ∧ (recomputeAdvance s).adv.rateBase = s.adv.rateBase ∧
    (recomputeAdvance s).adv.rateTimer = s.adv.rateTimer ∧ (recomputeAdvance s).muck.chamber1 = s.muck.chamber1 ∧
    (recomputeAdvance s).muck.chamber2 = s.muck.chamber2 ∧ (recomputeAdvance s).muck.chamber3 = s.muck.chamber3 ∧
    (recomputeAdvance s).muck.pCh = s.muck.pCh ∧ (recomputeAdvance s).muck.blind = s.muck.blind ∧
    (recomputeAdvance s).muck.state = s.muck.state ∧ (recomputeAdvance s).muck.err = s.muck.err ∧
    (recomputeAdvance s).muck.nFf = s.muck.nFf ∧ (recomputeAdvance s).muck.integ = s.muck.integ ∧
    (recomputeAdvance s).muck.nCmd = s.muck.nCmd ∧ (recomputeAdvance s).muck.nOut = s.muck.nOut ∧
    (recomputeAdvance s).muck.nS = s.muck.nS ∧ (recomputeAdvance s).muck.mMeas = s.muck.mMeas ∧
    (recomputeAdvance s).muck.stallPresent = s.muck.stallPresent ∧
    (recomputeAdvance s).muck.stallTimer = s.muck.stallTimer ∧
    (recomputeAdvance s).muck.fbPresent = s.muck.fbPresent ∧ (recomputeAdvance s).muck.fbTimer = s.muck.fbTimer ∧
    (recomputeAdvance s).muck.evalTimer = s.muck.evalTimer ∧ (recomputeAdvance s).port.backbone = s.port.backbone ∧
    (recomputeAdvance s).port.failures = s.port.failures ∧ (recomputeAdvance s).port.rejected = s.port.rejected ∧
    (recomputeAdvance s).port.queue = s.port.queue ∧ (recomputeAdvance s).port.onLine = s.port.onLine ∧
    (recomputeAdvance s).port.rx = s.port.rx ∧ (recomputeAdvance s).port.ackDriven = s.port.ackDriven ∧
    (recomputeAdvance s).port.joinTimer = s.port.joinTimer ∧ (recomputeAdvance s).port.pubTimer = s.port.pubTimer ∧
    (recomputeAdvance s).port.seen = s.port.seen ∧ (recomputeAdvance s).port.claimDue = s.port.claimDue ∧
    (recomputeAdvance s).events.stopped = s.events.stopped ∧ (recomputeAdvance s).events.alarm = s.events.alarm := by
  unfold recomputeAdvance
  split <;> simp

@[simp] theorem frame_setReference (st : RefState) (p : Nat) (timer : Timer) (s : State) :
    (setReference st p timer s).port = s.port ∧ (setReference st p timer s).adv = s.adv ∧
    (setReference st p timer s).drive = s.drive ∧ (setReference st p timer s).thrust = s.thrust ∧
    (setReference st p timer s).shoe = s.shoe ∧ (setReference st p timer s).muck = s.muck ∧
    (setReference st p timer s).inputs = s.inputs ∧ (setReference st p timer s).converting = s.converting ∧
    (setReference st p timer s).faults = s.faults ∧ (setReference st p timer s).events = s.events ∧
    (setReference st p timer s).mem = s.mem ∧ (setReference st p timer s).table.stations = s.table.stations ∧
    (setReference st p timer s).table.console = s.table.console ∧
    (setReference st p timer s).table.mode = s.table.mode := by
  unfold setReference
  dsimp only
  split <;> simp

@[simp] theorem frame_refreshReference  (s : State) :
    (refreshReference s).port = s.port ∧ (refreshReference s).adv = s.adv ∧ (refreshReference s).drive = s.drive ∧
    (refreshReference s).thrust = s.thrust ∧ (refreshReference s).shoe = s.shoe ∧
    (refreshReference s).muck = s.muck ∧ (refreshReference s).inputs = s.inputs ∧
    (refreshReference s).converting = s.converting ∧ (refreshReference s).faults = s.faults ∧
    (refreshReference s).events = s.events ∧ (refreshReference s).mem = s.mem ∧
    (refreshReference s).table.stations = s.table.stations ∧ (refreshReference s).table.console = s.table.console ∧
    (refreshReference s).table.mode = s.table.mode := by
  unfold refreshReference
  split
  · simp
  · split <;> simp

@[simp] theorem frame_refreshWeight  (s : State) :
    (refreshWeight s).port = s.port ∧ (refreshWeight s).table = s.table ∧ (refreshWeight s).adv = s.adv ∧
    (refreshWeight s).drive = s.drive ∧ (refreshWeight s).thrust = s.thrust ∧ (refreshWeight s).shoe = s.shoe ∧
    (refreshWeight s).muck = s.muck ∧ (refreshWeight s).inputs = s.inputs ∧
    (refreshWeight s).converting = s.converting ∧ (refreshWeight s).faults = s.faults ∧
    (refreshWeight s).events = s.events ∧ (refreshWeight s).mem = s.mem := by
  simp [refreshWeight]

@[simp] theorem frame_regimeEvent  (s : State) :
    (regimeEvent s).port = s.port ∧ (regimeEvent s).table = s.table ∧ (regimeEvent s).adv = s.adv ∧
    (regimeEvent s).drive = s.drive ∧ (regimeEvent s).shoe = s.shoe ∧ (regimeEvent s).grout = s.grout ∧
    (regimeEvent s).muck = s.muck ∧ (regimeEvent s).inputs = s.inputs ∧ (regimeEvent s).converting = s.converting ∧
    (regimeEvent s).channels = s.channels ∧ (regimeEvent s).faults = s.faults ∧ (regimeEvent s).events = s.events ∧
    (regimeEvent s).mem = s.mem ∧ (regimeEvent s).thrust.pressure = s.thrust.pressure ∧
    (regimeEvent s).thrust.pressureValid = s.thrust.pressureValid ∧ (regimeEvent s).thrust.force = s.thrust.force ∧
    (regimeEvent s).thrust.pPush = s.thrust.pPush ∧ (regimeEvent s).thrust.floorClamp = s.thrust.floorClamp ∧
    (regimeEvent s).thrust.ceilClamp = s.thrust.ceilClamp ∧ (regimeEvent s).thrust.fReq = s.thrust.fReq ∧
    (regimeEvent s).thrust.share = s.thrust.share ∧ (regimeEvent s).thrust.pHold = s.thrust.pHold ∧
    (regimeEvent s).thrust.pSet = s.thrust.pSet ∧ (regimeEvent s).thrust.opPresent = s.thrust.opPresent ∧
    (regimeEvent s).thrust.opTimer = s.thrust.opTimer ∧ (regimeEvent s).thrust.evalTimer = s.thrust.evalTimer := by
  unfold regimeEvent chooseTarget decideRegime
  split <;> simp

@[simp] theorem frame_refreshCauses  (s : State) :
    (refreshCauses s).port = s.port ∧ (refreshCauses s).table = s.table ∧ (refreshCauses s).adv = s.adv ∧
    (refreshCauses s).drive = s.drive ∧ (refreshCauses s).shoe = s.shoe ∧ (refreshCauses s).grout = s.grout ∧
    (refreshCauses s).muck = s.muck ∧ (refreshCauses s).inputs = s.inputs ∧
    (refreshCauses s).converting = s.converting ∧ (refreshCauses s).channels = s.channels ∧
    (refreshCauses s).faults = s.faults ∧ (refreshCauses s).events = s.events ∧ (refreshCauses s).mem = s.mem ∧
    (refreshCauses s).thrust.pressure = s.thrust.pressure ∧
    (refreshCauses s).thrust.pressureValid = s.thrust.pressureValid ∧
    (refreshCauses s).thrust.force = s.thrust.force ∧ (refreshCauses s).thrust.pPush = s.thrust.pPush ∧
    (refreshCauses s).thrust.floorClamp = s.thrust.floorClamp ∧
    (refreshCauses s).thrust.ceilClamp = s.thrust.ceilClamp ∧ (refreshCauses s).thrust.fReq = s.thrust.fReq ∧
    (refreshCauses s).thrust.share = s.thrust.share ∧ (refreshCauses s).thrust.pHold = s.thrust.pHold ∧
    (refreshCauses s).thrust.pSet = s.thrust.pSet ∧ (refreshCauses s).thrust.opPresent = s.thrust.opPresent ∧
    (refreshCauses s).thrust.opTimer = s.thrust.opTimer ∧
    (refreshCauses s).thrust.evalTimer = s.thrust.evalTimer := by
  unfold refreshCauses
  split <;> simp

@[simp] theorem frame_tableChanged  (s : State) :
    (tableChanged s).drive = s.drive ∧ (tableChanged s).shoe = s.shoe ∧ (tableChanged s).inputs = s.inputs ∧
    (tableChanged s).converting = s.converting ∧ (tableChanged s).faults = s.faults ∧
    (tableChanged s).table.stations = s.table.stations ∧ (tableChanged s).table.console = s.table.console ∧
    (tableChanged s).table.mode = s.table.mode ∧ (tableChanged s).adv.stroke = s.adv.stroke ∧
    (tableChanged s).adv.strokeValid = s.adv.strokeValid ∧ (tableChanged s).adv.base = s.adv.base ∧
    (tableChanged s).adv.advance = s.adv.advance ∧ (tableChanged s).adv.ring = s.adv.ring ∧
    (tableChanged s).adv.rate = s.adv.rate ∧ (tableChanged s).adv.rateBase = s.adv.rateBase ∧
    (tableChanged s).adv.rateTimer = s.adv.rateTimer ∧ (tableChanged s).thrust.pressure = s.thrust.pressure ∧
    (tableChanged s).thrust.pressureValid = s.thrust.pressureValid ∧ (tableChanged s).thrust.force = s.thrust.force ∧
    (tableChanged s).thrust.pPush = s.thrust.pPush ∧ (tableChanged s).thrust.floorClamp = s.thrust.floorClamp ∧
    (tableChanged s).thrust.ceilClamp = s.thrust.ceilClamp ∧ (tableChanged s).thrust.fReq = s.thrust.fReq ∧
    (tableChanged s).thrust.share = s.thrust.share ∧ (tableChanged s).thrust.pHold = s.thrust.pHold ∧
    (tableChanged s).thrust.pSet = s.thrust.pSet ∧ (tableChanged s).thrust.opPresent = s.thrust.opPresent ∧
    (tableChanged s).thrust.opTimer = s.thrust.opTimer ∧ (tableChanged s).thrust.evalTimer = s.thrust.evalTimer ∧
    (tableChanged s).muck.chamber1 = s.muck.chamber1 ∧ (tableChanged s).muck.chamber2 = s.muck.chamber2 ∧
    (tableChanged s).muck.chamber3 = s.muck.chamber3 ∧ (tableChanged s).muck.pCh = s.muck.pCh ∧
    (tableChanged s).muck.blind = s.muck.blind ∧ (tableChanged s).muck.state = s.muck.state ∧
    (tableChanged s).muck.err = s.muck.err ∧ (tableChanged s).muck.nFf = s.muck.nFf ∧
    (tableChanged s).muck.integ = s.muck.integ ∧ (tableChanged s).muck.nCmd = s.muck.nCmd ∧
    (tableChanged s).muck.nOut = s.muck.nOut ∧ (tableChanged s).muck.nS = s.muck.nS ∧
    (tableChanged s).muck.mMeas = s.muck.mMeas ∧ (tableChanged s).muck.evalTimer = s.muck.evalTimer ∧
    (tableChanged s).port.backbone = s.port.backbone ∧ (tableChanged s).port.failures = s.port.failures ∧
    (tableChanged s).port.rejected = s.port.rejected ∧ (tableChanged s).port.queue = s.port.queue ∧
    (tableChanged s).port.onLine = s.port.onLine ∧ (tableChanged s).port.rx = s.port.rx ∧
    (tableChanged s).port.ackDriven = s.port.ackDriven ∧ (tableChanged s).port.joinTimer = s.port.joinTimer ∧
    (tableChanged s).port.pubTimer = s.port.pubTimer ∧ (tableChanged s).port.seen = s.port.seen ∧
    (tableChanged s).port.claimDue = s.port.claimDue ∧ (tableChanged s).events.stopped = s.events.stopped ∧
    (tableChanged s).events.alarm = s.events.alarm := by
  simp [tableChanged]

/-! ## The start, configuration, pins, clock and commands -/

@[simp] theorem base_setPulseFlag (on : Bool) (s : State) :
    (setPulseFlag on s).boot = s.boot ∧ (setPulseFlag on s).cfg = s.cfg ∧
      (setPulseFlag on s).pins = s.pins ∧ (setPulseFlag on s).now = s.now ∧
      (setPulseFlag on s).pending = s.pending ∧ (setPulseFlag on s).adv.ring = s.adv.ring ∧
      (setPulseFlag on s).events.stopped = s.events.stopped ∧ (setPulseFlag on s).faults = s.faults :=
  base_iff.mp (base_of_kept (kept_setPulseFlag on s))

@[simp] theorem base_refreshGate (i : Fin 8) (s : State) :
    (refreshGate i s).boot = s.boot ∧ (refreshGate i s).cfg = s.cfg ∧
      (refreshGate i s).pins = s.pins ∧ (refreshGate i s).now = s.now ∧
      (refreshGate i s).pending = s.pending ∧ (refreshGate i s).adv.ring = s.adv.ring ∧
      (refreshGate i s).events.stopped = s.events.stopped ∧ (refreshGate i s).faults = s.faults :=
  base_iff.mp (base_of_kept (kept_refreshGate i s))

@[simp] theorem base_gateChanged (f : ChFunction) (s : State) :
    (gateChanged f s).boot = s.boot ∧ (gateChanged f s).cfg = s.cfg ∧
      (gateChanged f s).pins = s.pins ∧ (gateChanged f s).now = s.now ∧
      (gateChanged f s).pending = s.pending ∧ (gateChanged f s).adv.ring = s.adv.ring ∧
      (gateChanged f s).events.stopped = s.events.stopped ∧ (gateChanged f s).faults = s.faults :=
  base_iff.mp (base_of_kept (kept_gateChanged f s))

@[simp] theorem base_takeVoid (v : Nat) (s : State) :
    (takeVoid v s).boot = s.boot ∧ (takeVoid v s).cfg = s.cfg ∧
      (takeVoid v s).pins = s.pins ∧ (takeVoid v s).now = s.now ∧
      (takeVoid v s).pending = s.pending ∧ (takeVoid v s).adv.ring = s.adv.ring ∧
      (takeVoid v s).events.stopped = s.events.stopped ∧ (takeVoid v s).faults = s.faults :=
  base_iff.mp (base_of_kept (kept_takeVoid v s))

@[simp] theorem base_takeWeight (w : Nat) (s : State) :
    (takeWeight w s).boot = s.boot ∧ (takeWeight w s).cfg = s.cfg ∧
      (takeWeight w s).pins = s.pins ∧ (takeWeight w s).now = s.now ∧
      (takeWeight w s).pending = s.pending ∧ (takeWeight w s).adv.ring = s.adv.ring ∧
      (takeWeight w s).events.stopped = s.events.stopped ∧ (takeWeight w s).faults = s.faults :=
  base_iff.mp (base_of_kept (kept_takeWeight w s))

@[simp] theorem base_greaseTrigger (s : State) :
    (greaseTrigger s).boot = s.boot ∧ (greaseTrigger s).cfg = s.cfg ∧
      (greaseTrigger s).pins = s.pins ∧ (greaseTrigger s).now = s.now ∧
      (greaseTrigger s).pending = s.pending ∧ (greaseTrigger s).adv.ring = s.adv.ring ∧
      (greaseTrigger s).events.stopped = s.events.stopped ∧ (greaseTrigger s).faults = s.faults :=
  base_iff.mp (base_of_kept (kept_greaseTrigger s))

@[simp] theorem base_greaseTriggers (n : Nat) (s : State) :
    (greaseTriggers n s).boot = s.boot ∧ (greaseTriggers n s).cfg = s.cfg ∧
      (greaseTriggers n s).pins = s.pins ∧ (greaseTriggers n s).now = s.now ∧
      (greaseTriggers n s).pending = s.pending ∧ (greaseTriggers n s).adv.ring = s.adv.ring ∧
      (greaseTriggers n s).events.stopped = s.events.stopped ∧ (greaseTriggers n s).faults = s.faults :=
  base_iff.mp (base_of_kept (kept_greaseTriggers n s))

@[simp] theorem base_issueGrease (s : State) :
    (issueGrease s).boot = s.boot ∧ (issueGrease s).cfg = s.cfg ∧
      (issueGrease s).pins = s.pins ∧ (issueGrease s).now = s.now ∧
      (issueGrease s).pending = s.pending ∧ (issueGrease s).adv.ring = s.adv.ring ∧
      (issueGrease s).events.stopped = s.events.stopped ∧ (issueGrease s).faults = s.faults :=
  base_iff.mp (base_of_kept (kept_issueGrease s))

@[simp] theorem base_examineOverdig (s : State) :
    (examineOverdig s).boot = s.boot ∧ (examineOverdig s).cfg = s.cfg ∧
      (examineOverdig s).pins = s.pins ∧ (examineOverdig s).now = s.now ∧
      (examineOverdig s).pending = s.pending ∧ (examineOverdig s).adv.ring = s.adv.ring ∧
      (examineOverdig s).events.stopped = s.events.stopped ∧ (examineOverdig s).faults = s.faults :=
  base_iff.mp (base_of_kept (kept_examineOverdig s))

@[simp] theorem base_examineUnderdig (s : State) :
    (examineUnderdig s).boot = s.boot ∧ (examineUnderdig s).cfg = s.cfg ∧
      (examineUnderdig s).pins = s.pins ∧ (examineUnderdig s).now = s.now ∧
      (examineUnderdig s).pending = s.pending ∧ (examineUnderdig s).adv.ring = s.adv.ring ∧
      (examineUnderdig s).events.stopped = s.events.stopped ∧ (examineUnderdig s).faults = s.faults :=
  base_iff.mp (base_of_kept (kept_examineUnderdig s))

@[simp] theorem base_takeExpectedMass (m : Nat) (s : State) :
    (takeExpectedMass m s).boot = s.boot ∧ (takeExpectedMass m s).cfg = s.cfg ∧
      (takeExpectedMass m s).pins = s.pins ∧ (takeExpectedMass m s).now = s.now ∧
      (takeExpectedMass m s).pending = s.pending ∧ (takeExpectedMass m s).adv.ring = s.adv.ring ∧
      (takeExpectedMass m s).events.stopped = s.events.stopped ∧ (takeExpectedMass m s).faults = s.faults :=
  base_iff.mp (base_of_kept (kept_takeExpectedMass m s))

@[simp] theorem base_countMilestone (s : State) :
    (countMilestone s).boot = s.boot ∧ (countMilestone s).cfg = s.cfg ∧
      (countMilestone s).pins = s.pins ∧ (countMilestone s).now = s.now ∧
      (countMilestone s).pending = s.pending ∧ (countMilestone s).adv.ring = s.adv.ring ∧
      (countMilestone s).events.stopped = s.events.stopped ∧ (countMilestone s).faults = s.faults :=
  base_iff.mp (base_of_kept (kept_countMilestone s))

@[simp] theorem base_setARing (x : Nat) (s : State) :
    (setARing x s).boot = s.boot ∧ (setARing x s).cfg = s.cfg ∧
      (setARing x s).pins = s.pins ∧ (setARing x s).now = s.now ∧
      (setARing x s).pending = s.pending ∧ (setARing x s).adv.ring = s.adv.ring ∧
      (setARing x s).events.stopped = s.events.stopped ∧ (setARing x s).faults = s.faults :=
  base_iff.mp (base_of_kept (kept_setARing x s))

@[simp] theorem base_recomputeAdvance (s : State) :
    (recomputeAdvance s).boot = s.boot ∧ (recomputeAdvance s).cfg = s.cfg ∧
      (recomputeAdvance s).pins = s.pins ∧ (recomputeAdvance s).now = s.now ∧
      (recomputeAdvance s).pending = s.pending ∧ (recomputeAdvance s).adv.ring = s.adv.ring ∧
      (recomputeAdvance s).events.stopped = s.events.stopped ∧ (recomputeAdvance s).faults = s.faults :=
  base_iff.mp (base_of_kept (kept_recomputeAdvance s))

@[simp] theorem base_refreshReference (s : State) :
    (refreshReference s).boot = s.boot ∧ (refreshReference s).cfg = s.cfg ∧
      (refreshReference s).pins = s.pins ∧ (refreshReference s).now = s.now ∧
      (refreshReference s).pending = s.pending ∧ (refreshReference s).adv.ring = s.adv.ring ∧
      (refreshReference s).events.stopped = s.events.stopped ∧ (refreshReference s).faults = s.faults :=
  base_iff.mp (base_of_kept (kept_refreshReference s))

@[simp] theorem base_refreshWeight (s : State) :
    (refreshWeight s).boot = s.boot ∧ (refreshWeight s).cfg = s.cfg ∧
      (refreshWeight s).pins = s.pins ∧ (refreshWeight s).now = s.now ∧
      (refreshWeight s).pending = s.pending ∧ (refreshWeight s).adv.ring = s.adv.ring ∧
      (refreshWeight s).events.stopped = s.events.stopped ∧ (refreshWeight s).faults = s.faults :=
  base_iff.mp (base_of_kept (kept_refreshWeight s))

@[simp] theorem base_refreshCauses (s : State) :
    (refreshCauses s).boot = s.boot ∧ (refreshCauses s).cfg = s.cfg ∧
      (refreshCauses s).pins = s.pins ∧ (refreshCauses s).now = s.now ∧
      (refreshCauses s).pending = s.pending ∧ (refreshCauses s).adv.ring = s.adv.ring ∧
      (refreshCauses s).events.stopped = s.events.stopped ∧ (refreshCauses s).faults = s.faults :=
  base_iff.mp (base_of_kept (kept_refreshCauses s))

@[simp] theorem base_markSeen (k : OwnKind) (s : State) :
    (markSeen k s).boot = s.boot ∧ (markSeen k s).cfg = s.cfg ∧
      (markSeen k s).pins = s.pins ∧ (markSeen k s).now = s.now ∧
      (markSeen k s).pending = s.pending ∧ (markSeen k s).adv.ring = s.adv.ring ∧
      (markSeen k s).events.stopped = s.events.stopped ∧ (markSeen k s).faults = s.faults :=
  base_iff.mp (base_of_kept (kept_markSeen k s))

@[simp] theorem base_enqueueKind (k : OwnKind) (b : Bulletin) (s : State) :
    (enqueueKind k b s).boot = s.boot ∧ (enqueueKind k b s).cfg = s.cfg ∧
      (enqueueKind k b s).pins = s.pins ∧ (enqueueKind k b s).now = s.now ∧
      (enqueueKind k b s).pending = s.pending ∧ (enqueueKind k b s).adv.ring = s.adv.ring ∧
      (enqueueKind k b s).events.stopped = s.events.stopped ∧ (enqueueKind k b s).faults = s.faults :=
  base_iff.mp (base_of_kept (kept_enqueueKind k b s))

@[simp] theorem base_refreshAlarm (s : State) :
    (refreshAlarm s).boot = s.boot ∧ (refreshAlarm s).cfg = s.cfg ∧
      (refreshAlarm s).pins = s.pins ∧ (refreshAlarm s).now = s.now ∧
      (refreshAlarm s).pending = s.pending ∧ (refreshAlarm s).adv.ring = s.adv.ring ∧
      (refreshAlarm s).events.stopped = s.events.stopped ∧ (refreshAlarm s).faults = s.faults :=
  base_iff.mp (base_of_kept (kept_refreshAlarm s))

end Sys2Proof.Machine
end

section
/-! The end of an event, one part at a time: what publications, the changes of the own entry, the gates and the alarm are made
of (R11, R23, R157, R164). A property that every part keeps is kept by the end of every event. -/
namespace Sys2Proof.Machine
open Sys2Proof

/-- A part of the end of an event. `w s k` tells when the kind `k` may be written into the own entry in the state `s`. -/
inductive EndMove (w : State → OwnKind → Prop) : State → State → Prop where
  | marked (s : State) (k : OwnKind) (hk : k ≠ .stop) : EndMove w s (markSeen k s)
  | own (s : State) (k : OwnKind) (hk : k ≠ .stop) (hb : s.onBackbone = true) (hw : w s k) :
    EndMove w s (putOwnEntry (s.ownEntry.write (s.timer s.cfg.lapseTime) (s.content k)) s)
  | queued (s : State) (k : OwnKind) (hk : k ≠ .stop) (hb : s.onBackbone = true) (u : State) (hu : u.kept = s.kept) :
    EndMove w s (enqueueKind k (u.content k) s)
  | reference (s : State) : EndMove w s (refreshReference s)
  | machineA (s : State) (hb : s.onBackbone = true) :
    EndMove w s { s with adv.machineA := machineAdvanceOf s.contributingThrust s.adv.machineA }
  | aRing (s : State) (hm : s.table.mode = .excavate) (hlt : s.adv.aRing < s.adv.machineA) :
    EndMove w s (setARing s.adv.machineA s)
  | weight (s : State) : EndMove w s (refreshWeight s)
  | causes (s : State) : EndMove w s (refreshCauses s)
  | gate (s : State) (i : Fin 8) : EndMove w s (refreshGate i s)
  | alarm (s : State) : EndMove w s (refreshAlarm s)

/-- A run of such parts. -/
abbrev EndMoves (w : State → OwnKind → Prop) : State → State → Prop := Relation.ReflTransGen (EndMove w)

/-- Any kind may be written. -/
def anyKind (_ : State) (_ : OwnKind) : Prop := True

/-- A kind is written for a change of its own fields, while its timer runs (R11). -/
def forChange (s : State) (k : OwnKind) : Prop :=
  (s.port.pubTimer.get k).on = true ∧ ∃ u : State, u.changeDue k = true ∧ s = markSeen k u

variable {w : State → OwnKind → Prop} {s t u : State}

theorem EndMove.mono {w' : State → OwnKind → Prop} (hw : ∀ u k, w u k → w' u k) (h : EndMove w s t) : EndMove w' s t := by
  cases h with
  | marked k hk => exact .marked _ k hk
  | own k hk hb h => exact .own _ k hk hb (hw _ _ h)
  | queued k hk hb u hu => exact .queued _ k hk hb u hu
  | reference => exact .reference _
  | machineA hb => exact .machineA _ hb
  | aRing hm hlt => exact .aRing _ hm hlt
  | weight => exact .weight _
  | causes => exact .causes _
  | gate i => exact .gate _ i
  | alarm => exact .alarm _

theorem EndMoves.anyKind (h : EndMoves w s t) : EndMoves anyKind s t :=
  h.lift id fun _ _ hm => hm.mono fun _ _ _ => trivial

/-- A property that every part keeps is kept by a run of them. -/
theorem EndMoves.keeps {P : State → Prop} (h : EndMoves w s t) (step : ∀ u v, EndMove w u v → P u → P v) (hs : P s) : P t := by
  induction h with
  | refl => exact hs
  | tail _ hm ih => exact step _ _ hm ih

/-! ## The operations as runs of parts -/

theorem endMoves_refreshGates (h : EndMoves w s u) : EndMoves w s (refreshGates u) :=
  ((((((((h.tail (.gate _ 0)).tail (.gate _ 1)).tail (.gate _ 2)).tail (.gate _ 3)).tail (.gate _ 4)).tail (.gate _ 5)).tail
    (.gate _ 6)).tail (.gate _ 7))

theorem endMoves_updateARing (h : EndMoves w s u) : EndMoves w s (updateARing u) := by
  unfold updateARing
  split
  · exact h.tail (.aRing _ ‹_ ∧ _›.1 ‹_ ∧ _›.2)
  · exact h

theorem endMoves_recomputeAdvance (h : EndMoves w s u) : EndMoves w s (recomputeAdvance u) := by
  unfold recomputeAdvance
  split
  · exact endMoves_updateARing (h.tail (.machineA _ ‹_›))
  · exact h

theorem endMoves_tableChanged (h : EndMoves w s u) : EndMoves w s (tableChanged u) :=
  endMoves_refreshGates (((endMoves_recomputeAdvance (h.tail (.reference _))).tail (.weight _)).tail (.causes _))

theorem endMoves_writeOwn {k : OwnKind} (hk : k ≠ .stop) (hb : u.onBackbone = true) (hw : w u k) (h : EndMoves w s u) :
    EndMoves w s (writeOwn (u.content k) u) := by
  have hmove := endMoves_tableChanged (h.tail (.own _ k hk hb hw))
  cases k with
  | stop => exact absurd rfl hk
  | claim | thrust | drive | screw | grout | status | id => exact hmove

theorem onBackbone_of_kept (h : t.kept = s.kept) : t.onBackbone = s.onBackbone := by
  have : t.port.backbone = s.port.backbone := congrArg Kept.backbone h
  simp [State.onBackbone, State.jobsRun, this]

theorem code_content_ne_zero {k : OwnKind} (hk : k ≠ .stop) (s : State) : (s.content k).code ≠ 0 := by
  rw [content_code]
  cases k <;> simp_all [OwnKind.code]

theorem endMoves_publish {k : OwnKind} (hk : k ≠ .stop) (hw : u.onBackbone = true → w u k) (h : EndMoves w s u) :
    EndMoves w s (publish k u) := by
  unfold publish
  split
  · rename_i hb
    have hkept := kept_writeOwn (code_content_ne_zero hk u) u
    exact (endMoves_writeOwn hk hb (hw hb) h).tail
      (.queued _ k hk (by rw [onBackbone_of_kept hkept]; exact hb) u hkept.symm)
  · exact h

theorem endMoves_publishIfChanged {k : OwnKind} (hk : k ≠ .stop) (h : EndMoves forChange s u) :
    EndMoves forChange s (publishIfChanged k u) := by
  unfold publishIfChanged
  split
  · split
    · rename_i hdue hon
      exact endMoves_publish hk (fun _ => ⟨hon, u, hdue, rfl⟩) (h.tail (.marked _ k hk))
    · exact h.tail (.marked _ k hk)
  · exact h

theorem endMoves_publishRound (h : EndMoves forChange s u) : EndMoves forChange s (publishRound u) := by
  unfold publishRound
  iterate 7 refine endMoves_publishIfChanged (by decide) ?_
  exact h

theorem endMoves_settle (h : EndMoves forChange s u) : EndMoves forChange s (settle u) :=
  endMoves_publishRound (endMoves_publishRound (endMoves_publishRound (endMoves_publishRound h)))

theorem endMoves_finish (s : State) : EndMoves forChange s (finish s) :=
  (endMoves_refreshGates (endMoves_settle .refl)).tail (.alarm _)

/-! ## What every part leaves alone -/

theorem EndMove.kept (h : EndMove w s t) : t.kept = s.kept := by
  cases h with
  | marked k hk => exact kept_markSeen k s
  | own k hk hb hw => exact kept_putOwnEntry _ s
  | queued k hk hb u hu => exact kept_enqueueKind k _ s
  | reference => exact kept_refreshReference s
  | machineA hb => rfl
  | aRing hm hlt => exact kept_setARing _ s
  | weight => exact kept_refreshWeight s
  | causes => exact kept_refreshCauses s
  | gate i => exact kept_refreshGate i s
  | alarm => exact kept_refreshAlarm s

theorem EndMoves.kept (h : EndMoves w s t) : t.kept = s.kept :=
  h.keeps (P := fun u => u.kept = s.kept) (fun _ _ hm hu => hm.kept.trans hu) rfl

/-- Only the own entry is written, and nothing of the table but the entries and the reference moves. -/
theorem EndMove.table (h : EndMove w s t) :
    t.table.console = s.table.console ∧ t.table.mode = s.table.mode ∧
      ((∃ k, k ≠ .stop ∧ s.onBackbone = true ∧ w s k ∧
        t = putOwnEntry (s.ownEntry.write (s.timer s.cfg.lapseTime) (s.content k)) s) ∨ t.table.stations = s.table.stations) := by
  refine ⟨congrArg Kept.console h.kept, congrArg Kept.mode h.kept, ?_⟩
  cases h with
  | own k hk hb hw => exact .inl ⟨k, hk, hb, hw, rfl⟩
  | marked | queued | machineA | alarm => exact .inr rfl
  | reference | aRing | weight | causes | gate => exact .inr (by simp)

end Sys2Proof.Machine
end

section
/-! What a command can do to the station, one part at a time: every command but a start and the answer to the image read is a run
of such parts. A rule over all commands is proved part by part. -/
namespace Sys2Proof.Machine
open Sys2Proof

variable {w : State → OwnKind → Prop} {s t u : State}

/-! ## Output pins -/

/-- The record `r'` drives its pin as `r` does, as far as a shut gate is concerned: the gate stands, and while it is shut neither
timer nor level moves (R157). -/
structure ChannelRec.SameOutput (r r' : ChannelRec) : Prop where
  gate : r'.gate = r.gate
  rest : r.gate = false → r.periodTimer.on = false → r.activeTimer.on = false →
    r'.periodTimer.on = false ∧ r'.activeTimer.on = false ∧ r'.high = r.high

theorem ChannelRec.SameOutput.refl (r : ChannelRec) : r.SameOutput r := ⟨rfl, fun _ hp ha => ⟨hp, ha, rfl⟩⟩

theorem ChannelRec.SameOutput.trans {a b c : ChannelRec} (h : a.SameOutput b) (k : b.SameOutput c) : a.SameOutput c where
  gate := k.gate.trans h.gate
  rest hg hp ha := by
    obtain ⟨h1, h2, h3⟩ := h.rest hg hp ha
    obtain ⟨k1, k2, k3⟩ := k.rest (h.gate.trans hg) h1 h2
    exact ⟨k1, k2, k3.trans h3⟩

/-- No gate moves, and no shut channel's timers or level. -/
def SameOutputs (s t : State) : Prop := ∀ i, (s.ch i).SameOutput (t.ch i)

theorem SameOutputs.of_eq (h : t.channels = s.channels) : SameOutputs s t := fun i => by
  have : t.ch i = s.ch i := by simp [State.ch, h]
  rw [this]
  exact .refl _

theorem SameOutputs.trans (h : SameOutputs s t) (k : SameOutputs t u) : SameOutputs s u := fun i => (h i).trans (k i)

theorem SameOutputs.after (k : SameOutputs t u) (h : SameOutputs s t) : SameOutputs s u := h.trans k

theorem sameOutputs_putChannel {i : Fin 8} {r : ChannelRec} (h : (s.ch i).SameOutput r) : SameOutputs s (putChannel i r s) := by
  intro j
  rw [ch_putChannel]
  split
  · rename_i hij
    exact hij ▸ h
  · exact .refl _

theorem sameOutputs_writeDuty (f : ChFunction) (d : Nat) (s : State) : SameOutputs s (writeDuty f d s) := by
  unfold writeDuty
  split
  · exact sameOutputs_putChannel ⟨rfl, fun _ hp ha => ⟨hp, ha, rfl⟩⟩
  · exact .of_eq rfl

theorem sameOutputs_setPulseFlag (on : Bool) (s : State) : SameOutputs s (setPulseFlag on s) := by
  unfold setPulseFlag
  split
  · refine sameOutputs_putChannel ⟨rfl, fun h hp ha => ⟨hp, ha, ?_⟩⟩
    simp [h]
  · exact .of_eq rfl

theorem sameOutputs_setLine (l : LineState) (s : State) : SameOutputs s (setLine l s) := by
  unfold setLine
  split
  · exact .of_eq rfl
  · split
    · exact sameOutputs_writeDuty .groutPump 0 { s with grout := { s.grout with line := l, rate := 0 } }
    · exact .of_eq rfl

theorem sameOutputs_decideLine (s : State) : SameOutputs s (decideLine s) := by
  unfold decideLine
  split
  · exact sameOutputs_setLine _ s
  · exact .of_eq rfl

theorem sameOutputs_recomputeDeficit (s : State) : SameOutputs s (recomputeDeficit s) := by
  unfold recomputeDeficit
  dsimp only
  split
  · exact .of_eq rfl
  · exact (sameOutputs_decideLine _).after (.of_eq rfl)

theorem sameOutputs_recomputeTarget (s : State) : SameOutputs s (recomputeTarget s) := by
  unfold recomputeTarget
  split
  · exact (sameOutputs_recomputeDeficit _).after (.of_eq rfl)
  · exact .of_eq rfl

theorem sameOutputs_recomputeBand (s : State) : SameOutputs s (recomputeBand s) := by
  unfold recomputeBand examineDerate
  dsimp only
  split
  · exact .of_eq rfl
  · exact (sameOutputs_decideLine _).after (.of_eq rfl)

theorem sameOutputs_refreshReference (s : State) : SameOutputs s (refreshReference s) := by
  have hset (st : RefState) (p : Nat) (timer : Timer) : SameOutputs s (setReference st p timer s) := by
    unfold setReference
    dsimp only
    split
    · exact .of_eq rfl
    · exact (sameOutputs_recomputeBand _).after (.of_eq rfl)
  unfold refreshReference
  split
  · exact hset _ _ _
  · split
    · exact hset _ _ _
    · exact .of_eq rfl

theorem sameOutputs_takeWeight (n : Nat) (s : State) : SameOutputs s (takeWeight n s) := by
  unfold takeWeight
  split
  · exact (sameOutputs_recomputeTarget _).after (.of_eq rfl)
  · exact .of_eq rfl

theorem sameOutputs_takeVoid (n : Nat) (s : State) : SameOutputs s (takeVoid n s) := by
  unfold takeVoid
  split
  · exact (sameOutputs_recomputeTarget _).after (.of_eq rfl)
  · exact .of_eq rfl

theorem sameOutputs_greaseTriggers (n : Nat) (s : State) : SameOutputs s (greaseTriggers n s) := by
  induction n generalizing s with
  | zero => exact .of_eq rfl
  | succ n ih =>
    refine SameOutputs.trans ?_ (ih _)
    unfold greaseTrigger
    split
    · unfold startPulse
      exact (sameOutputs_setPulseFlag true _).after (.of_eq rfl)
    · exact .of_eq rfl
    · exact .of_eq rfl

theorem sameOutputs_issueGrease (s : State) : SameOutputs s (issueGrease s) := by
  unfold issueGrease
  dsimp only
  split
  · exact (sameOutputs_greaseTriggers _ _).after (.of_eq rfl)
  · exact .of_eq rfl

theorem sameOutputs_setARing (x : Nat) (s : State) : SameOutputs s (setARing x s) := by
  unfold setARing
  dsimp only
  have hcount (u : State) : SameOutputs u (countMilestone u) := .of_eq (by simp)
  have hmass (m : Nat) (u : State) : SameOutputs u (takeExpectedMass m u) := .of_eq (by simp)
  exact (hcount _).after ((sameOutputs_issueGrease _).after ((hmass _ _).after ((sameOutputs_takeVoid _ _).after (.of_eq rfl))))

/-- Only a gate's own re-evaluation moves an output. -/
theorem EndMove.outputs (h : EndMove w s t) : (∃ i, t = refreshGate i s) ∨ SameOutputs s t := by
  cases h with
  | gate i => exact .inl ⟨i, rfl⟩
  | marked | own | queued | machineA | alarm => exact .inr (.of_eq rfl)
  | reference => exact .inr (sameOutputs_refreshReference s)
  | aRing => exact .inr (sameOutputs_setARing _ s)
  | weight => exact .inr (sameOutputs_takeWeight _ s)
  | causes => exact .inr (.of_eq (by simp))

/-- A duty is written into the channels alone. -/
theorem writeDuty_shoe (f : ChFunction) (d : Nat) (x : Shoe) (s : State) :
    writeDuty f d { s with shoe := x } = { writeDuty f d s with shoe := x } := by
  have hc : State.channelOf { s with shoe := x } f = s.channelOf f := rfl
  unfold writeDuty
  rw [hc]
  cases s.channelOf f <;> rfl

/-! ## The parts of a command -/

/-- A part of a command `c`. The constructors that name a command belong to it alone. -/
inductive Move (c : Instr) : State → State → Prop where
  | ends {s t : State} (h : EndMove anyKind s t) : Move c s t
  | duty (s : State) (f : ChFunction) (d : Nat) : Move c s (writeDuty f d s)
  | pulse (s : State) (on : Bool) : Move c s (setPulseFlag on s)
  | channel (s : State) (i : Fin 8) (r : ChannelRec) (h : (s.ch i).SameOutput r) : Move c s (putChannel i r s)
  | input (s : State) (i : Fin 12) (r : InputRec) : Move c s (putInput i r s)
  | converting (s : State) (i : Option (Fin 12)) : Move c s { s with converting := i }
  | grout (s : State) (g : Grout) : Move c s { s with grout := g }
  | thrust (s : State) (x : Thrust) : Move c s { s with thrust := x }
  | adv (s : State) (a : Advance) (h : a.ring = s.adv.ring) : Move c s { s with adv := a }
  | muck (s : State) (m : Muck) (ho : m.overdig = s.muck.overdig) (hu : m.underdig = s.muck.underdig) :
    Move c s { s with muck := m }
  | balance (s : State) : Move c s (recomputeBalance s)
  | raise (s : State) (e : EventFlag) (ho : e ≠ .overdig) (hu : e ≠ .underdig) : Move c s (raiseEvent e s)
  | drive (s : State) (d : Drive) (h : FaultedJobsStand s →
      (d.state = .fault ↔ s.drive.state = .fault) ∧ (d.state = .fault → d.nSet = 0 ∧ d.cmd = 0)) : Move c s { s with drive := d }
  | shoe (s : State) (x : Shoe) (h : s.faults.thrust.isSome → s.shoe.state = .clear → s.shoe.decisionPending = false →
      x.state = .clear ∧ x.decisionPending = false) : Move c s { s with shoe := x }
  | mem (s : State) (m : MemPort) : Move c s { s with mem := m }
  | table (s : State) (x : PeerTable) : Move c s { s with table := x }
  | world (s : State) (n : Nat) (p : Pins) : Move c s { s with now := n, pins := p }
  | stop (s : State) : Move c s { s with events.stopped := true }
  | yields (s : State) (y : RoleMask) : Move c s { s with boot.yielded := y }
  | waited (s : State) : Move c s (continueStart s)
  | port (s : State) (p : Port)
      (hb : s.boot.accepted = s.boot.phase.holdsConfig → s.boot.accepted = false → s.port.backbone = .offline →
        p.backbone = .offline)
      (hp : PortBounded s → PortBounded { s with port := p }) : Move c s { s with port := p }
  | raised (s : State) (j : Job) (cause : FaultCause) (value : Int) : Move c s (raiseFault j cause value s)
  | cleared (hc : c = .clearFault) (s : State) (j : Job) : Move c s (clearJobFault j s)
  | flags (hc : c = .clearEvents) (s : State) (m : Word16) : Move c s (clearFlags m s)
  | resumed (hc : c = .resume) (s : State) : Move c s { s with events.stopped := false }
  | closed (hc : c = .modeTaken) (s : State) (withCarry : Bool) (a : Advance) (h : s.adv.ring < a.ring) :
    Move c s (closeMuck (closeGrout withCarry { s with adv := a }))
  | restored (hc : ∃ a, c = .ringRecordReadComplete a) (s : State) (a : Advance) (m : Muck) :
    Move c s { s with adv := a, muck := m }
  | complete (hc : ∃ a, c = .ringRecordReadComplete a) (s : State) (h : s.boot.phase = .readingRecord) :
    Move c s { s with boot.phase := .done }

/-- A run of such parts. -/
abbrev Moves (c : Instr) : State → State → Prop := Relation.ReflTransGen (Move c)

variable {c : Instr}

theorem Moves.ends (h : Moves c s u) (k : EndMoves w u t) : Moves c s t :=
  h.trans (k.lift id fun _ _ hm => .ends (hm.mono fun _ _ _ => trivial))

/-! ## Grout, gates and the memory port -/

theorem moves_decideLine (h : Moves c s u) : Moves c s (decideLine u) := by
  unfold decideLine setLine
  split
  · split
    · exact h
    · split
      · exact ((h.tail (.grout _ _)).tail (.duty _ _ _)).tail (.grout _ _)
      · exact (h.tail (.grout _ _)).tail (.grout _ _)
  · exact h

theorem moves_recomputeDeficit (h : Moves c s u) : Moves c s (recomputeDeficit u) := by
  unfold recomputeDeficit
  dsimp only
  split
  · exact h
  · exact moves_decideLine ((h.tail (.grout _ _)).tail (.grout _ _))

theorem moves_recomputeTarget (h : Moves c s u) : Moves c s (recomputeTarget u) := by
  unfold recomputeTarget
  split
  · exact moves_recomputeDeficit (h.tail (.grout _ _))
  · exact h

theorem moves_examineDerate (h : Moves c s u) : Moves c s (examineDerate u) := by
  unfold examineDerate
  dsimp only
  split
  · exact h
  · exact moves_decideLine (h.tail (.grout _ _))

theorem moves_recomputeBand (h : Moves c s u) : Moves c s (recomputeBand u) :=
  (moves_examineDerate (h.tail (.grout _ _))).tail (.grout _ _)

theorem moves_setReference (st : RefState) (p : Nat) (timer : Timer) (h : Moves c s u) :
    Moves c s (setReference st p timer u) := by
  unfold setReference
  dsimp only
  split
  · exact h.tail (.table _ _)
  · exact moves_recomputeBand (h.tail (.table _ _))

theorem moves_clearPulse (h : Moves c s u) : Moves c s (clearPulse u) := (h.tail (.grout _ _)).tail (.pulse _ _)

theorem moves_endPulse (h : Moves c s u) : Moves c s (endPulse u) := by
  unfold endPulse
  split
  · exact (h.tail (.grout _ _)).tail (.pulse _ _)
  · exact moves_clearPulse h
  · exact moves_clearPulse h

theorem moves_silenceGrout (atYield : Bool) (h : Moves c s u) : Moves c s (silenceGrout atYield u) :=
  moves_clearPulse ((h.tail (.grout _ _)).tail (.duty _ _ _))

theorem moves_refreshGates (h : Moves c s u) : Moves c s (refreshGates u) :=
  h.ends (endMoves_refreshGates (w := anyKind) .refl)

theorem moves_tableChanged (h : Moves c s u) : Moves c s (tableChanged u) :=
  h.ends (endMoves_tableChanged (w := anyKind) .refl)

theorem moves_updateARing (h : Moves c s u) : Moves c s (updateARing u) :=
  h.ends (endMoves_updateARing (w := anyKind) .refl)

theorem moves_settle (h : Moves c s u) : Moves c s (settle u) := h.ends (endMoves_settle .refl)

theorem moves_finish (h : Moves c s u) : Moves c s (finish u) := h.ends (endMoves_finish u)

theorem moves_triggerSave (h : Moves c s u) : Moves c s (triggerSave u) := by
  unfold triggerSave
  split
  · split
    · exact h.tail (.mem _ _)
    · exact h.tail (.mem _ _)
  · exact h

theorem moves_startPendingWrite (h : Moves c s u) : Moves c s (startPendingWrite u) := by
  unfold startPendingWrite
  split
  · split
    · exact h.tail (.mem _ _)
    · split
      · exact h.tail (.mem _ _)
      · exact h
  · exact h

/-! ## Muck -/

theorem moves_examineScrew (h : Moves c s u) : Moves c s (examineScrew u) := h.tail (.muck _ _ rfl rfl)

theorem moves_decideScrew (h : Moves c s u) : Moves c s (decideScrew u) := by
  unfold decideScrew setScrew
  split
  · split
    · exact h
    · split
      · exact moves_examineScrew ((h.tail (.muck _ _ (by rfl) (by rfl))).tail (.duty _ _ _))
      · exact moves_examineScrew (h.tail (.muck _ _ (by rfl) (by rfl)))
  · exact h

theorem moves_recomputeChamber (h : Moves c s u) : Moves c s (recomputeChamber u) := by
  unfold recomputeChamber
  split
  · split
    · exact moves_decideScrew (h.tail (.muck _ _ (by rfl) (by rfl)))
    · exact h.tail (.muck _ _ (by rfl) (by rfl))
  · split
    · exact h
    · exact moves_decideScrew (h.tail (.muck _ _ (by rfl) (by rfl)))

theorem moves_silenceMuck (h : Moves c s u) : Moves c s (silenceMuck u) :=
  (h.tail (.muck _ _ (by rfl) (by rfl))).tail (.duty _ _ _)

/-! ## Thrust and the ring-build controller -/

theorem moves_regimeEvent (h : Moves c s u) : Moves c s (regimeEvent u) := by
  unfold regimeEvent
  split
  · exact (h.tail (.thrust _ _)).tail (.thrust _ _)
  · exact h

theorem moves_writeValves (h : Moves c s u) : Moves c s (writeValves u) := by
  unfold writeValves
  split
  · exact h
  · exact (h.tail (.duty _ _ _)).tail (.duty _ _ _)

theorem moves_seatSetpoint (h : Moves c s u) : Moves c s (seatSetpoint u) :=
  moves_writeValves ((h.tail (.thrust _ _)).tail (.thrust _ _))

theorem moves_writeExtendDuties (h : Moves c s u) : Moves c s (writeExtendDuties u) :=
  (h.tail (.duty _ _ _)).tail (.duty _ _ _)

/-- A shoe that takes a state of its own while no THRUST record stands, or from a state that a held record excludes. -/
theorem moves_enterExtending (hf : u.faults.thrust.isSome → u.shoe.state ≠ .clear) (h : Moves c s u) :
    Moves c s (enterExtending u) :=
  moves_refreshGates (moves_writeExtendDuties (h.tail (.shoe _ _ fun hs hc _ => absurd hc (hf hs))))

theorem moves_checkRetracted (h : Moves c s u) : Moves c s (checkRetracted u) := by
  unfold checkRetracted enterClear
  split
  · rename_i hr
    have hrec (x : Shoe) : Moves c s { u with shoe := x } := h.tail (.shoe _ _ fun _ hc _ => by simp [hr.1] at hc)
    dsimp only
    split
    · unfold enterExtending
      refine moves_refreshGates (moves_writeExtendDuties ?_)
      rw [writeDuty_shoe, writeDuty_shoe, ← writeDuty_shoe .thrustRetract, ← writeDuty_shoe .thrustExtend]
      exact ((hrec _).tail (.duty _ _ _)).tail (.duty _ _ _)
    · exact ((hrec _).tail (.duty _ _ _)).tail (.duty _ _ _)
  · exact h

end Sys2Proof.Machine
end

section
/-! What each operation of a command is made of, in the order of the model's files. -/
namespace Sys2Proof.Machine
open Sys2Proof

variable {s t u : State} {c : Instr}

/-! ## The backbone port keeps its bounds -/

/-- Only the queue, the buffer and the counts are bounded. -/
theorem PortBounded.of_stores {p : Port} (h : PortBounded s) (hq : p.queue.Sublist s.port.queue) (hr : p.rx = s.port.rx)
    (hf : p.failures ≤ 16) (hj : p.rejected ≤ 255) : PortBounded { s with port := p } where
  ascending := h.ascending.sublist (hq.map _)
  ownKinds e he := h.ownKinds e (hq.subset he)
  buffer := hr ▸ h.buffer
  foreign f hm := h.foreign f (hr ▸ hm)
  failures := hf
  rejected := hj

/-- The queue is rewritten entry by entry, each keeping its kind, or losing it. -/
theorem PortBounded.of_codes {p : Port} (h : PortBounded s)
    (hq : (p.queue.map fun e => e.body.code).Sublist (s.port.queue.map fun e => e.body.code)) (hr : p.rx = s.port.rx)
    (hf : p.failures ≤ 16) (hj : p.rejected ≤ 255) : PortBounded { s with port := p } where
  ascending := h.ascending.sublist hq
  ownKinds e he := by
    have hm : e.body.code ∈ p.queue.map fun e => e.body.code := List.mem_map_of_mem he
    obtain ⟨e', he', heq⟩ := List.mem_map.mp (hq.subset hm)
    exact heq ▸ h.ownKinds e' he'
  buffer := hr ▸ h.buffer
  foreign f hm := h.foreign f (hr ▸ hm)
  failures := hf
  rejected := hj

theorem codes_dropKind (code : Nat) (l : Option Nat) (q : List TxEntry) :
    ((dropKind code l q).map fun e => e.body.code).Sublist (q.map fun e => e.body.code) := by
  unfold dropKind
  split
  · rw [List.map_map]
    have : ((fun e : TxEntry => e.body.code) ∘ fun e => if e.body.code = code then { e with dropped := true } else e) =
        fun e => e.body.code := by
      funext e
      simp only [Function.comp]
      split <;> rfl
    rw [this]
  · exact List.filter_sublist.map _

theorem codes_afterLost (code : Nat) (q : List TxEntry) :
    ((afterLost code q).map fun e => e.body.code).Sublist (q.map fun e => e.body.code) := List.filter_sublist.map _

theorem codes_afterEnd (code : Nat) (q : List TxEntry) :
    ((afterEnd code q).map fun e => e.body.code).Sublist (q.map fun e => e.body.code) := by
  unfold afterEnd
  rw [List.map_map]
  have : ((fun e : TxEntry => e.body.code) ∘ fun e => if e.body.code = code then { e with renewed := false } else e) =
      fun e => e.body.code := by
    funext e
    simp only [Function.comp]
    split <;> rfl
  rw [this]
  exact List.filter_sublist.map _

theorem mem_enqueueBody {b : Bulletin} {l : Option Nat} {q : List TxEntry} {e : TxEntry} (h : e ∈ enqueueBody b l q) :
    e.body = b ∨ e ∈ q := by
  induction q with
  | nil => simp_all [enqueueBody]
  | cons x xs ih =>
    unfold enqueueBody at h
    split at h
    · rcases List.mem_cons.mp h with rfl | h
      · exact .inl rfl
      · exact .inr h
    · split at h
      · rcases List.mem_cons.mp h with rfl | h
        · exact .inl rfl
        · exact .inr (List.mem_cons_of_mem _ h)
      · rcases List.mem_cons.mp h with rfl | h
        · exact .inr List.mem_cons_self
        · exact (ih h).imp_right (List.mem_cons_of_mem _)

/-- A content enters the queue at its kind's place (R12). -/
theorem ascending_enqueueBody (b : Bulletin) (l : Option Nat) {q : List TxEntry}
    (h : (q.map fun e => e.body.code).Pairwise (· < ·)) :
    ((enqueueBody b l q).map fun e => e.body.code).Pairwise (· < ·) := by
  induction q with
  | nil => simp [enqueueBody]
  | cons x xs ih =>
    obtain ⟨hx, hxs⟩ := List.pairwise_cons.mp h
    unfold enqueueBody
    split
    · rename_i hlt
      refine List.pairwise_cons.mpr ⟨fun n hn => ?_, h⟩
      rcases List.mem_cons.mp hn with rfl | hn
      · exact hlt
      · exact hlt.trans (hx n hn)
    · split
      · rename_i heq
        exact List.pairwise_cons.mpr ⟨fun n hn => by simpa [heq] using hx n hn, hxs⟩
      · refine List.pairwise_cons.mpr ⟨fun n hn => ?_, ih hxs⟩
        obtain ⟨e, he, rfl⟩ := List.mem_map.mp hn
        rcases mem_enqueueBody he with heq | he
        · simp only [heq]
          omega
        · exact hx _ (List.mem_map_of_mem he)

theorem PortBounded.enqueueKind {k : OwnKind} {b : Bulletin} (hb : b.code = k.code) (h : PortBounded s) :
    PortBounded (enqueueKind k b s) where
  ascending := ascending_enqueueBody b _ h.ascending
  ownKinds e he := by
    rcases mem_enqueueBody he with heq | he
    · rw [heq, hb]
      cases k <;> decide
    · exact h.ownKinds e he
  buffer := h.buffer
  foreign := h.foreign
  failures := h.failures
  rejected := h.rejected

/-- The port's marks, timers and the frame on the line are free; the backbone state stands. -/
theorem moves_portMarks {p : Port} (hb : p.backbone = u.port.backbone) (hq : p.queue = u.port.queue) (hr : p.rx = u.port.rx)
    (hf : p.failures = u.port.failures) (hj : p.rejected = u.port.rejected) (h : Moves c s u) :
    Moves c s { u with port := p } :=
  h.tail (.port _ _ (fun _ _ ho => hb.trans ho) fun k => k.of_stores (by rw [hq]) hr (hf ▸ k.failures) (hj ▸ k.rejected))

/-! ## The STOPPED latch, the effective mode, the backbone state -/

theorem moves_freezeShoe (h : Moves c s u) : Moves c s (freezeShoe u) := h.tail (.shoe _ _ fun _ hc hd => ⟨hc, hd⟩)

theorem moves_setStopped (h : Moves c s u) : Moves c s (setStopped u) := by
  unfold setStopped
  split
  · exact h
  · exact moves_refreshGates (moves_triggerSave (moves_decideScrew (moves_decideLine (moves_freezeShoe (h.tail (.stop _))))))

/-- A state of the shoe that a held THRUST record excludes is left freely. -/
theorem moves_leaveShoe {x : Shoe} (hs : u.faults.thrust.isSome → u.shoe.state ≠ .clear) (h : Moves c s u) :
    Moves c s { u with shoe := x } := h.tail (.shoe _ _ fun hf hc _ => absurd hc (hs hf))

theorem moves_releaseClaim (hs : u.shoe.state = .claiming) (h : Moves c s u) : Moves c s (releaseClaim u) :=
  moves_leaveShoe (fun _ => by simp [hs]) h

theorem moves_abortByState (h : Moves c s u) : Moves c s (abortByState u) := by
  unfold abortByState
  split
  · exact h
  · exact h
  · exact moves_releaseClaim ‹_› h
  · exact moves_enterExtending (fun _ => by simp [*]) h
  · split
    · exact h
    · exact moves_enterExtending (fun hf => absurd hf ‹_›) h

theorem moves_abortBuild (h : Moves c s u) : Moves c s (abortBuild u) := by
  unfold abortBuild
  split
  · exact moves_abortByState h
  · exact h

theorem moves_resumeShoe (h : Moves c s u) : Moves c s (resumeShoe u) := by
  have hplaced {v : State} (h : Moves c s v) : Moves c s (resumePlaced v) := by
    unfold resumePlaced
    split
    · split
      · exact h.tail (.shoe _ _ fun _ hc hd => ⟨hc, hd⟩)
      · exact h
    · exact h
  have habort {v : State} (h : Moves c s v) : Moves c s (resumeAbort v) := by
    unfold resumeAbort
    split
    · exact moves_abortByState h
    · exact h
  have hstate {v : State} (h : Moves c s v) : Moves c s (resumeState v) := by
    unfold resumeState
    split
    · exact h
    · exact h.tail (.shoe _ _ fun _ hc hd => ⟨hc, hd⟩)
    · exact moves_enterExtending (fun _ => by simp [*]) h
    · split
      · rename_i hf
        exact moves_enterExtending (fun hs => by simp_all) h
      · exact h
    · split
      · exact h
      · exact h.tail (.shoe _ _ fun _ hc hd => ⟨hc, hd⟩)
  unfold resumeShoe
  split
  · exact hstate (habort (hplaced h))
  · exact h

theorem moves_setMode (m : EffMode) (h : Moves c s u) : Moves c s (setMode m u) := by
  unfold setMode
  dsimp only
  split
  · exact h
  · have hset := moves_regimeEvent (moves_decideScrew (moves_decideLine (moves_updateARing (h.tail (.table _ { u.table with mode := m })))))
    split
    · exact moves_refreshGates hset
    · exact moves_refreshGates (moves_abortBuild hset)

theorem moves_setBackbone {b : Backbone} (hb : u.port.backbone ≠ .offline) (h : Moves c s u) : Moves c s (setBackbone b u) := by
  have hport : Moves c s { u with port := { u.port with backbone := b } } :=
    h.tail (.port _ _ (fun _ _ ho => absurd ho hb) fun k => k.of_stores (.refl _) rfl k.failures k.rejected)
  unfold setBackbone
  dsimp only
  split <;> split
  · exact moves_refreshGates (moves_abortBuild (moves_decideLine hport))
  · exact moves_refreshGates (moves_abortBuild hport)
  · exact moves_refreshGates (moves_decideLine hport)
  · exact moves_refreshGates hport

/-! ## Publication -/

theorem moves_refreshPubTimer (k : OwnKind) (h : Moves c s u) : Moves c s (refreshPubTimer k u) := by
  unfold refreshPubTimer
  dsimp only
  split
  · exact h
  · split
    · exact moves_portMarks rfl rfl rfl rfl rfl h
    · exact h.tail (.port _ _ (fun _ _ ho => ho) fun k => k.of_codes (codes_dropKind _ _ _) rfl k.failures k.rejected)

theorem moves_refreshPubTimers (h : Moves c s u) : Moves c s (refreshPubTimers u) := by
  unfold refreshPubTimers
  iterate 8 refine moves_refreshPubTimer _ ?_
  exact h

theorem moves_writeOwn (b : Bulletin) (h : Moves c s u) : Moves c s (writeOwn b u) := by
  have hput : Moves c s (tableChanged (putOwnEntry (u.ownEntry.write (u.timer u.cfg.lapseTime) b) u)) :=
    moves_tableChanged (h.tail (.table _ _))
  cases b with
  | stop => exact moves_setStopped hput
  | claim | build | mode | setpoint | service | thrust | drive | screw | grout | status | id => exact hput

theorem moves_publish (k : OwnKind) (h : Moves c s u) : Moves c s (publish k u) := by
  unfold publish
  split
  · exact (moves_writeOwn _ h).tail
      (.port _ _ (fun _ _ ho => ho) fun hp => hp.enqueueKind (content_code u k))
  · exact h

/-! ## Leaving the start, the line and the receive buffer -/

theorem moves_enterJoining (hb : u.boot.phase = .done) (h : Moves c s u) : Moves c s (enterJoining u) := by
  have hport : Moves c s { u with port := { u.port with backbone := .joining, joinTimer := u.timer u.cfg.joinWindow } } :=
    h.tail (.port _ _ (fun hacc hf _ => by simp [hb, BootPhase.holdsConfig, hf] at hacc)
      fun k => k.of_stores (.refl _) rfl k.failures k.rejected)
  exact moves_publish _ (moves_publish _ (moves_refreshPubTimers (hport.tail (.adv _ { u.adv with
    rateTimer := u.timer u.cfg.rateWindow } rfl))))

end Sys2Proof.Machine
end

section
/-! Every command but a start and the image's answer is a run of parts (`Moves`). -/
namespace Sys2Proof.Machine
open Sys2Proof

variable {s t u : State} {c : Instr}

theorem finish_of_answer (h : answer u = .next t) : t = finish u := by
  unfold answer at h
  exact (Host.Outcome.next.inj h).symm

theorem eq_of_noEffect (h : noEffect s = .next t) : t = s := by
  injection h with h
  exact h.symm

theorem moves_answer (h : answer u = .next t) (k : Moves c s u) : Moves c s t := finish_of_answer h ▸ moves_finish k

theorem moves_noEffect (h : noEffect s = .next t) : Moves c s t := eq_of_noEffect h ▸ .refl

theorem ne_offline_of_onBackbone (h : u.onBackbone = true) : u.port.backbone ≠ .offline := by
  intro ho
  simp [State.onBackbone, State.jobsRun, ho] at h

/-! ## The restore and the join -/

theorem moves_restoreRecord (r : RingRecord) (hc : ∃ a, c = .ringRecordReadComplete a) (h : Moves c s u) :
    Moves c s (restoreRecord r u) := by
  have hadv {v : State} (h : Moves c s v) : Moves c s (restoreAdv r.adv v) := by
    unfold restoreAdv
    split
    · rename_i a _
      exact (h.tail (.shoe _ { v.shoe with lastServed := clampNat 0 15 a.lastServed } fun _ hs hd => ⟨hs, hd⟩)).tail
        (.restored hc _ _ _)
    · exact h
  have hcomplete {v : State} (h : Moves c s v) : Moves c s (completeAdv v) :=
    (h.tail (.grout _ { v.grout with void := voidOf v.cfg v.adv.aRing })).tail (.restored hc _ _ _)
  have hgrt {v : State} (h : Moves c s v) : Moves c s (restoreGrt r.grt v) := by
    unfold restoreGrt
    split
    · exact moves_recomputeDeficit (h.tail (.grout _ _))
    · exact h
  have hmck {v : State} (h : Moves c s v) : Moves c s (restoreMck r.mck v) := by
    unfold restoreMck
    split
    · exact h.tail (.restored hc _ v.adv _)
    · exact h
  have hdrive {v : State} (n : Nat) (h : Moves c s v) : Moves c s (restoreDrive n v) := by
    unfold restoreDrive
    split
    · rename_i hn
      refine h.tail (.drive _ _ fun hf => ?_)
      have hnone : v.faults.drive.isSome = false := by simp_all
      have hstate : v.drive.state ≠ .fault := fun hd => by simp [hf.drive.mp hd] at hnone
      dsimp only
      split
      · simp [hstate]
      · simp [hstate]
    · exact h
  have htrm {v : State} (h : Moves c s v) : Moves c s (restoreTrm r.trm v) := by
    unfold restoreTrm restoreIntegrator
    split
    · split
      · exact (hdrive _ h).tail (.muck _ _ rfl rfl)
      · exact hdrive _ h
    · exact h
  have hbalance {v : State} (h : Moves c s v) : Moves c s (restoredBalance v) := by
    unfold restoredBalance
    split
    · exact h.tail (.balance _)
    · exact h
  exact hbalance (htrm (hmck (hgrt (hcomplete (hadv (h.tail (.mem _ _)))))))

theorem moves_completeRestore (hc : ∃ a, c = .ringRecordReadComplete a) (hp : u.boot.phase = .readingRecord)
    (h : Moves c s u) : Moves c s (completeRestore u) := by
  unfold completeRestore
  have hdone : (startPendingWrite { u with boot := { u.boot with phase := .done } }).boot.phase = .done := by simp
  exact moves_enterJoining hdone (moves_startPendingWrite (h.tail (.complete hc _ hp)))

theorem moves_execRingRecordReadComplete (record : Option (List Byte)) (h : execRingRecordReadComplete record s = .next t) :
    Moves (.ringRecordReadComplete record) s t := by
  unfold execRingRecordReadComplete at h
  split at h
  · rename_i hp
    dsimp only at h
    have hmem (m : MemPort) : Moves (.ringRecordReadComplete record) s { s with mem := m } := .single (.mem _ _)
    split at h
    · refine moves_answer h (moves_completeRestore ⟨_, rfl⟩ ?_ (moves_restoreRecord _ ⟨_, rfl⟩ (hmem _)))
      simpa using hp
    · exact moves_answer h (moves_completeRestore ⟨_, rfl⟩ hp ((hmem _).tail (.raise _ _ (by simp) (by simp))))
  · exact moves_noEffect h

theorem moves_startEvaluations (h : Moves c s u) : Moves c s (startEvaluations u) := by
  have hdrive : Moves c s { u with drive := (startEvaluations u).drive } := h.tail (.drive _ _ fun hf => ⟨Iff.rfl, hf.command⟩)
  exact ((hdrive.tail (.thrust _ (startEvaluations u).thrust)).tail (.grout _ (startEvaluations u).grout)).tail
    (.muck _ (startEvaluations u).muck rfl rfl)

theorem moves_startPendingExtend (h : Moves c s u) : Moves c s (startPendingExtend u) := by
  unfold startPendingExtend
  split
  · exact h.tail (.shoe _ _ fun _ hs hd => ⟨hs, hd⟩)
  · exact h

theorem moves_execJoinTimerExpiry (h : execJoinTimerExpiry s = .next t) : Moves c s t := by
  unfold execJoinTimerExpiry at h
  split at h
  · rename_i hj
    dsimp only at h
    have hb : s.port.backbone = .joining := by simp_all
    refine moves_answer h ?_
    have hport : Moves c s { s with port := { s.port with joinTimer := .stopped } } := moves_portMarks rfl rfl rfl rfl rfl .refl
    have hback := moves_refreshPubTimers (moves_startEvaluations (moves_setBackbone
      (b := if s.port.failures < 16 then .online else .isolated) (by simp [hb]) hport))
    exact moves_startPendingExtend hback
  · exact moves_noEffect h

/-! ## The line -/

theorem moves_execLineFree (h : execLineFree s = .next t) : Moves c s t := by
  unfold execLineFree at h
  split at h
  · split at h
    · exact moves_noEffect h
    · exact moves_answer h (moves_portMarks rfl rfl rfl rfl rfl .refl)
  · exact moves_noEffect h

theorem moves_execLostArbitration (h : execLostArbitration s = .next t) : Moves c s t := by
  unfold execLostArbitration at h
  split at h
  · exact moves_answer h (.single
      (.port _ _ (fun _ _ ho => ho) fun k => k.of_codes (codes_afterLost _ _) rfl k.failures k.rejected))
  · exact moves_noEffect h

theorem moves_leaveIsolated (h : Moves c s u) : Moves c s (leaveIsolated u) := by
  unfold leaveIsolated
  split
  · rename_i hb
    exact moves_setBackbone (by simp [hb]) (h.tail
      (.port _ _ (fun _ _ ho => ho) fun k => k.of_stores (.refl _) rfl (Nat.zero_le _) k.rejected))
  · exact h

/-- Entry to ONLINE moves the backbone state, and of the rest only what the end of an event moves. -/
theorem kept_setBackbone_online (s : State) :
    (setBackbone .online s).kept = { s with port := { s.port with backbone := .online } }.kept := by
  unfold setBackbone
  dsimp only
  rw [if_neg (by simp), kept_refreshGates]
  split
  · exact kept_decideLine _
  · rfl

theorem kept_leaveIsolated_of_isolated (h : s.port.backbone = .isolated) :
    (leaveIsolated s).kept = { s with port := { s.port with backbone := .online, failures := 0 } }.kept := by
  unfold leaveIsolated
  rw [if_pos h]
  exact kept_setBackbone_online _

theorem leaveIsolated_of_ne (h : s.port.backbone ≠ .isolated) : leaveIsolated s = s := by
  unfold leaveIsolated
  exact if_neg h

theorem ne_offline_leaveIsolated (h : s.port.backbone ≠ .offline) : (leaveIsolated s).port.backbone ≠ .offline := by
  by_cases hi : s.port.backbone = .isolated
  · have hon : (leaveIsolated s).port.backbone = .online := congrArg Kept.backbone (kept_leaveIsolated_of_isolated hi)
    simp [hon]
  · rwa [leaveIsolated_of_ne hi]

theorem moves_execAcknowledged (h : execAcknowledged s = .next t) : Moves c s t := by
  unfold execAcknowledged at h
  split at h
  · exact moves_answer h (moves_leaveIsolated (.single
      (.port _ _ (fun _ _ ho => ho) fun k => k.of_codes (codes_afterEnd _ _) rfl (Nat.zero_le _) k.rejected)))
  · exact moves_noEffect h

theorem moves_failTransmission (f : Frame) (h : Moves c s u) : Moves c s (failTransmission f u) := by
  have hport : Moves c s { u with port := { u.port with
      onLine := none, failures := min 16 (u.port.failures + 1), queue := afterEnd f.kindCode u.port.queue } } :=
    h.tail (.port _ _ (fun _ _ ho => ho) fun k => k.of_codes (codes_afterEnd _ _) rfl (Nat.min_le_left _ _) k.rejected)
  unfold failTransmission
  dsimp only
  split
  · rename_i hb
    exact moves_setBackbone (by simp [hb.1]) hport
  · exact hport

theorem moves_execUnacknowledged (h : execUnacknowledged s = .next t) : Moves c s t := by
  unfold execUnacknowledged at h
  split at h
  · exact moves_answer h (moves_failTransmission _ .refl)
  · exact moves_noEffect h

theorem moves_execBitError (h : execBitError s = .next t) : Moves c s t := by
  unfold execBitError at h
  split at h
  · exact moves_answer h (moves_failTransmission _ .refl)
  · exact moves_noEffect h

theorem moves_stopShoeTimers (h : Moves c s u) : Moves c s (stopShoeTimers u) := h.tail (.shoe _ _ fun _ hs hd => ⟨hs, hd⟩)

theorem moves_enterSilent (code : Nat) (hb : u.port.backbone ≠ .offline) (h : Moves c s u) : Moves c s (enterSilent code u) := by
  have hport : Moves c s { u with port := { u.port with
      backbone := .silent, queue := [], rx := [], onLine := none, joinTimer := .stopped, pubTimer := PerKind.all .stopped } } :=
    h.tail (.port _ _ (fun _ _ ho => absurd ho hb) fun k =>
      ⟨by simp, by simp, by simp, by simp, k.failures, k.rejected⟩)
  have hunits := ((hport.tail (.adv _ { u.adv with rateTimer := .stopped } rfl)).tail
    (.drive _ { u.drive with evalTimer := .stopped } fun hf => ⟨Iff.rfl, hf.command⟩)).tail
    (.thrust _ { u.thrust with evalTimer := .stopped })
  unfold enterSilent
  refine .tail (moves_refreshGates (moves_stopShoeTimers (moves_silenceMuck (moves_silenceGrout false ?_)))) (.raised _ _ _ _)
  exact hunits

theorem moves_judgeFrame (f : Frame) (hb : u.port.backbone ≠ .offline) (h : Moves c s u) : Moves c s (judgeFrame f u) := by
  unfold judgeFrame
  split
  · exact moves_enterSilent _ hb h
  · rename_i hs
    split
    · unfold bufferFrame
      split
      · rename_i hlen
        refine h.tail (.port _ _ (fun _ _ ho => ho) fun k => ⟨k.ascending, k.ownKinds, ?_, ?_, k.failures, k.rejected⟩)
        · simpa using hlen
        · intro g hg
          rcases List.mem_append.mp hg with hg | hg
          · exact k.foreign g hg
          · obtain rfl := List.mem_singleton.mp hg
            exact hs
      · exact h.tail (.raise _ _ (by simp) (by simp))
    · exact h.tail (.port _ _ (fun _ _ ho => ho) fun k => k.of_stores (.refl _) rfl k.failures (Nat.min_le_left _ _))

theorem moves_execFrameArrives (f : Frame) (h : execFrameArrives f s = .next t) : Moves c s t := by
  unfold execFrameArrives at h
  have hack (b : Bool) : Moves c s { s with port := { s.port with ackDriven := b } } := moves_portMarks rfl rfl rfl rfl rfl .refl
  split at h
  · rename_i hb
    refine moves_answer h (moves_judgeFrame f ?_ (moves_leaveIsolated (hack _)))
    exact ne_offline_leaveIsolated (ne_offline_of_onBackbone (u := s) (by simp_all))
  · exact moves_answer h (hack _)

theorem moves_execPublicationTimerExpiry (k : OwnKind) (h : execPublicationTimerExpiry k s = .next t) : Moves c s t := by
  unfold execPublicationTimerExpiry at h
  split at h
  · exact moves_answer h (moves_publish k .refl)
  · exact moves_noEffect h

end Sys2Proof.Machine
end

section
/-! The commands that take frames and services, the samples, evaluations, edges and pins as runs of parts, and all commands together
(`moves_exec`). -/
namespace Sys2Proof.Machine
open Sys2Proof

variable {s t u : State} {c : Instr}

/-! ## Taking frames -/

theorem moves_popFrame (h : Moves c s u) : Moves c s (popFrame u) := by
  refine h.tail (.port _ _ (fun _ _ ho => ho) fun k => ⟨k.ascending, k.ownKinds, ?_, ?_, k.failures, k.rejected⟩)
  · have := k.buffer
    simp only [List.length_tail]
    omega
  · exact fun f hf => k.foreign f (List.mem_of_mem_tail hf)

theorem moves_takeContent (n : Nat) (b : Bulletin) (h : Moves c s u) : Moves c s (takeContent n b u) := by
  unfold takeContent takeConsole takeStation
  dsimp only
  split
  · exact moves_tableChanged (h.tail (.table _ _))
  · refine moves_tableChanged ?_
    split
    · exact (h.tail (.table _ _)).tail (.raise _ _ (by simp) (by simp))
    · exact h.tail (.table _ _)

theorem moves_handBulletin (b : Bulletin) (e : Bool) (h : Moves c s u) : Moves c s (handBulletin b e u) := by
  unfold handBulletin
  split
  · split
    · exact moves_setMode _ h
    · exact h
  · unfold refreshWait
    split
    · exact h.tail (.shoe _ _ fun _ hs hd => ⟨hs, hd⟩)
    · exact h
  · exact h

theorem moves_execBulletinTaken (h : execBulletinTaken s = .next t) : Moves c s t := by
  unfold execBulletinTaken at h
  split at h
  · rename_i n b rest _
    cases b with
    | thrust | claim | grout | drive | screw | status | setpoint =>
      exact moves_answer h (moves_handBulletin _ _ (moves_takeContent _ _ (moves_popFrame .refl)))
    | stop | build | mode | service | id => exact moves_noEffect h
  · exact moves_noEffect h

theorem moves_stopRoleInputs (r : Role) (h : Moves c s u) : Moves c s (stopRoleInputs r u) := by
  have hin (l : List (Fin 12)) : ∀ v, Moves c s v → Moves c s (l.foldl (fun s i =>
      if (s.inCfg i).function.role = some r then putInput i { s.inRec i with holdTimer := .stopped } s else s) v) := by
    induction l with
    | nil => exact fun v h => h
    | cons i l ih =>
      refine fun v h => ih _ ?_
      beta_reduce
      split
      · exact h.tail (.input _ _ _)
      · exact h
  have hch (l : List (Fin 8)) : ∀ v, Moves c s v → Moves c s (l.foldl (fun s i =>
      if (s.chCfg i).function.role = some r then putChannel i { s.ch i with timeoutTimer := .stopped } s else s) v) := by
    induction l with
    | nil => exact fun v h => h
    | cons i l ih =>
      refine fun v h => ih _ ?_
      beta_reduce
      split
      · exact h.tail (.channel _ _ _ ⟨rfl, fun _ hp ha => ⟨hp, ha, rfl⟩⟩)
      · exact h
  exact hch _ _ (hin _ _ h)

theorem moves_yieldUnit (r : Role) (h : Moves c s u) : Moves c s (yieldUnit r u) := by
  cases r with
  | thrust =>
    exact moves_stopShoeTimers ((h.tail (.adv _
      { u.adv with stroke := 0, strokeValid := false, base := 0, advance := 0 } rfl)).tail (.thrust _ _))
  | grout => exact moves_silenceGrout true h
  | screw => exact moves_silenceMuck h
  | drive => exact h

theorem moves_yieldRole (r : Role) (h : Moves c s u) : Moves c s (yieldRole r u) :=
  moves_tableChanged ((moves_refreshPubTimers (moves_stopRoleInputs r (moves_yieldUnit r (h.tail (.yields _ _))))).tail
    (.table _ _))

theorem moves_checkYield (n : Nat) (b : IdBody) (h : Moves c s u) : Moves c s (checkYield n b u) := by
  have hscrew {v : State} (h : Moves c s v) : Moves c s (yieldScrew b v) := by
    unfold yieldScrew
    split
    · exact (moves_yieldRole _ h).tail (.raise _ _ (by simp) (by simp))
    · exact h
  have hsector {v : State} (h : Moves c s v) : Moves c s (yieldSector b v) := by
    unfold yieldSector
    dsimp only
    split
    · refine .tail ?_ (.raise _ _ (by simp) (by simp))
      split
      · exact moves_yieldRole _ (moves_yieldRole _ h)
      · exact moves_yieldRole _ h
    · exact h
  unfold checkYield
  split
  · exact hsector (hscrew h)
  · exact h

theorem moves_execIdTaken (h : execIdTaken s = .next t) : Moves c s t := by
  unfold execIdTaken at h
  split at h
  · exact moves_answer h (moves_checkYield _ _ (moves_takeContent _ _ (moves_popFrame .refl)))
  · exact moves_noEffect h

theorem moves_closeRing (withCarry : Bool) {ring : Nat} (hlt : u.adv.ring < ring) (h : Moves .modeTaken s u) :
    Moves .modeTaken s (closeRing withCarry ring u) := by
  have hshoe {v : State} (h : Moves .modeTaken s v) : Moves .modeTaken s (closeShoe v) := by
    unfold closeShoe
    split
    · exact h.tail (.shoe _ _ fun _ hs hd => ⟨hs, hd⟩)
    · exact h
  unfold closeRing
  refine moves_settle (moves_triggerSave (moves_tableChanged (hshoe (h.tail (.closed rfl _ withCarry _ ?_)))))
  exact hlt

theorem moves_takeRing (ring : Nat) (h : Moves .modeTaken s u) : Moves .modeTaken s (takeRing ring u) := by
  unfold takeRing
  split
  · exact h
  · split
    · exact moves_closeRing true (by omega) h
    · split
      · exact (moves_closeRing false ‹_› h).tail (.raise _ _ (by simp) (by simp))
      · exact h.tail (.raise _ _ (by simp) (by simp))

theorem moves_execModeTaken (h : execModeTaken s = .next t) : Moves .modeTaken s t := by
  unfold execModeTaken at h
  split at h
  · rename_i n b rest _
    have hring := moves_takeRing b.ring (moves_takeContent n (.mode b) (moves_popFrame (.refl (a := s))))
    refine moves_answer h ?_
    unfold takeMode
    split
    · exact moves_setMode _ hring
    · exact hring
  · exact moves_noEffect h

theorem moves_takeBuild (b : BuildBody) (h : Moves c s u) : Moves c s (takeBuild b u) := by
  have hplaced : Moves c s { u with shoe := u.shoe.markPlaced } := h.tail (.shoe _ _ fun _ hs hd => ⟨hs, hd⟩)
  unfold takeBuild
  split
  · split
    · split
      · exact moves_leaveShoe (fun _ => by simp [*]) h
      · exact h
    · exact h
    · split
      · exact hplaced
      · exact h
    · split
      · exact hplaced
      · exact h
    · split
      · split
        · exact hplaced
        · exact moves_enterExtending (fun hf => absurd hf ‹_›) hplaced
      · exact h
  · exact h

theorem moves_execBuildTaken (h : execBuildTaken s = .next t) : Moves c s t := by
  unfold execBuildTaken at h
  split at h
  · exact moves_answer h (moves_refreshGates (moves_takeBuild _ (moves_takeContent _ _ (moves_popFrame .refl))))
  · exact moves_noEffect h

theorem moves_execStopTaken (h : execStopTaken s = .next t) : Moves c s t := by
  unfold execStopTaken at h
  split at h
  · exact moves_answer h (moves_setStopped (moves_takeContent _ _ (moves_popFrame .refl)))
  · exact moves_noEffect h

/-! ## Timers of the table and of the advance unit -/

theorem moves_expireStationSlot (n : Nat) (k : OwnKind) (h : Moves c s u) : Moves c s (expireStationSlot n k u) := by
  unfold expireStationSlot
  dsimp only
  split
  · exact (moves_tableChanged (h.tail (.table _ _))).tail (.raise _ _ (by simp) (by simp))
  · exact moves_tableChanged (h.tail (.table _ _))

theorem moves_expireConsoleSlot (sl : ConsoleSlot) (h : Moves c s u) : Moves c s (expireConsoleSlot sl u) := by
  have htable (x : PeerTable) : Moves c s { u with table := x } := h.tail (.table _ _)
  cases sl with
  | mode => exact (moves_refreshGates (moves_setMode _ (htable _))).tail (.raise _ _ (by simp) (by simp))
  | setpoint | build | stop => exact moves_refreshGates (htable _)

theorem moves_execSlotCurrencyExpiry (slot : SlotRef) (h : execSlotCurrencyExpiry slot s = .next t) : Moves c s t := by
  unfold execSlotCurrencyExpiry at h
  split at h <;> split at h
  · exact moves_answer h (moves_expireStationSlot _ _ .refl)
  · exact moves_noEffect h
  · exact moves_answer h (moves_expireConsoleSlot _ .refl)
  · exact moves_noEffect h

theorem moves_execStaleTimerExpiry (h : execStaleTimerExpiry s = .next t) : Moves c s t := by
  unfold execStaleTimerExpiry at h
  split at h
  · exact moves_answer h (moves_refreshGates (moves_setReference _ _ _ .refl))
  · exact moves_noEffect h

theorem moves_execRateTimerExpiry (h : execRateTimerExpiry s = .next t) : Moves c s t := by
  unfold execRateTimerExpiry at h
  split at h
  · exact moves_answer h (.single (.adv _ _ rfl))
  · exact moves_noEffect h

/-! ## Services -/

theorem moves_takeService {b : ServiceBody} {act : State → State} (hact : ∀ v, Moves c s v → Moves c s (act v))
    (h : Moves c s u) : Moves c s (takeService b act u) := by
  unfold takeService
  split
  · exact hact _ (moves_popFrame h)
  · exact moves_popFrame h

theorem moves_execClearFault (h : execClearFault s = .next t) : Moves .clearFault s t := by
  unfold execClearFault at h
  split at h
  · refine moves_answer h (moves_takeService (fun v hv => ?_) .refl)
    split
    · exact hv.tail (.cleared rfl _ _)
    · exact hv
  · exact moves_noEffect h

theorem moves_execClearEvents (h : execClearEvents s = .next t) : Moves .clearEvents s t := by
  unfold execClearEvents at h
  split at h
  · exact moves_answer h (moves_takeService (fun v hv => hv.tail (.flags rfl _ _)) .refl)
  · exact moves_noEffect h

theorem moves_execResume (h : execResume s = .next t) : Moves .resume s t := by
  unfold execResume at h
  split at h
  · refine moves_answer h (moves_takeService (fun v hv => ?_) .refl)
    unfold resumeStation
    split
    · exact hv
    · split
      · exact hv.tail (.raise _ _ (by simp) (by simp))
      · exact moves_refreshGates (moves_decideScrew (moves_decideLine (moves_resumeShoe (moves_refreshGates
          (hv.tail (.resumed rfl _))))))
  · exact moves_noEffect h

theorem moves_execForget (h : execForget s = .next t) : Moves c s t := by
  unfold execForget at h
  split at h
  · refine moves_answer h (moves_takeService (fun v hv => ?_) .refl)
    unfold forgetStation
    split
    · exact hv
    · exact moves_tableChanged (hv.tail (.table _ _))
  · exact moves_noEffect h

theorem moves_execSave (h : execSave s = .next t) : Moves c s t := by
  unfold execSave at h
  split at h
  · exact moves_answer h (moves_takeService (fun v hv => moves_triggerSave hv) .refl)
  · exact moves_noEffect h

/-- A RESTART that names another station starts nothing. -/
theorem moves_execRestart {straps : BitVec 4} (hb : ∀ b, s.serviceHead .restart = some b → s.targeted b = false)
    (h : execRestart straps s = .next t) : Moves c s t := by
  unfold execRestart at h
  split at h
  · rename_i b hs
    unfold takeService at h
    rw [if_neg (by simp [hb b hs])] at h
    exact moves_answer h (moves_popFrame .refl)
  · exact moves_noEffect h

end Sys2Proof.Machine
end

section
/-! The samples, evaluations, edges and pins as runs of parts, and all commands together (`moves_exec`). -/
namespace Sys2Proof.Machine
open Sys2Proof

variable {s t u : State} {c : Instr}

theorem moves_raised {j : Job} {cause : FaultCause} {v : Int} (h : Moves c s u) : Moves c s (raiseFault j cause v u) :=
  h.tail (.raised _ _ _ _)

/-! ## Samples -/

theorem moves_examineStall (h : Moves c s u) : Moves c s (examineStall u) := h.tail (.drive _ _ fun hf => ⟨Iff.rfl, hf.command⟩)

theorem moves_completeExtending (hs : u.shoe.state = .extending) (h : Moves c s u) : Moves c s (completeExtending u) :=
  moves_seatSetpoint (moves_leaveShoe (fun _ => by simp [hs]) h)

/-- The start decision leaves a pending decision, which a held record excludes. -/
theorem moves_startDecision (hp : u.shoe.decisionPending = true) (h : Moves c s u) : Moves c s (startDecision u) := by
  have hshoe (x : Shoe) : Moves c s { u with shoe := x } := h.tail (.shoe _ _ fun _ _ hd => by simp [hp] at hd)
  unfold startDecision
  dsimp only
  split
  · exact moves_seatSetpoint (hshoe _)
  · split
    · exact moves_writeExtendDuties (hshoe _)
    · exact moves_writeExtendDuties (hshoe _)

theorem moves_shoePressure (h : Moves c s u) : Moves c s (shoePressure u) := by
  unfold shoePressure
  split
  · exact moves_startDecision (by simp_all) h
  · split
    · exact moves_completeExtending (by simp_all) h
    · exact h

theorem moves_sampleStroke (v : Option Int) (h : Moves c s u) : Moves c s (sampleStroke v u) := by
  unfold sampleStroke shoeStroke
  cases v with
  | none => exact h.tail (.adv _ _ rfl)
  | some v =>
    dsimp only
    split
    · exact moves_checkRetracted (h.tail (.adv _ _ (by rfl)))
    · exact h.tail (.adv _ _ rfl)

theorem moves_sampleGroupPressure (v : Option Int) (h : Moves c s u) : Moves c s (sampleGroupPressure v u) := by
  cases v with
  | none => exact h.tail (.thrust _ _)
  | some v =>
    unfold sampleGroupPressure
    exact moves_shoePressure ((h.tail (.thrust _ { u.thrust with pressure := clampToNat 0 4000 v, pressureValid := true })).tail
      (.thrust _ _))

theorem moves_sampleLinePressure (v : Option Int) (h : Moves c s u) : Moves c s (sampleLinePressure v u) := by
  cases v with
  | none => exact h.tail (.grout _ _)
  | some v => exact (moves_examineDerate (h.tail (.grout _ _))).tail (.grout _ _)

theorem moves_takeChamber (a b : ChamberInput) (h : Moves c s u) : Moves c s (takeChamber a b u) := by
  unfold takeChamber
  refine moves_recomputeChamber ?_
  split
  · exact h.tail (.raise _ _ (by simp) (by simp))
  · exact h

theorem moves_deliverSample (f : InFunction) (v : Option Int) (h : Moves c s u) : Moves c s (deliverSample f v u) := by
  cases f with
  | unused => exact h
  | stroke => exact moves_sampleStroke v h
  | groupPressure => exact moves_sampleGroupPressure v h
  | linePressure => exact moves_sampleLinePressure v h
  | chamber1 | chamber2 | chamber3 => exact moves_takeChamber _ _ (h.tail (.muck _ _ rfl rfl))
  | torqueA | torqueB =>
    unfold deliverSample sampleTorque
    exact moves_examineStall (h.tail (.drive _ _ fun hf => ⟨Iff.rfl, hf.command⟩))

theorem moves_execConversionComplete (raw : BitVec 12) (h : execConversionComplete raw s = .next t) : Moves c s t := by
  unfold execConversionComplete at h
  split at h
  · refine moves_answer h ?_
    split
    · exact moves_deliverSample _ _ ((Relation.ReflTransGen.single (.converting _ _)).tail (.input _ _ _))
    · exact .single (.converting _ _)
  · exact moves_noEffect h

theorem moves_execInputHoldExpiry (i : Fin 12) (h : execInputHoldExpiry i s = .next t) : Moves c s t := by
  unfold execInputHoldExpiry at h
  split at h
  · refine moves_answer h ?_
    have hin : Moves c s (putInput i { s.inRec i with holdTimer := .stopped } s) := .single (.input _ _ _)
    unfold reportLost
    split
    iterate 5 exact hin.tail (.raised _ _ _ _)
    iterate 4 exact hin
  · exact moves_noEffect h

/-! ## The drive -/

/-- A part of the drive evaluation, which leaves FAULT alone. -/
theorem moves_drive {d : Drive} (hs : d.state = .fault ↔ u.drive.state = .fault)
    (hz : u.drive.state = .fault → u.drive.nSet = 0 → d.nSet = 0 ∧ d.cmd = 0) (h : Moves c s u) :
    Moves c s { u with drive := d } :=
  h.tail (.drive _ _ fun hf => ⟨hs, fun hd => hz (hs.mp hd) (hf.command (hs.mp hd)).1⟩)

theorem moves_decideDrive (h : Moves c s u) : Moves c s (decideDrive u) := by
  have hmove {d : Drive} (hd : d.state ≠ .fault) (hu : u.drive.state ≠ .fault) : Moves c s { u with drive := d } :=
    moves_drive (by simp [hd, hu]) (fun hf => absurd hf hu) h
  unfold decideDrive
  dsimp only
  split
  · split
    · exact hmove (by simp) (by simp [*])
    · exact h
  · split
    · exact hmove (by simp) (by simp [*])
    · split
      · exact hmove (by simp) (by simp [*])
      · exact hmove (by simp [*]) (by simp [*])
  · split
    · exact hmove (by simp) (by simp [*])
    · split
      · exact hmove (by simp) (by simp [*])
      · split
        · exact hmove (by simp) (by simp [*])
        · split
          · exact hmove (by simp) (by simp [*])
          · exact h
  · split
    · exact hmove (by simp) (by simp [*])
    · exact h
  · split
    · exact hmove (by simp) (by simp [*])
    · split
      · exact hmove (by simp) (by simp [*])
      · exact h
  · exact h

theorem moves_stepDrive (h : Moves c s u) : Moves c s (stepDrive u) := by
  unfold stepDrive
  dsimp only
  split
  · exact moves_drive (by simp) (by simp [*]) h
  · exact moves_drive (by simp) (by simp [*]) h
  · exact moves_drive (by simp) (by simp [*]) h
  · exact moves_drive (by simp) (by simp [*]) h
  · exact moves_drive (by simp) (by simp [*]) h
  · exact h

theorem moves_commandDrive (h : Moves c s u) : Moves c s (commandDrive u) := by
  unfold commandDrive
  exact (moves_drive (d := { u.drive with cmd := u.drive.command u.cfg }) Iff.rfl
    (fun hf hn => ⟨hn, by simp [Drive.command, hf]⟩) h).tail (.duty _ _ _)

theorem moves_evaluateDrive (h : Moves c s u) : Moves c s (evaluateDrive u) :=
  moves_commandDrive ((moves_stepDrive (moves_examineStall (moves_decideDrive h))).tail
    (.drive _ _ fun hf => ⟨Iff.rfl, hf.command⟩))

theorem moves_execDriveEvaluation (h : execDriveEvaluation s = .next t) : Moves c s t := by
  unfold execDriveEvaluation at h
  split at h
  · exact moves_answer h ((moves_evaluateDrive .refl).tail (.drive _ _ fun hf => ⟨Iff.rfl, hf.command⟩))
  · exact moves_noEffect h

theorem moves_execDriveStallTimerExpiry (h : execDriveStallTimerExpiry s = .next t) : Moves c s t := by
  unfold execDriveStallTimerExpiry at h
  split at h
  · exact moves_answer h (moves_raised (.single (.drive _ _ fun hf => ⟨Iff.rfl, hf.command⟩)))
  · exact moves_noEffect h

/-! ## Thrust and the ring-build controller -/

theorem moves_evaluateThrust (h : Moves c s u) : Moves c s (evaluateThrust u) := by
  have hregime : Moves c s (computeHold (decideRegime u)) := (h.tail (.thrust _ (decideRegime u).thrust)).tail (.thrust _ _)
  have hpush : Moves c s (computePush (computeHold (decideRegime u))) := by
    unfold computePush
    split
    · exact hregime.tail (.thrust _ _)
    · exact hregime.tail (.thrust _ _)
  unfold evaluateThrust
  dsimp only
  split
  · exact hpush
  · unfold stepSetpoint chooseTarget
    exact moves_writeValves ((hpush.tail (.thrust _ _)).tail (.thrust _ _))

theorem moves_execThrustEvaluation (h : execThrustEvaluation s = .next t) : Moves c s t := by
  unfold execThrustEvaluation at h
  split at h
  · exact moves_answer h ((moves_evaluateThrust .refl).tail (.thrust _ _))
  · exact moves_noEffect h

theorem moves_execThrustOverpressureExpiry (h : execThrustOverpressureExpiry s = .next t) : Moves c s t := by
  unfold execThrustOverpressureExpiry at h
  split at h
  · exact moves_answer h (moves_raised (.single (.thrust _ _)))
  · exact moves_noEffect h

theorem moves_testClaim (hs : u.shoe.state = .claiming) (h : Moves c s u) : Moves c s (testClaim u) := by
  unfold testClaim
  split
  · unfold enterRetracting
    refine moves_checkRetracted (moves_refreshGates (.tail (.tail (.tail ?_ (.thrust _ _)) (.duty _ _ _)) (.duty _ _ _)))
    exact moves_leaveShoe (fun _ => by simp [hs]) h
  · exact h.tail (.shoe _ _ fun _ hc hd => ⟨hc, hd⟩)

theorem moves_execHoldOffExpiry (h : execHoldOffExpiry s = .next t) : Moves c s t := by
  unfold execHoldOffExpiry at h
  split at h
  · rename_i hs
    have hs : s.shoe.state = .claiming := by simp_all
    exact moves_answer h (moves_testClaim (u := { s with shoe := { s.shoe with holdOff := .stopped } }) hs
      (.single (.shoe _ _ fun _ hc hd => ⟨hc, hd⟩)))
  · exact moves_noEffect h

theorem moves_expireClaim (hs : u.shoe.state = .claiming) (h : Moves c s u) : Moves c s (expireClaim u) :=
  (moves_leaveShoe (fun _ => by simp [hs]) h).tail (.raise _ _ (by simp) (by simp))

theorem moves_execWaitTimerExpiry (h : execWaitTimerExpiry s = .next t) : Moves c s t := by
  unfold execWaitTimerExpiry at h
  split at h
  · exact moves_answer h (moves_expireClaim (by simp_all) .refl)
  · exact moves_noEffect h

theorem moves_execRetractTimerExpiry (h : execRetractTimerExpiry s = .next t) : Moves c s t := by
  unfold execRetractTimerExpiry at h
  split at h
  · exact moves_answer h (moves_raised (.single (.shoe _ _ fun _ hc hd => ⟨hc, hd⟩)))
  · exact moves_noEffect h

theorem moves_execExtendTimerExpiry (h : execExtendTimerExpiry s = .next t) : Moves c s t := by
  unfold execExtendTimerExpiry at h
  split at h
  · exact moves_answer h (moves_raised (.single (.shoe _ _ fun _ hc hd => ⟨hc, hd⟩)))
  · exact moves_noEffect h

/-! ## Grout and muck -/

theorem moves_setLine (l : LineState) (h : Moves c s u) : Moves c s (setLine l u) := by
  unfold setLine
  split
  · exact h
  · split
    · exact ((h.tail (.grout _ _)).tail (.duty _ _ _)).tail (.grout _ _)
    · exact (h.tail (.grout _ _)).tail (.grout _ _)

theorem moves_evaluateGrout (h : Moves c s u) : Moves c s (evaluateGrout u) := by
  have hband : Moves c s (recomputeBand (deriveFill u)) := by
    refine moves_recomputeBand ?_
    unfold deriveFill
    split
    · exact h
    · exact moves_recomputeTarget (h.tail (.grout _ _))
  unfold evaluateGrout evaluateLine writeRate
  dsimp only
  split
  · exact hband
  · exact (((moves_setLine _ hband).tail (.grout _ _)).tail (.duty _ _ _)).tail (.grout _ _)

theorem moves_execGroutEvaluation (h : execGroutEvaluation s = .next t) : Moves c s t := by
  unfold execGroutEvaluation at h
  split at h
  · exact moves_answer h ((moves_evaluateGrout .refl).tail (.grout _ _))
  · exact moves_noEffect h

theorem moves_execBlockedTimerExpiry (h : execBlockedTimerExpiry s = .next t) : Moves c s t := by
  unfold execBlockedTimerExpiry at h
  split at h
  · exact moves_answer h (moves_raised (.single (.grout _ _)))
  · exact moves_noEffect h

theorem moves_execGroutOverpressureExpiry (h : execGroutOverpressureExpiry s = .next t) : Moves c s t := by
  unfold execGroutOverpressureExpiry at h
  split at h
  · exact moves_answer h (moves_raised (.single (.grout _ _)))
  · exact moves_noEffect h

theorem moves_evaluateScrew (h : Moves c s u) : Moves c s (evaluateScrew u) := by
  have hstate := moves_decideScrew h
  unfold evaluateScrew
  generalize decideScrew u = v at hstate ⊢
  have hfeed : Moves c s (feedScrew v) := by
    unfold feedScrew
    split
    · exact hstate.tail (.muck _ _ rfl rfl)
    · exact hstate.tail (.muck _ _ rfl rfl)
    · exact hstate
    · exact hstate
  have hint : Moves c s (integrateScrew (feedScrew v)) := by
    unfold integrateScrew
    split
    · exact hfeed.tail (.muck _ _ rfl rfl)
    · exact hfeed
  dsimp only
  split
  · exact moves_examineScrew hstate
  · unfold rampScrew commandScrew
    exact moves_examineScrew (((hint.tail (.muck _ _ (by rfl) (by rfl))).tail (.muck _ _ (by rfl) (by rfl))).tail (.duty _ _ _))

theorem moves_execScrewEvaluation (h : execScrewEvaluation s = .next t) : Moves c s t := by
  unfold execScrewEvaluation at h
  split at h
  · exact moves_answer h ((moves_evaluateScrew .refl).tail (.muck _ _ rfl rfl))
  · exact moves_noEffect h

theorem moves_execScrewStallTimerExpiry (h : execScrewStallTimerExpiry s = .next t) : Moves c s t := by
  unfold execScrewStallTimerExpiry at h
  split at h
  · exact moves_answer h (moves_raised (.single (.muck _ _ rfl rfl)))
  · exact moves_noEffect h

theorem moves_execFeedbackTimerExpiry (h : execFeedbackTimerExpiry s = .next t) : Moves c s t := by
  unfold execFeedbackTimerExpiry at h
  split at h
  · exact moves_answer h (moves_raised (.single (.muck _ _ rfl rfl)))
  · exact moves_noEffect h

end Sys2Proof.Machine
end

section
/-! Edges, pins and memory writes as runs of parts, and all commands together (`moves_exec`). -/
namespace Sys2Proof.Machine
open Sys2Proof

variable {s t u : State} {c : Instr}

/-! ## Channels -/

/-- A channel's record is rewritten with gate, timers and level as they stand. -/
theorem moves_putChannel {i : Fin 8} {r : ChannelRec} (hg : r.gate = (u.ch i).gate)
    (hp : r.periodTimer = (u.ch i).periodTimer) (ha : r.activeTimer = (u.ch i).activeTimer) (hh : r.high = (u.ch i).high)
    (h : Moves c s u) : Moves c s (putChannel i r u) :=
  h.tail (.channel _ _ _ ⟨hg, fun _ kp ka => ⟨hp ▸ kp, ha ▸ ka, hh⟩⟩)

theorem moves_execPeriodBoundary (i : Fin 8) (h : execPeriodBoundary i s = .next t) : Moves c s t := by
  unfold execPeriodBoundary at h
  split at h
  · rename_i hon
    exact moves_answer h (.single (.channel _ _ _ ⟨rfl, fun _ hp _ => by simp [hon] at hp⟩))
  · exact moves_noEffect h

theorem moves_execActiveTimeEnd (i : Fin 8) (h : execActiveTimeEnd i s = .next t) : Moves c s t := by
  unfold execActiveTimeEnd at h
  split at h
  · rename_i hon
    exact moves_answer h (.single (.channel _ _ _ ⟨rfl, fun _ _ ha => by simp [hon] at ha⟩))
  · exact moves_noEffect h

theorem moves_takeDriveSpeed (n : Nat) (h : Moves c s u) : Moves c s (takeDriveSpeed n u) := by
  have hstall : Moves c s (examineStall { u with drive := { u.drive with nFb := n } }) :=
    moves_examineStall (h.tail (.drive _ _ fun hf => ⟨Iff.rfl, hf.command⟩))
  unfold takeDriveSpeed
  generalize examineStall { u with drive := { u.drive with nFb := n } } = v at hstall ⊢
  have hover (b : Bool) : Moves c s { v with drive := { v.drive with overspeed := b } } :=
    hstall.tail (.drive _ _ fun hf => ⟨Iff.rfl, hf.command⟩)
  unfold examineOverspeed
  dsimp only
  split
  · exact moves_raised (hover _)
  · exact hover _

theorem moves_takeScrewSpeed (n : Nat) (h : Moves c s u) : Moves c s (takeScrewSpeed n u) := by
  unfold takeScrewSpeed
  exact moves_examineScrew (h.tail (.muck _ _ (by rfl) (by rfl)))

theorem moves_restartScrewStall (h : Moves c s u) : Moves c s (restartScrewStall u) := by
  unfold restartScrewStall
  split
  · exact h.tail (.muck _ _ rfl rfl)
  · exact h

theorem moves_deliverPeriod (f : ChFunction) (n : Nat) (h : Moves c s u) : Moves c s (deliverPeriod f n u) := by
  cases f with
  | driveSpeedIn => exact moves_takeDriveSpeed _ h
  | screwSpeedIn => exact moves_takeScrewSpeed _ (moves_restartScrewStall h)
  | unused | thrustExtend | thrustRetract | driveSpeedOut | groutPump | groutStroke | greasePulse | screwSpeedOut
  | scalePulse => exact h

theorem moves_deliverNoEdge (f : ChFunction) (h : Moves c s u) : Moves c s (deliverNoEdge f u) := by
  cases f with
  | driveSpeedIn => exact moves_takeDriveSpeed _ h
  | screwSpeedIn => exact moves_takeScrewSpeed _ h
  | unused | thrustExtend | thrustRetract | driveSpeedOut | groutPump | groutStroke | greasePulse | screwSpeedOut
  | scalePulse => exact h

theorem moves_countStroke (h : Moves c s u) : Moves c s (countStroke u) := by
  have hblocked {v : State} (h : Moves c s v) : Moves c s (restartBlocked v) := by
    unfold restartBlocked
    split
    · exact h.tail (.grout _ _)
    · exact h
  unfold countStroke
  refine hblocked ?_
  split
  · exact moves_recomputeDeficit (h.tail (.grout _ _))
  · exact h

theorem moves_countScale (h : Moves c s u) : Moves c s (countScale u) := by
  unfold countScale
  split
  · exact (h.tail (.muck _ { u.muck with mMeas := min 4000000000 (u.muck.mMeas + u.cfg.kgPerPulse) } rfl rfl)).tail (.balance _)
  · exact h

theorem moves_deliverCount (f : ChFunction) (h : Moves c s u) : Moves c s (deliverCount f u) := by
  cases f with
  | groutStroke => exact moves_countStroke h
  | scalePulse => exact moves_countScale h
  | unused | thrustExtend | thrustRetract | driveSpeedOut | driveSpeedIn | groutPump | greasePulse | screwSpeedOut
  | screwSpeedIn => exact h

theorem moves_countEdge (i : Fin 8) (h : Moves c s u) : Moves c s (countEdge i u) := by
  unfold countEdge
  dsimp only
  split
  · exact moves_deliverCount _ (moves_putChannel (by rfl) (by rfl) (by rfl) (by rfl) h)
  · split
    · exact moves_deliverPeriod _ _ (moves_putChannel (by rfl) (by rfl) (by rfl) (by rfl) h)
    · exact moves_putChannel (by rfl) (by rfl) (by rfl) (by rfl) h
  · exact h
  · exact h
  · exact h

theorem moves_execChannelEdge (pin : Fin 4) (rising : Bool) (time : Nat) (h : execChannelEdge pin rising time s = .next t) :
    Moves c s t := by
  unfold execChannelEdge at h
  have hworld (n : Nat) (p : Pins) : Moves c s { s with now := n, pins := p } := .single (.world _ _ _)
  refine moves_answer h ?_
  dsimp only
  split
  · unfold takeEdge
    split
    · split
      · exact moves_countEdge _ (hworld _ _)
      · exact hworld _ _
    · exact hworld _ _
  · exact hworld _ _

theorem moves_execChannelTimeoutExpiry (i : Fin 8) (h : execChannelTimeoutExpiry i s = .next t) : Moves c s t := by
  unfold execChannelTimeoutExpiry at h
  split at h
  · exact moves_answer h (moves_deliverNoEdge _ (moves_putChannel (by rfl) (by rfl) (by rfl) (by rfl) .refl))
  · exact moves_noEffect h

theorem moves_execPulseWidthExpiry (h : execPulseWidthExpiry s = .next t) : Moves c s t := by
  unfold execPulseWidthExpiry at h
  split at h
  · exact moves_answer h (moves_endPulse .refl)
  · exact moves_noEffect h

/-! ## Pins and memory -/

theorem moves_execStopInputActive (h : execStopInputActive s = .next t) : Moves c s t := by
  unfold execStopInputActive at h
  have hpins : Moves c s (refreshPubTimers { s with pins := { s.pins with stopInput := true } }) :=
    moves_refreshPubTimers (.single (.world _ _ _))
  split at h
  · exact moves_noEffect h
  · dsimp only at h
    refine moves_answer h ?_
    split
    · exact moves_setStopped (moves_publish _ hpins)
    · exact hpins

theorem moves_execStopInputReleased (h : execStopInputReleased s = .next t) : Moves c s t := by
  unfold execStopInputReleased at h
  have hpins : Moves c s (refreshPubTimers { s with pins := { s.pins with stopInput := false } }) :=
    moves_refreshPubTimers (.single (.world _ _ _))
  split at h
  · exact moves_answer h (moves_tableChanged (hpins.tail (.table _ _)))
  · exact moves_noEffect h

theorem moves_execPermitInputChange (b : Bool) (h : execPermitInputChange b s = .next t) : Moves c s t := by
  unfold execPermitInputChange at h
  exact moves_answer h (moves_refreshGates (.single (.world _ _ _)))

theorem moves_completeWrite (w : MemWrite) (b : Bool) (h : Moves c s u) : Moves c s (completeWrite w b u) := by
  unfold completeWrite
  split
  · exact h.tail (.mem _ _)
  · exact (h.tail (.mem _ _)).tail (.raise _ _ (by simp) (by simp))

theorem moves_execMemoryWriteComplete (b : Bool) (h : execMemoryWriteComplete b s = .next t) : Moves c s t := by
  unfold execMemoryWriteComplete at h
  split at h
  · exact moves_answer h (moves_startPendingWrite ((moves_completeWrite _ b .refl).tail (.waited _)))
  · exact moves_noEffect h

/-! ## Every command -/

/-- Outside the phase that reads the image its answer does nothing (log 1). -/
theorem execConfigReadComplete_of_ne (a : Option (List Byte)) (hp : s.boot.phase ≠ .readingConfig) :
    execConfigReadComplete a s = noEffect s := by
  unfold execConfigReadComplete
  exact if_neg hp

/-- A command that is no start and takes no image of a start is a run of parts. -/
theorem moves_exec (hs : startsStation c = false) (hc : ∀ a, c = .configReadComplete a → s.boot.phase ≠ .readingConfig)
    (h : exec c s = .next t) : Moves c s t := by
  cases c with
  | powerOn | lineReset | resetAsserted | restart => simp [startsStation] at hs
  | configReadComplete a => exact moves_noEffect ((execConfigReadComplete_of_ne a (hc a rfl)).symm.trans h)
  | ringRecordReadComplete a => exact moves_execRingRecordReadComplete a h
  | joinTimerExpiry => exact moves_execJoinTimerExpiry h
  | lineFree => exact moves_execLineFree h
  | lostArbitration => exact moves_execLostArbitration h
  | acknowledged => exact moves_execAcknowledged h
  | unacknowledged => exact moves_execUnacknowledged h
  | bitError => exact moves_execBitError h
  | frameArrives f => exact moves_execFrameArrives f h
  | bulletinTaken => exact moves_execBulletinTaken h
  | idTaken => exact moves_execIdTaken h
  | modeTaken => exact moves_execModeTaken h
  | buildTaken => exact moves_execBuildTaken h
  | stopTaken => exact moves_execStopTaken h
  | clearFault => exact moves_execClearFault h
  | clearEvents => exact moves_execClearEvents h
  | resume => exact moves_execResume h
  | forget => exact moves_execForget h
  | save => exact moves_execSave h
  | slotCurrencyExpiry slot => exact moves_execSlotCurrencyExpiry slot h
  | staleTimerExpiry => exact moves_execStaleTimerExpiry h
  | publicationTimerExpiry k => exact moves_execPublicationTimerExpiry k h
  | rateTimerExpiry => exact moves_execRateTimerExpiry h
  | conversionComplete raw => exact moves_execConversionComplete raw h
  | inputHoldExpiry i => exact moves_execInputHoldExpiry i h
  | driveEvaluation => exact moves_execDriveEvaluation h
  | driveStallTimerExpiry => exact moves_execDriveStallTimerExpiry h
  | thrustEvaluation => exact moves_execThrustEvaluation h
  | thrustOverpressureExpiry => exact moves_execThrustOverpressureExpiry h
  | holdOffExpiry => exact moves_execHoldOffExpiry h
  | waitTimerExpiry => exact moves_execWaitTimerExpiry h
  | retractTimerExpiry => exact moves_execRetractTimerExpiry h
  | extendTimerExpiry => exact moves_execExtendTimerExpiry h
  | groutEvaluation => exact moves_execGroutEvaluation h
  | blockedTimerExpiry => exact moves_execBlockedTimerExpiry h
  | groutOverpressureExpiry => exact moves_execGroutOverpressureExpiry h
  | screwEvaluation => exact moves_execScrewEvaluation h
  | screwStallTimerExpiry => exact moves_execScrewStallTimerExpiry h
  | feedbackTimerExpiry => exact moves_execFeedbackTimerExpiry h
  | periodBoundary i => exact moves_execPeriodBoundary i h
  | channelEdge pin rising time => exact moves_execChannelEdge pin rising time h
  | channelTimeoutExpiry i => exact moves_execChannelTimeoutExpiry i h
  | pulseWidthExpiry => exact moves_execPulseWidthExpiry h
  | stopInputActive => exact moves_execStopInputActive h
  | stopInputReleased => exact moves_execStopInputReleased h
  | permitInputChange b => exact moves_execPermitInputChange b h
  | memoryWriteComplete b => exact moves_execMemoryWriteComplete b h
  | activeTimeEnd i => exact moves_execActiveTimeEnd i h

end Sys2Proof.Machine
end

section
/-! Starts and the acceptance of a configuration (R167, R168), and every command as a run of parts from its beginning. -/
namespace Sys2Proof.Machine
open Sys2Proof

variable {s t u v : State} {c : Instr}

/-- The station at the values of a start, before the fault area follows. -/
def State.started (s : State) (kind : StartKind) (phase : BootPhase) (straps : BitVec 4) (faults : FaultRecords) (flags : Word16)
    (pins : Pins) (mem : MemPort) : State :=
  State.startValues kind phase straps s.cfg s.boot.digest faults flags pins mem s.now s.pending

/-- A configuration accepted, before the gates are first evaluated (R168 step 3). -/
def configAccepted (s : State) : State :=
  let s1 := configStartValues { s with boot := { s.boot with
    accepted := true, phase := if s.mem.inFlight.isSome then .waitingWrite else .readingRecord } }
  restPins { s1 with converting := inputIndices.find? s1.scanned }

/-- No configuration accepted, before CONFIG_BAD is raised (R168 step 3). -/
def configRejected (s : State) : State := { s with boot := { s.boot with phase := .bad, accepted := false } }

theorem acceptConfig_eq (s : State) : acceptConfig s =
    if (refreshGates (configAccepted s)).pins.stopInput then setStopped (refreshGates (configAccepted s))
    else refreshGates (configAccepted s) := by
  unfold acceptConfig configAccepted
  dsimp only

theorem moves_acceptConfig (h : Moves c s (configAccepted u)) : Moves c s (acceptConfig u) := by
  rw [acceptConfig_eq]
  split
  · exact moves_setStopped (moves_refreshGates h)
  · exact moves_refreshGates h

theorem moves_configBad (h : Moves c s (configRejected u)) : Moves c s (configBad u) := moves_raised h

/-- A start writes the fault area's marks and nothing else beside its values. -/
theorem startStation_eq (kind : StartKind) (phase : BootPhase) (straps : BitVec 4) (faults : FaultRecords) (flags : Word16)
    (mem : MemPort) (s : State) : ∃ m, startStation kind phase straps faults flags mem s =
      { s.started kind phase straps faults flags s.pins mem with mem := m } := by
  unfold startStation faultAreaChanged
  dsimp only
  split
  · exact ⟨_, rfl⟩
  · split
    · exact ⟨_, rfl⟩
    · exact ⟨_, rfl⟩

/-- Where a command begins, and that it goes on in parts (`Moves`). -/
inductive Runs (c : Instr) (s t : State) : Prop where
  | moved (hs : startsStation c = false ∨ ∃ straps, c = .restart straps) (h : Moves c s t)
  | started (kind : StartKind) (phase : BootPhase) (straps : BitVec 4) (faults : FaultRecords) (flags : Word16) (pins : Pins)
      (mem : MemPort)
      (hc : (∃ p, c = .powerOn p) ∨
        ((∃ p, c = .lineReset p) ∨ c = .resetAsserted) ∧ flags = s.events.flags ∧ faults = { s.faults with station := none })
      (hp : phase = .held ∨ phase = .readingConfig ∧ ∃ p, c = .powerOn p ∨ c = .lineReset p)
      (h : Moves c { s.started kind phase straps faults flags pins mem with mem := mem } t)
  | restarted (straps p : BitVec 4) (pins : Pins) (mem mem' : MemPort) (hc : c = .restart p)
      (h : Moves c (configRejected { s.started .restart .readingConfig straps { s.faults with station := none } s.events.flags
          pins mem' with mem := mem }) t ∨
        Moves c (configAccepted { s.started .restart .readingConfig straps { s.faults with station := none } s.events.flags
          pins mem' with mem := mem }) t)
  | image (a : Option (List Byte)) (hc : c = .configReadComplete a) (hp : s.boot.phase = .readingConfig) (mem : MemPort)
      (h : Moves c (configRejected { s with mem := mem }) t ∨
        ∃ cfg digest, Moves c (configAccepted { s with mem := mem, cfg := cfg, boot := { s.boot with digest := digest } }) t)

theorem runs_restart {p : BitVec 4} (h : exec (.restart p) s = .next t) : Runs (.restart p) s t := by
  rcases hb : s.serviceHead .restart with _ | b
  · exact .moved (.inr ⟨p, rfl⟩) (moves_execRestart (by simp [hb]) h)
  · by_cases ht : s.targeted b = true
    · have hb' : b.target = s.boot.station ∨ b.target = 0 := by simpa [State.targeted] using ht
      obtain rfl := finish_of_answer ((exec_restart_of_target hb hb').symm.trans h)
      obtain ⟨m, hm⟩ := startStation_eq .restart .readingConfig p { (popFrame s).faults with station := none }
        (popFrame s).events.flags (popFrame s).mem (popFrame s)
      refine .restarted p p s.pins m s.mem rfl ?_
      unfold restartStation
      dsimp only
      rw [hm]
      split
      · exact .inl (moves_finish (moves_configBad .refl))
      · exact .inr (moves_finish (moves_acceptConfig .refl))
    · exact .moved (.inr ⟨p, rfl⟩) (moves_execRestart (fun b' hb' => by
        obtain rfl : b = b' := by simpa [hb] using hb'
        simpa using ht) h)

theorem runs_image {a : Option (List Byte)} (hp : s.boot.phase = .readingConfig)
    (h : exec (.configReadComplete a) s = .next t) : Runs (.configReadComplete a) s t := by
  change execConfigReadComplete a s = .next t at h
  unfold execConfigReadComplete at h
  rw [if_pos hp] at h
  refine .image a rfl hp { s.mem with image := a.getD s.mem.image } ?_
  dsimp only at h
  split at h
  · rename_i cfg _
    exact .inr ⟨cfg, cfg.machineDigest, moves_answer h (moves_acceptConfig .refl)⟩
  · exact .inl (moves_answer h (moves_configBad .refl))

/-- Every command runs in parts from its beginning. -/
theorem exec_runs (h : exec c s = .next t) : Runs c s t := by
  have hother (hs : startsStation c = false) (hc : ∀ a, c ≠ .configReadComplete a) : Runs c s t :=
    .moved (.inl hs) (moves_exec hs (fun a ha => absurd ha (hc a)) h)
  cases c with
  | powerOn p =>
    obtain ⟨m, hm⟩ := startStation_eq .powerOn (if s.pins.resetLow then .held else .readingConfig) p FaultRecords.empty 0#16
      s.mem.cutOff s
    have ht := finish_of_answer (u := startStation .powerOn (if s.pins.resetLow then .held else .readingConfig) p
      FaultRecords.empty 0#16 s.mem.cutOff s) h
    rw [hm] at ht
    refine .started .powerOn _ p _ _ s.pins m (.inl ⟨p, rfl⟩) ?_ (ht ▸ moves_finish .refl)
    split
    · exact .inl rfl
    · exact .inr ⟨rfl, p, .inl rfl⟩
  | lineReset p =>
    obtain ⟨m, hm⟩ := startStation_eq .lineReset .readingConfig p { s.faults with station := none } s.events.flags
      s.mem.cutOff { s with pins := { s.pins with resetLow := false } }
    have ht := finish_of_answer (u := startStation .lineReset .readingConfig p { s.faults with station := none } s.events.flags
      s.mem.cutOff { s with pins := { s.pins with resetLow := false } }) h
    rw [hm] at ht
    exact .started .lineReset .readingConfig p _ _ _ m (.inr ⟨.inl ⟨p, rfl⟩, rfl, rfl⟩) (.inr ⟨rfl, p, .inr rfl⟩)
      (ht ▸ moves_finish .refl)
  | resetAsserted =>
    obtain ⟨m, hm⟩ := startStation_eq .lineReset .held s.pins.straps { s.faults with station := none } s.events.flags
      s.mem.cutOff { s with pins := { s.pins with resetLow := true } }
    have ht := finish_of_answer (u := startStation .lineReset .held s.pins.straps { s.faults with station := none } s.events.flags
      s.mem.cutOff { s with pins := { s.pins with resetLow := true } }) h
    rw [hm] at ht
    exact .started .lineReset .held s.pins.straps _ _ _ m (.inr ⟨.inr rfl, rfl, rfl⟩) (.inl rfl) (ht ▸ moves_finish .refl)
  | restart p => exact runs_restart h
  | configReadComplete a =>
    by_cases hp : s.boot.phase = .readingConfig
    · exact runs_image hp h
    · exact .moved (.inl rfl) (moves_exec rfl (fun _ _ => hp) h)
  | ringRecordReadComplete | joinTimerExpiry | lineFree | lostArbitration | acknowledged | unacknowledged | bitError
  | frameArrives | bulletinTaken | idTaken | modeTaken | buildTaken | stopTaken | clearFault | clearEvents | resume | forget
  | save | slotCurrencyExpiry | staleTimerExpiry | publicationTimerExpiry | rateTimerExpiry | conversionComplete
  | inputHoldExpiry | driveEvaluation | driveStallTimerExpiry | thrustEvaluation | thrustOverpressureExpiry | holdOffExpiry
  | waitTimerExpiry | retractTimerExpiry | extendTimerExpiry | groutEvaluation | blockedTimerExpiry | groutOverpressureExpiry
  | screwEvaluation | screwStallTimerExpiry | feedbackTimerExpiry | periodBoundary | channelEdge | channelTimeoutExpiry
  | pulseWidthExpiry | stopInputActive | stopInputReleased | permitInputChange | memoryWriteComplete | activeTimeEnd =>
    exact hother rfl (by simp)

end Sys2Proof.Machine
end

section
/-! What the parts of a command leave alone: the configuration, the commands, the ring, the records and flags (O2, O14, O15). -/
namespace Sys2Proof.Machine
open Sys2Proof

variable {s t u v : State} {c : Instr}

/-! ## Faults raised and cleared -/

@[simp] theorem frame_faultAreaChanged (s : State) :
    (faultAreaChanged s).boot = s.boot ∧ (faultAreaChanged s).cfg = s.cfg ∧ (faultAreaChanged s).pins = s.pins ∧
      (faultAreaChanged s).now = s.now ∧ (faultAreaChanged s).pending = s.pending ∧ (faultAreaChanged s).port = s.port ∧
      (faultAreaChanged s).table = s.table ∧ (faultAreaChanged s).adv = s.adv ∧ (faultAreaChanged s).drive = s.drive ∧
      (faultAreaChanged s).thrust = s.thrust ∧ (faultAreaChanged s).shoe = s.shoe ∧ (faultAreaChanged s).grout = s.grout ∧
      (faultAreaChanged s).muck = s.muck ∧ (faultAreaChanged s).inputs = s.inputs ∧
      (faultAreaChanged s).converting = s.converting ∧ (faultAreaChanged s).channels = s.channels ∧
      (faultAreaChanged s).faults = s.faults ∧ (faultAreaChanged s).events = s.events := by
  unfold faultAreaChanged startFaultWrite
  split <;> simp

@[simp] theorem frame_enterFault (j : Job) (s : State) :
    (enterFault j s).boot = s.boot ∧ (enterFault j s).cfg = s.cfg ∧ (enterFault j s).pins = s.pins ∧
      (enterFault j s).now = s.now ∧ (enterFault j s).pending = s.pending ∧ (enterFault j s).table = s.table ∧
      (enterFault j s).adv = s.adv ∧ (enterFault j s).inputs = s.inputs ∧ (enterFault j s).converting = s.converting ∧
      (enterFault j s).faults = s.faults ∧ (enterFault j s).events = s.events ∧ (enterFault j s).mem = s.mem ∧
      (enterFault j s).port.backbone = s.port.backbone ∧ (enterFault j s).port.failures = s.port.failures ∧
      (enterFault j s).port.rejected = s.port.rejected ∧ (enterFault j s).port.queue = s.port.queue ∧
      (enterFault j s).port.onLine = s.port.onLine ∧ (enterFault j s).port.rx = s.port.rx ∧
      (enterFault j s).port.pubTimer = s.port.pubTimer ∧ (enterFault j s).port.seen = s.port.seen ∧
      (enterFault j s).port.statusDue = s.port.statusDue ∧
      (enterFault j s).muck.overdig = s.muck.overdig ∧ (enterFault j s).muck.underdig = s.muck.underdig := by
  cases j <;> simp [enterFault, faultShoe, faultThrust, faultGrout, faultDrive, faultScrew, examineScrew]

/-- A fault raised over an empty record (R160). -/
theorem raiseFault_of_none {j : Job} (h : s.faults.get j = none) (cause : FaultCause) (value : Int) :
    raiseFault j cause value s = refreshGates (enterFault j (faultAreaChanged
      { s with faults := s.faults.put j (some ⟨cause, value, s.adv.ring, s.faultStep j, 0⟩) })) := by
  unfold raiseFault
  rw [h]

/-- A fault raised over a held record moves that record's count and the memory port alone (R160). -/
theorem raiseFault_of_some {j : Job} {r : FaultRecord} (h : s.faults.get j = some r) (cause : FaultCause) (value : Int) :
    raiseFault j cause value s =
      if r.later < 255 then faultAreaChanged { s with faults := s.faults.put j (some { r with later := r.later + 1 }) } else s := by
  unfold raiseFault
  rw [h]

@[simp] theorem frame_raiseFault (j : Job) (cause : FaultCause) (value : Int) (s : State) :
    (raiseFault j cause value s).cfg = s.cfg ∧ (raiseFault j cause value s).pins = s.pins ∧
      (raiseFault j cause value s).now = s.now ∧ (raiseFault j cause value s).pending = s.pending ∧
      (raiseFault j cause value s).table = s.table ∧ (raiseFault j cause value s).adv = s.adv ∧
      (raiseFault j cause value s).inputs = s.inputs ∧ (raiseFault j cause value s).converting = s.converting ∧
      (raiseFault j cause value s).events = s.events ∧
      (raiseFault j cause value s).port.backbone = s.port.backbone ∧
      (raiseFault j cause value s).port.failures = s.port.failures ∧
      (raiseFault j cause value s).port.rejected = s.port.rejected ∧
      (raiseFault j cause value s).port.queue = s.port.queue ∧ (raiseFault j cause value s).port.onLine = s.port.onLine ∧
      (raiseFault j cause value s).port.rx = s.port.rx ∧ (raiseFault j cause value s).port.pubTimer = s.port.pubTimer ∧
      (raiseFault j cause value s).port.seen = s.port.seen ∧ (raiseFault j cause value s).port.statusDue = s.port.statusDue ∧
      (raiseFault j cause value s).muck.overdig = s.muck.overdig ∧
      (raiseFault j cause value s).muck.underdig = s.muck.underdig := by
  rcases h : s.faults.get j with _ | r
  · rw [raiseFault_of_none h]
    simp
  · rw [raiseFault_of_some h]
    split <;> simp

@[simp] theorem frame_leaveFault (j : Job) (s : State) :
    (leaveFault j s).boot = s.boot ∧ (leaveFault j s).cfg = s.cfg ∧ (leaveFault j s).pins = s.pins ∧
      (leaveFault j s).now = s.now ∧ (leaveFault j s).pending = s.pending ∧ (leaveFault j s).port = s.port ∧
      (leaveFault j s).table = s.table ∧ (leaveFault j s).adv = s.adv ∧ (leaveFault j s).inputs = s.inputs ∧
      (leaveFault j s).converting = s.converting ∧ (leaveFault j s).faults = s.faults ∧
      (leaveFault j s).events = s.events ∧ (leaveFault j s).mem = s.mem ∧
      (leaveFault j s).muck.overdig = s.muck.overdig ∧ (leaveFault j s).muck.underdig = s.muck.underdig := by
  cases j with
  | thrust =>
    dsimp only [leaveFault]
    unfold clearShoeFault enterExtending writeExtendDuties
    split <;> simp
  | station | grout | drive | screw => simp [leaveFault, examineBlocked, examineScrew]

/-- An accepted clear, a refusal, or an empty record left alone (R161). -/
theorem clearJobFault_cases (j : Job) (s : State) :
    clearJobFault j s = s ∨ clearJobFault j s = raiseEvent .clearRefused s ∨
      (∃ r, s.faults.get j = some r ∧ s.stillPresent j r.cause = false) ∧ clearJobFault j s = acceptClear j s := by
  unfold clearJobFault
  split
  · exact .inl rfl
  · split
    · exact .inr (.inl rfl)
    · rename_i r hr hp
      exact .inr (.inr ⟨⟨r, hr, by simpa using hp⟩, rfl⟩)

@[simp] theorem frame_clearJobFault (j : Job) (s : State) :
    (clearJobFault j s).cfg = s.cfg ∧ (clearJobFault j s).pins = s.pins ∧ (clearJobFault j s).now = s.now ∧
      (clearJobFault j s).pending = s.pending ∧ (clearJobFault j s).table = s.table ∧ (clearJobFault j s).adv = s.adv ∧
      (clearJobFault j s).events.stopped = s.events.stopped ∧
      (clearJobFault j s).port.backbone = s.port.backbone ∧ (clearJobFault j s).port.failures = s.port.failures ∧
      (clearJobFault j s).port.rejected = s.port.rejected ∧ (clearJobFault j s).port.queue = s.port.queue ∧
      (clearJobFault j s).port.rx = s.port.rx ∧
      (clearJobFault j s).muck.overdig = s.muck.overdig ∧ (clearJobFault j s).muck.underdig = s.muck.underdig := by
  rcases clearJobFault_cases j s with h | h | ⟨_, h⟩
  · simp [h]
  · simp [h]
  · simp [h, acceptClear]

/-! ## What no part of a command moves -/

@[simp] theorem frame_closeGrout (withCarry : Bool) (s : State) :
    (closeGrout withCarry s).boot = s.boot ∧
      (closeGrout withCarry s).cfg = s.cfg ∧
      (closeGrout withCarry s).pins = s.pins ∧
      (closeGrout withCarry s).now = s.now ∧
      (closeGrout withCarry s).pending = s.pending ∧
      (closeGrout withCarry s).port = s.port ∧
      (closeGrout withCarry s).table = s.table ∧
      (closeGrout withCarry s).adv = s.adv ∧
      (closeGrout withCarry s).drive = s.drive ∧
      (closeGrout withCarry s).thrust = s.thrust ∧
      (closeGrout withCarry s).shoe = s.shoe ∧
      (closeGrout withCarry s).inputs = s.inputs ∧
      (closeGrout withCarry s).converting = s.converting ∧
      (closeGrout withCarry s).faults = s.faults ∧
      (closeGrout withCarry s).events = s.events ∧
      (closeGrout withCarry s).mem = s.mem ∧
      (closeGrout withCarry s).muck = s.muck := by
  unfold closeGrout decideHoldRequest
  dsimp only
  split <;> simp

@[simp] theorem frame_closeMuck (s : State) :
    (closeMuck s).boot = s.boot ∧
      (closeMuck s).cfg = s.cfg ∧
      (closeMuck s).pins = s.pins ∧
      (closeMuck s).now = s.now ∧
      (closeMuck s).pending = s.pending ∧
      (closeMuck s).port = s.port ∧
      (closeMuck s).table = s.table ∧
      (closeMuck s).adv = s.adv ∧
      (closeMuck s).drive = s.drive ∧
      (closeMuck s).thrust = s.thrust ∧
      (closeMuck s).shoe = s.shoe ∧
      (closeMuck s).inputs = s.inputs ∧
      (closeMuck s).converting = s.converting ∧
      (closeMuck s).faults = s.faults ∧
      (closeMuck s).events = s.events ∧
      (closeMuck s).mem = s.mem ∧
      (closeMuck s).grout = s.grout ∧
      (closeMuck s).channels = s.channels := by
  unfold closeMuck
  split <;> simp

/-- Configuration, commands and station number stand; a phase is left for one that holds a configuration too. -/
structure Fixed (s t : State) : Prop where
  cfg      : t.cfg = s.cfg
  pending  : t.pending = s.pending
  station  : t.boot.station = s.boot.station
  accepted : t.boot.accepted = s.boot.accepted
  holds    : t.boot.phase.holdsConfig = s.boot.phase.holdsConfig
  reading  : t.boot.phase = .readingConfig → s.boot.phase = .readingConfig

theorem Fixed.of_eq (hc : t.cfg = s.cfg) (hp : t.pending = s.pending) (hb : t.boot = s.boot) : Fixed s t :=
  ⟨hc, hp, by rw [hb], by rw [hb], by rw [hb], by rw [hb]; exact id⟩

theorem Fixed.trans (h : Fixed s t) (k : Fixed t u) : Fixed s u :=
  ⟨k.cfg.trans h.cfg, k.pending.trans h.pending, k.station.trans h.station, k.accepted.trans h.accepted,
    k.holds.trans h.holds, fun hr => h.reading (k.reading hr)⟩

theorem Move.fixed (h : Move c s t) : Fixed s t := by
  cases h with
  | ends h => exact .of_eq (congrArg Kept.cfg h.kept) (congrArg Kept.pending h.kept) (congrArg Kept.boot h.kept)
  | duty | pulse | channel | input | balance | raise | raised | cleared | flags | closed => exact .of_eq (by simp) (by simp) (by simp)
  | converting | grout | thrust | adv | muck | drive | shoe | mem | table | world | stop | port | resumed | restored =>
    exact .of_eq rfl rfl rfl
  | yields => exact ⟨rfl, rfl, rfl, rfl, rfl, id⟩
  | waited =>
    unfold continueStart
    split
    · rename_i hp
      exact ⟨rfl, rfl, rfl, rfl, by simp [hp, BootPhase.holdsConfig], by simp⟩
    · exact .of_eq rfl rfl rfl
  | complete hc _ hp => exact ⟨rfl, rfl, rfl, rfl, by simp [hp, BootPhase.holdsConfig], by simp⟩

/-- What every part of a command carries on, a run of them carries on. -/
theorem Moves.carries {R : State → State → Prop} (refl : ∀ s, R s s) (trans : ∀ {s t u}, R s t → R t u → R s u)
    (step : ∀ s t, Move c s t → R s t) (h : Moves c s t) : R s t := by
  induction h with
  | refl => exact refl _
  | tail _ hm ih => exact trans ih (step _ _ hm)

theorem Moves.fixed (h : Moves c s t) : Fixed s t :=
  h.carries (fun _ => .of_eq rfl rfl rfl) (fun h k => h.trans k) fun _ _ hm => hm.fixed

@[simp] theorem frame_restPins (s : State) :
    (restPins s).boot = s.boot ∧ (restPins s).cfg = s.cfg ∧ (restPins s).pins = s.pins ∧ (restPins s).now = s.now ∧
      (restPins s).pending = s.pending ∧ (restPins s).port = s.port ∧ (restPins s).table = s.table ∧
      (restPins s).adv = s.adv ∧ (restPins s).drive = s.drive ∧ (restPins s).thrust = s.thrust ∧
      (restPins s).shoe = s.shoe ∧ (restPins s).grout = s.grout ∧ (restPins s).muck = s.muck ∧
      (restPins s).inputs = s.inputs ∧ (restPins s).converting = s.converting ∧ (restPins s).faults = s.faults ∧
      (restPins s).events = s.events ∧ (restPins s).mem = s.mem := by
  unfold restPins
  simp

@[simp] theorem frame_configAccepted (s : State) :
    (configAccepted s).boot = { s.boot with
        accepted := true, phase := if s.mem.inFlight.isSome then .waitingWrite else .readingRecord } ∧
      (configAccepted s).cfg = s.cfg ∧ (configAccepted s).pins = s.pins ∧ (configAccepted s).now = s.now ∧
      (configAccepted s).pending = s.pending ∧ (configAccepted s).port = s.port ∧
      (configAccepted s).table = { s.table with pRef := s.cfg.pRefFallback } ∧ (configAccepted s).adv = s.adv ∧
      (configAccepted s).drive = s.drive ∧ (configAccepted s).thrust = Thrust.start s.cfg ∧
      (configAccepted s).shoe = s.shoe ∧ (configAccepted s).grout = Grout.start s.cfg s.faults.grout.isSome ∧
      (configAccepted s).muck = Muck.start s.cfg s.faults.screw.isSome ∧ (configAccepted s).inputs = s.inputs ∧
      (configAccepted s).faults = s.faults ∧ (configAccepted s).events = s.events ∧ (configAccepted s).mem = s.mem := by
  simp [configAccepted, configStartValues]

end Sys2Proof.Machine

open Sys2Proof Sys2Proof.Machine

/-- Settles O2: every command runs in parts from its beginning, and no part touches the queue of commands. -/
theorem everyCommandCompletes : Obligations.EveryCommandCompletes := by
  intro c s
  have hpending {t : State} (h : exec c s = .next t) : t.pending = s.pending := by
    cases exec_runs h with
    | moved _ h => exact h.fixed.pending
    | started _ _ _ _ _ _ _ _ _ h => exact h.fixed.pending
    | restarted _ _ _ _ _ _ h => exact h.elim (·.fixed.pending) fun h => h.fixed.pending.trans (by simp [State.started, State.startValues])
    | image _ _ _ _ h => exact h.elim (·.fixed.pending) fun ⟨_, _, h⟩ => h.fixed.pending.trans (by simp)
  rcases exec_answers c s with ⟨e, he⟩ | he
  · exact ⟨_, he, hpending he⟩
  · exact ⟨_, he, hpending he⟩

end

section
/-! The rules over all commands: what only named commands move (O13, O14, O15) and the bounds of the port (O4). -/
namespace Sys2Proof.Machine
open Sys2Proof

variable {s t u v : State} {c : Instr}

/-! ## The ring number and the STOPPED latch -/

theorem Move.ring (hm : c ≠ .modeTaken) (hr : ∀ a, c ≠ .ringRecordReadComplete a) (h : Move c s t) :
    t.adv.ring = s.adv.ring := by
  cases h with
  | ends h => exact congrArg Kept.ring h.kept
  | adv _ a h => exact h
  | closed hc => exact absurd hc hm
  | restored hc => exact absurd hc.choose_spec (hr _)
  | duty | pulse | channel | input | balance | raise | raised | cleared | flags => simp
  | converting | grout | thrust | muck | drive | shoe | mem | table | world | stop | port | resumed | yields | complete => rfl
  | waited => unfold continueStart; split <;> rfl

theorem Move.stopped (hc : c ≠ .resume) (h : Move c s t) (hs : s.events.stopped = true) : t.events.stopped = true := by
  cases h with
  | ends h => exact (congrArg Kept.stopped h.kept).trans hs
  | resumed h => exact absurd h hc
  | duty | pulse | channel | input | balance | raise | raised | cleared | flags | closed => simpa using hs
  | converting | grout | thrust | adv | muck | drive | shoe | mem | table | world | port | yields | restored | complete => exact hs
  | stop => rfl
  | waited => unfold continueStart; split <;> exact hs

/-! ## Event flags -/

theorem EndMove.grows {w : State → OwnKind → Prop} (h : EndMove w s t) : Grows s t := by
  cases h with
  | aRing => exact grows_setARing _ s
  | reference | weight | causes | gate => exact .of_eq (by simp)
  | marked | own | queued | machineA => exact .of_eq rfl
  | alarm => exact ⟨0#16, by simp⟩

theorem grows_clearJobFault (j : Job) (s : State) : Grows s (clearJobFault j s) := by
  rcases clearJobFault_cases j s with h | h | ⟨_, h⟩
  · rw [h]
    exact .of_eq rfl
  · rw [h]
    exact grows_raiseEvent _ s
  · rw [h]
    exact .of_eq (by simp [acceptClear])

theorem Move.grows (hc : c ≠ .clearEvents) (h : Move c s t) : Grows s t := by
  cases h with
  | ends h => exact h.grows
  | flags h => exact absurd h hc
  | balance => exact grows_recomputeBalance s
  | raise _ e => exact grows_raiseEvent e s
  | cleared _ _ j => exact grows_clearJobFault j s
  | duty | pulse | channel | input | raised | closed => exact .of_eq (by simp)
  | converting | grout | thrust | adv | muck | drive | shoe | mem | table | world | port | yields | restored | complete =>
    exact .of_eq rfl
  | stop | resumed => exact ⟨0#16, by simp⟩
  | waited => unfold continueStart; split <;> exact .of_eq rfl

theorem Grows.from_flags (h : Grows u t) (hf : u.events.flags = s.events.flags) : Grows s t := by
  obtain ⟨m, hm⟩ := h
  exact ⟨m, hm.trans (by rw [hf])⟩

theorem Moves.grows (hc : c ≠ .clearEvents) (h : Moves c s t) : Grows s t :=
  h.carries (R := Grows) (fun _ => .of_eq rfl) (fun h k => h.trans k) fun _ _ hm => hm.grows hc

/-! ## Held records -/

/-- A record of `j` held in `s` is held in `t` with its first cause, counted on. -/
def KeepsRecord (j : Job) (s t : State) : Prop :=
  ∀ r, s.faults.get j = some r → ∃ n, r.later ≤ n ∧ t.faults.get j = some { r with later := n }

theorem KeepsRecord.of_eq {j : Job} (h : t.faults.get j = s.faults.get j) : KeepsRecord j s t :=
  fun r hr => ⟨r.later, le_rfl, h.trans hr⟩

theorem KeepsRecord.trans {j : Job} (h : KeepsRecord j s t) (k : KeepsRecord j t u) : KeepsRecord j s u := by
  intro r hr
  obtain ⟨n, hn, ht⟩ := h r hr
  obtain ⟨m, hm, hu⟩ := k _ ht
  exact ⟨m, hn.trans hm, hu⟩

theorem keepsRecord_raiseFault (j k : Job) (cause : FaultCause) (value : Int) (s : State) :
    KeepsRecord k s (raiseFault j cause value s) := by
  by_cases hk : j = k
  · subst hk
    rcases h : s.faults.get j with _ | r
    · intro r hr
      simp [h] at hr
    · rw [raiseFault_of_some h]
      split
      · intro r' hr'
        obtain rfl : r = r' := by simpa [h] using hr'
        exact ⟨r.later + 1, Nat.le_succ _, by simp⟩
      · exact .of_eq rfl
  · refine .of_eq ?_
    rcases h : s.faults.get j with _ | r
    · rw [raiseFault_of_none h]
      simp [FaultRecords.get_put_other _ hk]
    · rw [raiseFault_of_some h]
      split <;> simp [FaultRecords.get_put_other _ hk]

theorem Move.keepsRecord (j : Job) (hc : c ≠ .clearFault) (h : Move c s t) : KeepsRecord j s t := by
  cases h with
  | ends h => exact .of_eq (congrArg (fun k : Kept => k.faults.get j) h.kept)
  | raised _ k cause value => exact keepsRecord_raiseFault k j cause value s
  | cleared h => exact absurd h hc
  | duty | pulse | channel | input | raise | closed | balance | flags => exact .of_eq (by simp)
  | converting | grout | thrust | adv | muck | drive | shoe | mem | table | world | port | yields | restored | complete | stop
  | resumed => exact .of_eq rfl
  | waited => unfold continueStart; split <;> exact .of_eq rfl

theorem Moves.keepsRecord (j : Job) (hc : c ≠ .clearFault) (h : Moves c s t) : KeepsRecord j s t :=
  h.carries (R := KeepsRecord j) (fun _ => .of_eq rfl) (fun h k => h.trans k) fun _ _ hm => hm.keepsRecord j hc

theorem get_withoutStation {j : Job} (hj : j ≠ .station) (f : FaultRecords) :
    FaultRecords.get { f with station := none } j = f.get j := by
  cases j <;> simp_all [FaultRecords.get]

/-! ## The balance latches -/

/-- Within a ring a latch stands once set, and it and its flag are set together. -/
structure Latched (latch : Muck → Bool) (m : Word16) (s t : State) : Prop where
  stands : latch s.muck = true → latch t.muck = true
  flags  : Grows s t
  sets   : latch s.muck = false → latch t.muck = true → t.events.flags &&& m = m
  only   : t.events.flags &&& ~~~s.events.flags &&& m ≠ 0#16 → latch s.muck = false ∧ latch t.muck = true

variable {latch : Muck → Bool} {m : Word16}

theorem Grows.and_mask (h : Grows s t) (hs : s.events.flags &&& m = m) : t.events.flags &&& m = m := by
  obtain ⟨n, hn⟩ := h
  rw [hn, BitVec.and_comm, BitVec.and_or_distrib_left, BitVec.and_comm, hs]
  ext i
  simp
  tauto

theorem Latched.trans (h : Latched latch m s t) (k : Latched latch m t u) : Latched latch m s u where
  stands hs := k.stands (h.stands hs)
  flags := h.flags.trans k.flags
  sets hs hu := by
    cases ht : latch t.muck with
    | false => exact k.sets ht hu
    | true => exact k.flags.and_mask (h.sets hs ht)
  only hne := by
    have hsplit : t.events.flags &&& ~~~s.events.flags &&& m ≠ 0#16 ∨ u.events.flags &&& ~~~t.events.flags &&& m ≠ 0#16 := by
      by_contra hno
      push Not at hno
      refine hne (BitVec.eq_of_getLsbD_eq fun i hi => ?_)
      have h1 := congrArg (·.getLsbD i) hno.1
      have h2 := congrArg (·.getLsbD i) hno.2
      simp [hi] at h1 h2 ⊢
      grind
    rcases hsplit with ht | hu
    · exact ⟨(h.only ht).1, k.stands (h.only ht).2⟩
    · obtain ⟨ht, hu⟩ := k.only hu
      refine ⟨?_, hu⟩
      cases hs : latch s.muck with
      | false => rfl
      | true => rw [h.stands hs] at ht; cases ht

/-- The latch stands, and other flags alone are set. -/
theorem Latched.of_other {n : Word16} (hm : n &&& m = 0#16) (hf : t.events.flags = s.events.flags ||| n)
    (hl : latch t.muck = latch s.muck) : Latched latch m s t where
  stands hs := hl.trans hs
  flags := ⟨n, hf⟩
  sets hs ht := by rw [hl, hs] at ht; cases ht
  only hne := by
    refine absurd (BitVec.eq_of_getLsbD_eq fun i hi => ?_) hne
    have h1 := congrArg (·.getLsbD i) hm
    rw [hf]
    simp [hi] at h1 ⊢
    grind

theorem Latched.of_eq (hf : t.events.flags = s.events.flags) (hl : latch t.muck = latch s.muck) : Latched latch m s t :=
  .of_other (n := 0#16) (by simp) (by simp [hf]) hl

/-- The latch and its flag are set together. -/
theorem Latched.of_set (hs : latch s.muck = false) (ht : latch t.muck = true) (hf : t.events.flags = s.events.flags ||| m) :
    Latched latch m s t where
  stands h := by rw [hs] at h; cases h
  flags := ⟨m, hf⟩
  sets _ _ := by
    rw [hf]
    ext i
    simp
    tauto
  only _ := ⟨hs, ht⟩

/-- Both latches of R141. -/
def BalanceLatched (s t : State) : Prop :=
  Latched (·.overdig) EventFlag.overdig.mask s t ∧ Latched (·.underdig) EventFlag.underdig.mask s t

theorem BalanceLatched.trans (h : BalanceLatched s t) (k : BalanceLatched t u) : BalanceLatched s u :=
  ⟨h.1.trans k.1, h.2.trans k.2⟩

theorem BalanceLatched.after (k : BalanceLatched t u) (h : BalanceLatched s t) : BalanceLatched s u := h.trans k

theorem BalanceLatched.of_eq (hf : t.events.flags = s.events.flags) (ho : t.muck.overdig = s.muck.overdig)
    (hu : t.muck.underdig = s.muck.underdig) : BalanceLatched s t := ⟨.of_eq hf ho, .of_eq hf hu⟩

theorem balanceLatched_raiseEvent {e : EventFlag} (ho : e ≠ .overdig) (hu : e ≠ .underdig) (s : State) :
    BalanceLatched s (raiseEvent e s) := by
  have hmask : e.mask &&& EventFlag.overdig.mask = 0#16 ∧ e.mask &&& EventFlag.underdig.mask = 0#16 := by
    cases e with
    | overdig => exact absurd rfl ho
    | underdig => exact absurd rfl hu
    | peerLapsed | consoleLapsed | configMismatch | roleYielded | sectorClash | ringJump | ringBackward | claimExpired
    | greaseOverrun | chamberDegraded | recordLost | recordWriteFailed | rxOverrun | clearRefused => decide
  exact ⟨.of_other hmask.1 (by simp) (by simp), .of_other hmask.2 (by simp) (by simp)⟩

theorem balanceLatched_recomputeBalance (s : State) : BalanceLatched s (recomputeBalance s) := by
  have hover (s : State) : BalanceLatched s (examineOverdig s) := by
    unfold examineOverdig
    split
    · rename_i h
      exact ⟨.of_set h.2 rfl rfl, .of_other (n := EventFlag.overdig.mask) (by decide) rfl rfl⟩
    · exact .of_eq rfl rfl rfl
  have hunder (s : State) : BalanceLatched s (examineUnderdig s) := by
    unfold examineUnderdig
    split
    · rename_i h
      exact ⟨.of_other (n := EventFlag.underdig.mask) (by decide) rfl rfl, .of_set h.2 rfl rfl⟩
    · exact .of_eq rfl rfl rfl
  unfold recomputeBalance
  split
  · exact (hunder _).after ((hover _).after (.of_eq rfl rfl rfl))
  · exact .of_eq rfl rfl rfl

theorem balanceLatched_issueGrease (s : State) : BalanceLatched s (issueGrease s) := by
  have htrigger (s : State) : BalanceLatched s (greaseTrigger s) := by
    unfold greaseTrigger
    split
    · exact .of_eq (by simp) (by simp) (by simp)
    · exact .of_eq rfl rfl rfl
    · exact balanceLatched_raiseEvent (by simp) (by simp) s
  have htriggers (n : Nat) : ∀ s, BalanceLatched s (greaseTriggers n s) := by
    induction n with
    | zero => exact fun s => .of_eq rfl rfl rfl
    | succ n ih => exact fun s => (htrigger s).trans (ih _)
  unfold issueGrease
  dsimp only
  split
  · exact (htriggers _ _).after (.of_eq rfl rfl rfl)
  · exact .of_eq rfl rfl rfl

theorem balanceLatched_takeExpectedMass (m : Nat) (s : State) : BalanceLatched s (takeExpectedMass m s) := by
  unfold takeExpectedMass
  split
  · exact (balanceLatched_recomputeBalance _).after (.of_eq rfl rfl rfl)
  · exact .of_eq rfl rfl rfl

theorem balanceLatched_setARing (x : Nat) (s : State) : BalanceLatched s (setARing x s) := by
  unfold setARing
  dsimp only
  have hcount (u : State) : BalanceLatched u (countMilestone u) := .of_eq (by simp) (by simp) (by simp)
  have hvoid (n : Nat) (u : State) : BalanceLatched u (takeVoid n u) := .of_eq (by simp) (by simp) (by simp)
  exact (hcount _).after ((balanceLatched_issueGrease _).after ((balanceLatched_takeExpectedMass _ _).after
    ((hvoid _ _).after (.of_eq rfl rfl rfl))))

theorem EndMove.balanceLatched {w : State → OwnKind → Prop} (h : EndMove w s t) : BalanceLatched s t := by
  cases h with
  | aRing => exact balanceLatched_setARing _ s
  | reference | weight | causes | gate => exact .of_eq (by simp) (by simp) (by simp)
  | marked | own | queued | machineA | alarm => exact .of_eq rfl rfl rfl

/-- The ring number never falls, and within a ring the latches follow R141. -/
def RingLatched (s t : State) : Prop := s.adv.ring ≤ t.adv.ring ∧ (t.adv.ring = s.adv.ring → BalanceLatched s t)

theorem RingLatched.of_latched (hr : t.adv.ring = s.adv.ring) (h : BalanceLatched s t) : RingLatched s t :=
  ⟨hr.ge, fun _ => h⟩

theorem RingLatched.trans (h : RingLatched s t) (k : RingLatched t u) : RingLatched s u := by
  refine ⟨h.1.trans k.1, fun hr => ?_⟩
  have ht : t.adv.ring = s.adv.ring := le_antisymm (hr ▸ k.1) h.1
  exact (h.2 ht).trans (k.2 (hr.trans ht.symm))

theorem Move.ringLatched (hc : c ≠ .clearEvents) (hr : ∀ a, c ≠ .ringRecordReadComplete a) (h : Move c s t) :
    RingLatched s t := by
  cases h with
  | ends h => exact .of_latched (congrArg Kept.ring h.kept) h.balanceLatched
  | flags h => exact absurd h hc
  | restored h => exact absurd h.choose_spec (hr _)
  | closed _ _ w a h =>
    have hlt : s.adv.ring < (closeMuck (closeGrout w { s with adv := a })).adv.ring := by simpa using h
    exact ⟨hlt.le, fun he => absurd he hlt.ne'⟩
  | balance => exact .of_latched (by simp) (balanceLatched_recomputeBalance s)
  | raise _ e ho hu => exact .of_latched (by simp) (balanceLatched_raiseEvent ho hu s)
  | muck _ m ho hu => exact .of_latched rfl (.of_eq rfl ho hu)
  | adv _ a h => exact .of_latched h (.of_eq rfl rfl rfl)
  | cleared _ _ j =>
    refine .of_latched (by simp) ?_
    rcases clearJobFault_cases j s with h | h | ⟨_, h⟩
    · rw [h]
      exact .of_eq rfl rfl rfl
    · rw [h]
      exact balanceLatched_raiseEvent (by simp) (by simp) s
    · rw [h]
      exact .of_eq (by simp [acceptClear]) (by simp [acceptClear]) (by simp [acceptClear])
  | duty | pulse | channel | input | raised => exact .of_latched (by simp) (.of_eq (by simp) (by simp) (by simp))
  | converting | grout | thrust | drive | shoe | mem | table | world | port | yields | complete | stop | resumed =>
    exact .of_latched rfl (.of_eq rfl rfl rfl)
  | waited => unfold continueStart; split <;> exact .of_latched rfl (.of_eq rfl rfl rfl)

theorem Moves.ringLatched (hc : c ≠ .clearEvents) (hr : ∀ a, c ≠ .ringRecordReadComplete a) (h : Moves c s t) :
    RingLatched s t :=
  h.carries (R := RingLatched) (fun _ => .of_latched rfl (.of_eq rfl rfl rfl)) (fun h k => h.trans k)
    fun _ _ hm => hm.ringLatched hc hr

/-- CLEAR_EVENTS clears flags first; what follows sets latch and flag together. -/
theorem Latched.after_clear (hl : latch s.muck = latch u.muck) (hf : ∃ n, u.events.flags = s.events.flags &&& n)
    (h : Latched latch m u t) :
    (latch s.muck = true → latch t.muck = true) ∧
      (latch s.muck = false → latch t.muck = true → t.events.flags &&& m = m) ∧
      (t.events.flags &&& ~~~s.events.flags &&& m ≠ 0#16 → latch s.muck = false ∧ latch t.muck = true) := by
  rw [hl]
  refine ⟨h.stands, h.sets, fun hne => h.only fun hz => hne (BitVec.eq_of_getLsbD_eq fun i hi => ?_)⟩
  obtain ⟨n, hn⟩ := hf
  have hbit := congrArg (·.getLsbD i) hz
  rw [hn] at hbit
  simp [hi] at hbit ⊢
  tauto

/-- A command that starts nothing leaves the latches within a ring to R141, from a state that only lacks flags. -/
theorem exec_latched (h : exec c s = .next t) (hn : StartsNothing c s) (hr : t.adv.ring = s.adv.ring) :
    ∃ u, u.muck = s.muck ∧ (∃ n, u.events.flags = s.events.flags &&& n) ∧ BalanceLatched u t := by
  have hsame (h : BalanceLatched s t) : ∃ u, u.muck = s.muck ∧ (∃ n, u.events.flags = s.events.flags &&& n) ∧
      BalanceLatched u t := ⟨s, rfl, ⟨s.events.flags, by simp⟩, h⟩
  by_cases hce : c = .clearEvents
  · subst hce
    change execClearEvents s = .next t at h
    unfold execClearEvents at h
    split at h
    · rename_i b _
      obtain rfl := finish_of_answer h
      have hfin : Moves .bulletinTaken _ (finish (takeService b (clearFlags (BitVec.ofNat 16 b.arg)) s)) := moves_finish .refl
      have hl := (hfin.ringLatched (by simp) (by simp)).2 (by simp)
      refine ⟨_, ?_, ?_, hl⟩
      · unfold takeService
        split <;> simp
      · unfold takeService
        split
        · exact ⟨~~~(BitVec.ofNat 16 b.arg), by simp⟩
        · exact ⟨s.events.flags, by simp⟩
    · exact hsame (eq_of_noEffect h ▸ .of_eq rfl rfl rfl)
  · by_cases hrr : ∃ a, c = .ringRecordReadComplete a
    · obtain ⟨a, rfl⟩ := hrr
      change execRingRecordReadComplete a s = .next t at h
      unfold execRingRecordReadComplete at h
      rw [if_neg (hn.record a rfl)] at h
      exact hsame (eq_of_noEffect h ▸ .of_eq rfl rfl rfl)
    · push Not at hrr
      refine hsame ?_
      have hmoved (h : Moves c s t) : BalanceLatched s t := (h.ringLatched hce hrr).2 hr
      cases exec_runs h with
      | moved _ h => exact hmoved h
      | started _ _ _ _ _ _ _ hc =>
        have hs : startsStation c = true := by rcases hc with ⟨_, rfl⟩ | ⟨⟨_, rfl⟩ | rfl, _⟩ <;> rfl
        obtain ⟨p, rfl⟩ := hn.restart hs
        simp at hc
      | restarted straps p pins mem mem' hc _ =>
        subst hc
        exact hmoved (moves_execRestart (fun b hb => by
          obtain ⟨h1, h2⟩ := hn.target b hb rfl
          simp [State.targeted, h1, h2]) h)
      | image a hc hp => exact absurd hp (hn.image a hc)

end Sys2Proof.Machine

open Sys2Proof Sys2Proof.Machine

/-- Settles O15: of the parts of a command only a ring close and the restore move the ring number. -/
theorem ringNumberOnlyFollowsMode : Obligations.RingNumberOnlyFollowsMode := by
  intro c s t h hm hr hs
  have hmoves {u v : State} (k : Moves c u v) : v.adv.ring = u.adv.ring :=
    k.carries (R := fun s t => t.adv.ring = s.adv.ring) (fun _ => rfl) (fun h k => k.trans h) fun _ _ hk => hk.ring hm hr
  cases exec_runs h with
  | moved _ h => exact hmoves h
  | started kind phase straps faults flags pins mem hc =>
    rcases hc with ⟨_, rfl⟩ | ⟨⟨_, rfl⟩ | rfl, _⟩ <;> simp [startsStation] at hs
  | restarted _ _ _ _ _ hc =>
    subst hc
    simp [startsStation] at hs
  | image a hc hp mem h =>
    rcases h with h | ⟨_, _, h⟩
    · exact (hmoves h).trans rfl
    · exact (hmoves h).trans (by simp)

/-- Settles O14: a raised fault counts on in a held record, and nothing but a clear and a POWER_ON empties one. -/
theorem heldRecordsKeepFirstCause : Obligations.HeldRecordsKeepFirstCause := by
  intro c s t j r h hc hp hj hr
  cases exec_runs h with
  | moved _ h => exact h.keepsRecord j hc r hr
  | started kind phase straps faults flags pins mem hk _ h =>
    rcases hk with ⟨p, rfl⟩ | ⟨_, _, hf⟩
    · exact absurd rfl (hp p)
    · refine h.keepsRecord j hc r ?_
      simpa [State.started, State.startValues, hf, get_withoutStation hj] using hr
  | restarted straps p pins mem mem' _ h =>
    rcases h with h | h
    · exact h.keepsRecord j hc r (by simpa [configRejected, State.started, State.startValues, get_withoutStation hj] using hr)
    · exact h.keepsRecord j hc r (by simpa [State.started, State.startValues, get_withoutStation hj] using hr)
  | image a _ _ mem h =>
    rcases h with h | ⟨_, _, h⟩
    · exact h.keepsRecord j hc r hr
    · exact h.keepsRecord j hc r (by simpa using hr)

/-- Settles O13: each flag and latch by the parts that move it. -/
theorem flagsAndLatchesOnlyClearedByName : Obligations.FlagsAndLatchesOnlyClearedByName := by
  refine ⟨fun c s t h hc hp => Grows.and_eq ?_, fun c s t h hc hs hst => ?_, fun c s t h hn hr => ?_⟩
  · cases exec_runs h with
    | moved _ h => exact h.grows hc
    | started kind phase straps faults flags pins mem hk _ h =>
      rcases hk with ⟨p, rfl⟩ | ⟨_, hf, _⟩
      · exact absurd rfl (hp p)
      · exact (h.grows hc).from_flags (by simp [State.started, State.startValues, hf])
    | restarted straps p pins mem mem' _ h =>
      rcases h with h | h
      · exact (h.grows hc).from_flags rfl
      · exact (h.grows hc).from_flags (by simp [State.started, State.startValues])
    | image a _ _ mem h =>
      rcases h with h | ⟨_, _, h⟩
      · exact (h.grows hc).from_flags rfl
      · exact (h.grows hc).from_flags (by simp)
  · have hmoves {u v : State} (k : Moves c u v) : u.events.stopped = true → v.events.stopped = true :=
      k.carries (R := fun s t => s.events.stopped = true → t.events.stopped = true) (fun _ => id)
        (fun h k hs => k (h hs)) fun _ _ hk => hk.stopped hc
    cases exec_runs h with
    | moved _ h => exact hmoves h hst
    | started kind phase straps faults flags pins mem hk =>
      rcases hk with ⟨_, rfl⟩ | ⟨⟨_, rfl⟩ | rfl, _⟩ <;> simp [startsStation] at hs
    | restarted _ _ _ _ _ hk =>
      subst hk
      simp [startsStation] at hs
    | image a _ _ mem h =>
      rcases h with h | ⟨_, _, h⟩
      · exact hmoves (u := configRejected { s with mem := mem }) h hst
      · exact hmoves h (by simpa using hst)
  · obtain ⟨u, hu, hf, ho, hd⟩ := exec_latched h hn hr
    obtain ⟨h1, h2, h3⟩ := ho.after_clear (s := s) (by rw [hu]) hf
    obtain ⟨k1, k2, k3⟩ := hd.after_clear (s := s) (by rw [hu]) hf
    exact ⟨h1, k1, h2, k2, h3, k3⟩

end

section
/-! The invariants every step keeps: the bounds of the port (O4), the faulted jobs (O8) and the outputs (O5). -/
namespace Sys2Proof.Machine
open Sys2Proof

variable {s t u v : State} {c : Instr}

/-- A step keeps what every beginning of a command and every part of it keeps. -/
theorem step_keeps {P : State → Prop} (hp : ∀ s n q, P s → P { s with now := n, pending := q })
    (hexec : ∀ c s t, P s → exec c s = .next t → P t) (hs : P s) (h : step s = .next t) : P t := by
  unfold step at h
  split at h
  · obtain rfl := Host.Outcome.next.inj h
    exact hp s _ s.pending hs
  · exact hexec _ _ _ (hp s s.now _ hs) h

theorem Moves.keeps {P : State → Prop} (h : Moves c s t) (step : ∀ s t, Move c s t → P s → P t) (hs : P s) : P t := by
  induction h with
  | refl => exact hs
  | tail _ hm ih => exact step _ _ hm ih

/-- A command keeps what every part keeps, what every start meets, and what both answers to an image keep. -/
theorem exec_keeps {P : State → Prop} (move : ∀ c s t, Move c s t → P s → P t)
    (start : ∀ (s : State) kind phase straps faults flags pins mem mem', phase = .held ∨ phase = .readingConfig →
      P { s.started kind phase straps faults flags pins mem with mem := mem' })
    (rejected : ∀ s mem, s.boot.phase = .readingConfig → P s → P (configRejected { s with mem := mem }))
    (accepted : ∀ (s : State) mem cfg digest, s.boot.phase = .readingConfig → P s →
      P (configAccepted { s with mem := mem, cfg := cfg, boot := { s.boot with digest := digest } }))
    (hs : P s) (h : exec c s = .next t) : P t := by
  have hmoves {u v : State} (h : Moves c u v) (hu : P u) : P v := h.keeps (move c) hu
  cases exec_runs h with
  | moved _ h => exact hmoves h hs
  | started kind phase straps faults flags pins mem _ hp h =>
    exact hmoves h (start s kind phase straps faults flags pins mem mem (hp.imp_right fun h => h.1))
  | restarted straps p pins mem mem' _ h =>
    have hstart := start s .restart .readingConfig straps { s.faults with station := none } s.events.flags pins mem' mem
      (.inr rfl)
    rcases h with h | h
    · exact hmoves h (rejected { s.started _ _ _ _ _ _ _ with mem := mem } mem rfl hstart)
    · exact hmoves h (accepted { s.started _ _ _ _ _ _ _ with mem := mem } mem s.cfg s.boot.digest rfl hstart)
  | image _ _ hp mem h =>
    rcases h with h | ⟨cfg, digest, h⟩
    · exact hmoves h (rejected s mem hp hs)
    · exact hmoves h (accepted s mem cfg digest hp hs)

/-! ## The port (O4) -/

theorem PortBounded.congr (h : PortBounded s) (hq : t.port.queue = s.port.queue) (hr : t.port.rx = s.port.rx)
    (hf : t.port.failures = s.port.failures) (hj : t.port.rejected = s.port.rejected)
    (hb : t.boot.station = s.boot.station) : PortBounded t where
  ascending := hq ▸ h.ascending
  ownKinds := hq ▸ h.ownKinds
  buffer := hr ▸ h.buffer
  foreign := hr ▸ hb ▸ h.foreign
  failures := hf ▸ h.failures
  rejected := hj ▸ h.rejected

theorem EndMove.portBounded {w : State → OwnKind → Prop} (h : EndMove w s t) (hs : PortBounded s) : PortBounded t := by
  cases h with
  | queued k hk hb u hu => exact hs.enqueueKind (content_code u k)
  | marked | own | machineA | alarm => exact hs.congr rfl rfl rfl rfl rfl
  | reference | aRing | weight | causes | gate => exact hs.congr (by simp) (by simp) (by simp) (by simp) (by simp)

theorem Move.portBounded (h : Move c s t) (hs : PortBounded s) : PortBounded t := by
  have hst := h.fixed.station
  cases h with
  | ends h => exact h.portBounded hs
  | port _ p hb hp => exact hp hs
  | duty | pulse | channel | input | balance | raise | raised | cleared | flags | closed =>
    exact hs.congr (by simp) (by simp) (by simp) (by simp) hst
  | converting | grout | thrust | adv | muck | drive | shoe | mem | table | world | stop | resumed | restored | yields
  | complete => exact hs.congr rfl rfl rfl rfl rfl
  | waited => unfold continueStart; split <;> exact hs.congr rfl rfl rfl rfl rfl

theorem exec_portBounded (hs : PortBounded s) (h : exec c s = .next t) : PortBounded t := by
  refine exec_keeps (fun _ _ _ hm => hm.portBounded) (fun s kind phase straps faults flags pins mem mem' _ => ?_)
    (fun s mem _ hs => ?_) (fun s mem cfg digest _ hs => ?_) hs h
  · constructor <;> simp [State.started, State.startValues, Port.start]
  · exact hs.congr rfl rfl rfl rfl rfl
  · exact hs.congr (by simp) (by simp) (by simp) (by simp) (by simp)

/-! ## The faulted jobs (O8) -/

theorem FaultedJobsStand.congr (h : FaultedJobsStand s) (hf : t.faults = s.faults) (hx : t.shoe = s.shoe)
    (hd : t.drive = s.drive) : FaultedJobsStand t where
  shoe := hf ▸ hx ▸ h.shoe
  drive := hf ▸ hd ▸ h.drive
  command := hd ▸ h.command

/-- What the entry of a job into FAULT makes of the shoe (R105). -/
@[simp] theorem shoe_enterFault (j : Job) (s : State) : (enterFault j s).shoe =
    if j = .thrust then { s.shoe with
      state := .clear, wait := .none, decisionPending := false, holdOff := .stopped, waitTimer := .stopped
      retract := .stopped, extend := .stopped }
    else s.shoe := by
  cases j <;> simp [enterFault, faultShoe, faultThrust, faultGrout, faultDrive, faultScrew, examineScrew]

/-- What the entry of a job into FAULT makes of the drive (R71). -/
@[simp] theorem drive_enterFault (j : Job) (s : State) : (enterFault j s).drive =
    if j = .drive then { s.drive with
      state := .fault, nSet := 0, trim := 0, cmd := 0, stallPresent := false, stallTimer := .stopped }
    else s.drive := by
  cases j <;> simp [enterFault, faultShoe, faultThrust, faultGrout, faultDrive, faultScrew, examineScrew]

theorem faultedJobsStand_raiseFault (j : Job) (cause : FaultCause) (value : Int) (hs : FaultedJobsStand s) :
    FaultedJobsStand (raiseFault j cause value s) := by
  obtain ⟨hshoe, hdrive, hcommand⟩ := hs
  rcases h : s.faults.get j with _ | r
  · rw [raiseFault_of_none h]
    cases j <;> constructor <;> simp_all [FaultRecords.put, FaultRecords.get]
  · rw [raiseFault_of_some h]
    split
    · cases j <;> constructor <;> simp_all [FaultRecords.put, FaultRecords.get]
    · exact ⟨hshoe, hdrive, hcommand⟩

theorem faultedJobsStand_acceptClear (j : Job) (hs : FaultedJobsStand s) : FaultedJobsStand (acceptClear j s) := by
  obtain ⟨hshoe, hdrive, hcommand⟩ := hs
  unfold acceptClear
  cases j with
  | station | grout | screw =>
    constructor <;> simp_all [leaveFault, FaultRecords.put, examineBlocked, examineScrew]
  | drive => constructor <;> simp_all [leaveFault, FaultRecords.put]
  | thrust =>
    constructor <;>
      simp_all [leaveFault, FaultRecords.put, clearShoeFault, enterExtending, writeExtendDuties, apply_ite State.drive,
        apply_ite State.faults]

theorem Move.faultedJobsStand (h : Move c s t) (hs : FaultedJobsStand s) : FaultedJobsStand t := by
  cases h with
  | ends h => exact hs.congr (congrArg Kept.faults h.kept) (congrArg Kept.shoe h.kept) (congrArg Kept.drive h.kept)
  | raised _ j cause value => exact faultedJobsStand_raiseFault j cause value hs
  | cleared _ _ j =>
    rcases clearJobFault_cases j s with h | h | ⟨_, h⟩
    · rwa [h]
    · rw [h]
      exact hs.congr (by simp) (by simp) (by simp)
    · rw [h]
      exact faultedJobsStand_acceptClear j hs
  | drive _ d hd =>
    obtain ⟨hiff, hz⟩ := hd hs
    exact ⟨hs.shoe, hiff.trans hs.drive, hz⟩
  | shoe _ x hx => exact ⟨fun hf => hx hf (hs.shoe hf).1 (hs.shoe hf).2, hs.drive, hs.command⟩
  | duty | pulse | channel | input | balance | raise | flags | closed => exact hs.congr (by simp) (by simp) (by simp)
  | converting | grout | thrust | adv | muck | mem | table | world | stop | resumed | restored | yields | complete | port =>
    exact hs.congr rfl rfl rfl
  | waited => unfold continueStart; split <;> exact hs.congr rfl rfl rfl

theorem exec_faultedJobsStand (hs : FaultedJobsStand s) (h : exec c s = .next t) : FaultedJobsStand t := by
  refine exec_keeps (fun _ _ _ hm => hm.faultedJobsStand) (fun s kind phase straps faults flags pins mem mem' _ => ?_)
    (fun s mem _ hs => ?_) (fun s mem cfg digest _ hs => ?_) hs h
  · constructor <;> cases hd : faults.drive <;> cases ht : faults.thrust <;>
      simp [State.started, State.startValues, Shoe.start, Drive.start, hd, ht]
  · exact hs.congr rfl rfl rfl
  · exact hs.congr (by simp) (by simp) (by simp)

end Sys2Proof.Machine

open Sys2Proof Sys2Proof.Machine

/-- Settles O4: every part of a command keeps the queue's order and the bounds of buffer and counts. -/
theorem portBoundsKept : Obligations.PortBoundsKept := fun _ _ =>
  step_keeps (fun _ _ _ h => h.congr rfl rfl rfl rfl rfl) fun _ _ _ => exec_portBounded

/-- Settles O8: only a raised fault fills a record, and it puts the job in FAULT; only an accepted clear takes it out. -/
theorem faultedJobsStayFaulted : Obligations.FaultedJobsStayFaulted := fun _ _ =>
  step_keeps (fun _ _ _ h => h.congr rfl rfl rfl) fun _ _ _ => exec_faultedJobsStand

end

section
/-! Every gate stands as its causes say and every shut channel at rest (O5). -/
namespace Sys2Proof.Machine
open Sys2Proof

variable {s t u v : State} {c : Instr}

/-- What of `OutputsGuarded` stands inside a command too, where a cause may have changed and its gate not yet. -/
structure OutputsStand (s : State) : Prop where
  booted  : s.boot.accepted = s.boot.phase.holdsConfig
  offline : s.boot.accepted = false → s.port.backbone = .offline
  opened  : ∀ i : Fin 8, (s.ch i).gate = true → s.boot.accepted = true ∧ (s.chCfg i).function.mode.gated = true
  rest    : ∀ i : Fin 8, (s.ch i).gate = false → (s.ch i).periodTimer.on = false ∧ (s.ch i).activeTimer.on = false ∧
    (s.ch i).high = (s.boot.accepted && restLevel (s.chCfg i))

theorem accepted_of_gateDue {i : Fin 8} (hoff : s.boot.accepted = false → s.port.backbone = .offline)
    (h : s.gateDue i = true) : s.boot.accepted = true := by
  by_contra hf
  have hb := hoff (by simpa using hf)
  unfold State.gateDue at h
  split at h
  · simp [State.jobsRun, hb] at h
  · cases h

theorem OutputsGuarded.stand (h : OutputsGuarded s) : OutputsStand s where
  booted := h.booted
  offline := h.offline
  opened i hi := by
    have hdue : s.gateDue i = true := (h.gates i).symm.trans hi
    exact ⟨accepted_of_gateDue h.offline hdue, gated_of_gateDue hdue⟩
  rest i hi := ⟨(h.periods i hi).1, (h.periods i hi).2, h.pins i hi⟩

/-- No gate moves, and the start and the configuration stand. -/
theorem OutputsStand.of_same (h : OutputsStand s) (hf : Fixed s t)
    (hb : s.boot.accepted = false → t.port.backbone = .offline) (ho : SameOutputs s t) : OutputsStand t where
  booted := hf.accepted.trans (h.booted.trans hf.holds.symm)
  offline ha := hb (hf.accepted ▸ ha)
  opened i hi := by
    have hcfg : t.chCfg i = s.chCfg i := by simp [State.chCfg, hf.cfg]
    rw [hf.accepted, hcfg]
    exact h.opened i ((ho i).gate ▸ hi)
  rest i hi := by
    have hcfg : t.chCfg i = s.chCfg i := by simp [State.chCfg, hf.cfg]
    have hg : (s.ch i).gate = false := (ho i).gate ▸ hi
    obtain ⟨hp, ha, hh⟩ := h.rest i hg
    obtain ⟨kp, ka, kh⟩ := (ho i).rest hg hp ha
    exact ⟨kp, ka, by rw [kh, hh, hf.accepted, hcfg]⟩

theorem OutputsStand.congr (h : OutputsStand s) (hc : t.cfg = s.cfg) (hb : t.boot = s.boot)
    (hp : t.port.backbone = s.port.backbone) (ho : t.channels = s.channels) : OutputsStand t where
  booted := by rw [hb]; exact h.booted
  offline := by rw [hb, hp]; exact h.offline
  opened i := by
    have : t.ch i = s.ch i := by simp [State.ch, ho]
    simpa [this, State.chCfg, hc, hb] using h.opened i
  rest i := by
    have : t.ch i = s.ch i := by simp [State.ch, ho]
    simpa [this, State.chCfg, hc, hb] using h.rest i

theorem channels_gateChanged (f : ChFunction) (s : State) : (gateChanged f s).channels = s.channels := by
  cases f <;> rfl

theorem outputsStand_putChannel {i : Fin 8} {r : ChannelRec} (h : OutputsStand s)
    (hopen : r.gate = true → s.boot.accepted = true ∧ (s.chCfg i).function.mode.gated = true)
    (hrest : r.gate = false → r.periodTimer.on = false ∧ r.activeTimer.on = false ∧
      r.high = (s.boot.accepted && restLevel (s.chCfg i))) : OutputsStand (putChannel i r s) where
  booted := h.booted
  offline := h.offline
  opened j hj := by
    rw [ch_putChannel] at hj
    by_cases hij : i = j
    · subst hij
      simpa using hopen (by simpa using hj)
    · simpa using h.opened j (by simpa [hij] using hj)
  rest j hj := by
    rw [ch_putChannel] at hj ⊢
    by_cases hij : i = j
    · subst hij
      simpa using hrest (by simpa using hj)
    · simpa [hij] using h.rest j (by simpa [hij] using hj)

theorem outputsStand_refreshGate (i : Fin 8) (h : OutputsStand s) : OutputsStand (refreshGate i s) := by
  unfold refreshGate
  split
  · exact h
  · rename_i hne
    split
    · rename_i hdue
      have hgated := gated_of_gateDue hdue
      have hopen : ((s.ch i).opened (s.chCfg i) s.now).gate = true := opened_gate hgated
      exact (outputsStand_putChannel h (fun _ => ⟨accepted_of_gateDue h.offline hdue, hgated⟩)
        (fun hf => by rw [hopen] at hf; cases hf)).congr (by simp) (by simp) (by simp) (channels_gateChanged _ _)
    · rename_i hdue
      have hgate : (s.ch i).gate = true := by simp_all
      obtain ⟨hacc, hgated⟩ := h.opened i hgate
      refine (outputsStand_putChannel h (fun hf => by cases hf) (fun _ => ⟨rfl, rfl, ?_⟩)).congr (by simp) (by simp) (by simp)
        (channels_gateChanged _ _)
      simp [ChannelRec.shut, hacc, restLevel, hgated]

theorem outputsStand_refreshGates (h : OutputsStand s) : OutputsStand (refreshGates s) :=
  outputsStand_refreshGate 7 (outputsStand_refreshGate 6 (outputsStand_refreshGate 5 (outputsStand_refreshGate 4
    (outputsStand_refreshGate 3 (outputsStand_refreshGate 2 (outputsStand_refreshGate 1 (outputsStand_refreshGate 0 h)))))))

theorem sameOutputs_enterFault (j : Job) (s : State) : SameOutputs s (enterFault j s) := by
  cases j with
  | station => exact .of_eq rfl
  | thrust =>
    exact SameOutputs.after (.of_eq rfl) ((sameOutputs_writeDuty _ _ _).after ((sameOutputs_writeDuty _ _ _).after (.of_eq rfl)))
  | grout | drive => exact (sameOutputs_writeDuty _ _ _).after (.of_eq rfl)
  | screw => exact SameOutputs.after (.of_eq rfl) ((sameOutputs_writeDuty _ _ _).after (.of_eq rfl))

theorem outputsStand_raiseFault (j : Job) (cause : FaultCause) (value : Int) (h : OutputsStand s) :
    OutputsStand (raiseFault j cause value s) := by
  rcases hr : s.faults.get j with _ | r
  · rw [raiseFault_of_none hr]
    refine outputsStand_refreshGates (OutputsStand.of_same (s := faultAreaChanged _) (h.congr (by simp) (by simp) (by simp) (by simp))
      (.of_eq (by simp) (by simp) (by simp)) ?_ (sameOutputs_enterFault _ _))
    simpa using h.offline
  · rw [raiseFault_of_some hr]
    split
    · exact h.congr (by simp) (by simp) (by simp) (by simp)
    · exact h

theorem outputsStand_leaveFault (j : Job) (h : OutputsStand s) : OutputsStand (leaveFault j s) := by
  cases j with
  | station => exact h
  | thrust =>
    dsimp only [leaveFault]
    unfold clearShoeFault enterExtending writeExtendDuties
    split
    · refine outputsStand_refreshGates (h.of_same (.of_eq (by simp) (by simp) (by simp)) (by simpa using h.offline) ?_)
      exact (sameOutputs_writeDuty _ _ _).after ((sameOutputs_writeDuty _ _ _).after (.of_eq rfl))
    · exact h
  | grout | drive | screw => exact h.congr rfl rfl rfl rfl

theorem Move.outputsStand (hm : Move c s t) (h : OutputsStand s) : OutputsStand t := by
  have hfixed := hm.fixed
  cases hm with
  | ends hm =>
    rcases hm.outputs with ⟨i, rfl⟩ | ho
    · exact outputsStand_refreshGate i h
    · exact h.of_same hfixed (fun hf => (congrArg Kept.backbone hm.kept).trans (h.offline hf)) ho
  | duty _ f d => exact h.of_same hfixed (by simpa using h.offline) (sameOutputs_writeDuty _ _ _)
  | pulse _ on => exact h.of_same hfixed (by simpa using h.offline) (sameOutputs_setPulseFlag _ _)
  | channel _ i r hr => exact h.of_same hfixed (by simpa using h.offline) (sameOutputs_putChannel hr)
  | raised _ j cause value => exact outputsStand_raiseFault j cause value h
  | cleared _ _ j =>
    rcases clearJobFault_cases j s with hj | hj | ⟨_, hj⟩
    · rwa [hj]
    · rw [hj]
      exact h.congr (by simp) (by simp) (by simp) (by simp)
    · rw [hj]
      unfold acceptClear
      exact outputsStand_refreshGates (outputsStand_leaveFault j (h.congr (by simp) (by simp) (by simp) (by simp)))
  | port _ p hb => exact h.of_same hfixed (fun hf => hb h.booted hf (h.offline hf)) (.of_eq rfl)
  | closed _ _ w a =>
    have hmuck (v : State) : SameOutputs v (closeMuck v) := .of_eq (by simp)
    refine h.of_same hfixed (by simpa using h.offline) ((hmuck _).after ?_)
    unfold closeGrout decideHoldRequest
    dsimp only
    split
    · exact (sameOutputs_decideLine _).after (.of_eq rfl)
    · exact .of_eq rfl
  | balance => exact h.of_same hfixed (by simpa using h.offline) (.of_eq (by simp))
  | input | raise | flags => exact h.of_same hfixed (by simpa using h.offline) (.of_eq (by simp))
  | converting | grout | thrust | adv | muck | drive | shoe | mem | table | world | stop | resumed | restored | yields
  | complete => exact h.of_same hfixed h.offline (.of_eq rfl)
  | waited =>
    refine h.of_same hfixed ?_ (.of_eq ?_)
    · unfold continueStart
      split <;> exact h.offline
    · unfold continueStart
      split <;> rfl

/-- The pins from the acceptance on, a channel at a time (R151). -/
theorem ch_restPins (i : Fin 8) (s : State) : (restPins s).ch i = { s.ch i with high := restLevel (s.chCfg i) } := by
  unfold restPins
  fin_cases i <;> simp [ch_putChannel]

theorem outputsStand_configAccepted (hb : s.boot.phase = .readingConfig) {mem : MemPort} {cfg : StationConfig} {digest : Word16}
    (h : OutputsStand s) :
    OutputsStand (configAccepted { s with mem := mem, cfg := cfg, boot := { s.boot with digest := digest } }) := by
  have hacc : s.boot.accepted = false := by rw [h.booted, hb]; rfl
  have hshut (i : Fin 8) : (s.ch i).gate = false := by
    by_contra hg
    have := (h.opened i (by simpa using hg)).1
    rw [hacc] at this
    cases this
  have hch (i : Fin 8) : (configAccepted { s with mem := mem, cfg := cfg, boot := { s.boot with digest := digest } }).ch i =
      { s.ch i with high := restLevel cfg.channels[i] } := ch_restPins i _
  refine ⟨?_, by simp, fun i hi => ?_, fun i _ => ?_⟩
  · simp only [frame_configAccepted]
    split <;> rfl
  · rw [hch] at hi
    simp [hshut] at hi
  · rw [hch]
    obtain ⟨hp, ha, _⟩ := h.rest i (hshut i)
    exact ⟨hp, ha, by simp [State.chCfg]⟩

theorem exec_outputsStand (hs : OutputsStand s) (h : exec c s = .next t) : OutputsStand t := by
  refine exec_keeps (fun _ _ _ hm => hm.outputsStand) (fun s kind phase straps faults flags pins mem mem' hp => ?_)
    (fun s mem hp hs => ?_) (fun s mem cfg digest hp hs => outputsStand_configAccepted hp hs) hs h
  · refine ⟨?_, fun _ => rfl, fun i hi => ?_, fun i _ => ?_⟩
    · rcases hp with rfl | rfl <;> rfl
    · simp [State.started, State.startValues, State.ch, ChannelRec.start] at hi
    · simp [State.started, State.startValues, State.ch, ChannelRec.start, Timer.on]
  · have hacc : s.boot.accepted = false := by rw [hs.booted, hp]; rfl
    refine ⟨rfl, fun _ => hs.offline hacc, fun i hi => ?_, fun i hi => ?_⟩
    · have := (hs.opened i hi).1
      rw [hacc] at this
      cases this
    · obtain ⟨hp, ha, hh⟩ := hs.rest i hi
      exact ⟨hp, ha, hh.trans (by rw [hacc]; rfl)⟩

/-- The gates stand as their causes say after every answer, at the latest as the event ends. -/
theorem exec_gates (hs : OutputsGuarded s) (h : exec c s = .next t) (i : Fin 8) : (t.ch i).gate = t.gateDue i := by
  rcases exec_answers c s with ⟨e, he⟩ | he
  · rw [finish_of_answer (he.symm.trans h)]
    exact gate_finish i e
  · rw [eq_of_noEffect (he.symm.trans h)]
    exact hs.gates i

theorem exec_outputsGuarded (hs : OutputsGuarded s) (h : exec c s = .next t) : OutputsGuarded t := by
  have hstand := exec_outputsStand hs.stand h
  exact ⟨hstand.booted, hstand.offline, exec_gates hs h, fun i hi => ⟨(hstand.rest i hi).1, (hstand.rest i hi).2.1⟩,
    fun i hi => (hstand.rest i hi).2.2⟩

end Sys2Proof.Machine

open Sys2Proof Sys2Proof.Machine

/-- Settles O5: only a gate's own re-evaluation moves a gate, and it shuts a channel at rest. -/
theorem outputsStayGuarded : Obligations.OutputsStayGuarded := fun _ _ =>
  step_keeps (fun _ _ _ h => ⟨h.booted, h.offline, h.gates, h.periods, h.pins⟩) fun _ _ _ => exec_outputsGuarded

end

section
/-! A loaded configuration is in order, and stays until an image is read again (O19). -/
namespace Sys2Proof.Machine
open Sys2Proof

variable {s t u v : State} {c : Instr}

/-! ## The load (R169, R170) -/

theorem clampNat_mem {lo hi x : Nat} (h : lo ≤ hi) : lo ≤ clampNat lo hi x ∧ clampNat lo hi x ≤ hi := by
  unfold clampNat
  split
  · exact ⟨le_rfl, h⟩
  · split
    · exact ⟨h, le_rfl⟩
    · omega

theorem clampToNat_mem {lo hi : Nat} {x : Int} (h : lo ≤ hi) : lo ≤ clampToNat lo hi x ∧ clampToNat lo hi x ≤ hi := by
  unfold clampToNat clampInt
  split
  · omega
  · split <;> omega

theorem constant_mem (ws : List Int) (k : Nat) {lo hi : Nat} (h : lo ≤ hi) :
    lo ≤ constant ws k lo hi ∧ constant ws k lo hi ≤ hi := clampToNat_mem h

/-- What a good image is loaded as, and the tests it has passed that are spoken of here (R170). -/
theorem loadImage_eq_some {station : Nat} {image : List Byte} {c : StationConfig} (h : loadImage station image = some c) :
    c = (clampedConfig (image.getD 2 0).toNat (image.getD 3 0).toNat (imageWords (image.drop 4))).ordered ∧
      station ≠ 0 ∧ c.sectorGood = true ∧ c.channelMapGood = true := by
  unfold loadImage at h
  dsimp only at h
  split at h
  · rename_i hgood
    obtain rfl := Option.some.inj h
    simp only [Bool.and_eq_true, bne_iff_ne] at hgood
    exact ⟨rfl, hgood.1.1.1.1.2, hgood.1.1.1.2, hgood.2⟩
  · cases h

theorem rawLimits_inputCfgAt (ws : List Int) (i : Nat) :
    (inputCfgAt ws i).rawMin ≤ (inputCfgAt ws i).rawMax ∧ (inputCfgAt ws i).rawMax ≤ 4095 :=
  clampNat_mem (constant_mem ws _ (by omega)).2

/-- The effective stroke of constants in their ranges (R110). -/
theorem effectiveStroke_mem {c : StationConfig} (hv : 100 ≤ c.strokeVolume ∧ c.strokeVolume ≤ 20000)
    (he : 500 ≤ c.efficiency ∧ c.efficiency ≤ 1000) : 50 ≤ c.effectiveStroke ∧ c.effectiveStroke ≤ 20000 := by
  have hlo : 100 * 500 ≤ c.strokeVolume * c.efficiency := Nat.mul_le_mul hv.1 he.1
  have hhi : c.strokeVolume * c.efficiency ≤ 20000 * 1000 := Nat.mul_le_mul hv.2 he.2
  unfold StationConfig.effectiveStroke roundHalfUp
  omega

theorem forceCeiling_le {c : StationConfig} (hp : c.pCeiling ≤ 4000) (ha : c.pistonArea ≤ 10000) : c.forceCeiling ≤ 40000 := by
  have : c.pCeiling * c.pistonArea ≤ 4000 * 10000 := Nat.mul_le_mul hp ha
  unfold StationConfig.forceCeiling
  omega

theorem sector_of_sectorGood {c : StationConfig} (hs : ∀ k, c.sector = some k → k < c.sectors) (h : c.sectorGood = true)
    (hr : c.roles.thrust ∨ c.roles.grout) : ∃ k, c.sector = some k ∧ k < c.sectors := by
  unfold StationConfig.sectorGood at h
  rcases hk : c.sector with _ | k
  · rcases hr with hr | hr <;> simp [hk, hr] at h
  · exact ⟨k, rfl, hs k hk⟩

theorem watchedPins_nodup {c : StationConfig} (h : c.channelMapGood = true) : c.watchedPins.Nodup := by
  unfold StationConfig.channelMapGood at h
  simp only [Bool.and_eq_true, decide_eq_true_eq] at h
  exact h.2

theorem loaded_in_order {station : Nat} {image : List Byte} {c : StationConfig} (h : loadImage station image = some c) :
    let ws := imageWords (image.drop 4)
    c.pFloor = min (constant ws 39 0 4000) c.pCeiling ∧
    c.pHoldMin = clampNat c.pFloor c.pCeiling (constant ws 40 0 4000) ∧ c.pFloor ≤ c.pHoldMin ∧ c.pHoldMin ≤ c.pCeiling ∧
    c.pShoe = clampNat c.pFloor c.pCeiling (constant ws 42 0 4000) ∧ c.pFloor ≤ c.pShoe ∧ c.pShoe ≤ c.pCeiling ∧
    c.forceCeiling = c.pCeiling * c.pistonArea / 1000 ∧ c.forceCeiling ≤ 40000 ∧
    c.deltaLo = constant ws 62 0 10000 ∧ c.deltaHi = clampNat (c.deltaLo + 1) 20000 (constant ws 63 1 20000) ∧
    c.deltaLo + 1 ≤ c.deltaHi ∧ c.deltaHi ≤ 20000 ∧
    c.strokeVolume = constant ws 56 100 20000 ∧ c.efficiency = constant ws 57 500 1000 ∧
    c.effectiveStroke = (2 * (c.strokeVolume * c.efficiency) + 1000) / 2000 ∧
    50 ≤ c.effectiveStroke ∧ c.effectiveStroke ≤ 20000 ∧
    c.chamberOkMin ≤ c.chamberOkMax ∧ c.chamberOkMax ≤ 65535 ∧
    (∀ i : Fin 12, c.inputs[i].rawMin ≤ c.inputs[i].rawMax ∧ c.inputs[i].rawMax ≤ 4095) ∧
    (c.roles.thrust ∨ c.roles.grout → ∃ k, c.sector = some k ∧ k < c.sectors) ∧ c.watchedPins.Nodup ∧ 0 < station := by
  intro ws
  obtain ⟨hc, hst, hsec, hch⟩ := loadImage_eq_some h
  have hpressures : c.pFloor = clampNat 0 c.pCeiling (constant ws 39 0 4000) ∧
      c.pHoldMin = clampNat c.pFloor c.pCeiling (constant ws 40 0 4000) ∧
      c.pShoe = clampNat c.pFloor c.pCeiling (constant ws 42 0 4000) ∧ c.pCeiling = constant ws 41 0 4000 ∧
      c.pistonArea = constant ws 35 100 10000 := by
    rw [hc]
    exact ⟨rfl, rfl, rfl, rfl, rfl⟩
  obtain ⟨hfloor, hhold, hshoe, hceil, harea⟩ := hpressures
  have hgrout : c.deltaLo = constant ws 62 0 10000 ∧ c.deltaHi = clampNat (c.deltaLo + 1) 20000 (constant ws 63 1 20000) ∧
      c.strokeVolume = constant ws 56 100 20000 ∧ c.efficiency = constant ws 57 500 1000 ∧
      c.chamberOkMin = constant ws 86 0 65535 ∧
      c.chamberOkMax = clampNat c.chamberOkMin 65535 (constant ws 87 0 65535) := by
    rw [hc]
    exact ⟨rfl, rfl, rfl, rfl, rfl, rfl⟩
  obtain ⟨hlo, hhi, hvol, heff, hok, hokm⟩ := hgrout
  have hfl : c.pFloor ≤ c.pCeiling := hfloor ▸ (clampNat_mem (Nat.zero_le _)).2
  have hstroke := effectiveStroke_mem (c := c) (hvol ▸ constant_mem ws 56 (by omega)) (heff ▸ constant_mem ws 57 (by omega))
  have hlo' : c.deltaLo ≤ 10000 := hlo ▸ (constant_mem ws 62 (by omega)).2
  have hmin : c.pFloor = min (constant ws 39 0 4000) c.pCeiling := by
    rw [hfloor]
    unfold clampNat
    split
    · omega
    · split <;> omega
  have hsector : ∀ k, c.sector = some k → k < c.sectors := by
    rw [hc]
    intro k hk
    change (if _ then some _ else none) = some k at hk
    split at hk
    · rename_i hlt
      obtain rfl := Option.some.inj hk
      exact hlt
    · cases hk
  refine ⟨hmin, hhold, ?_, ?_, hshoe, ?_, ?_, rfl, ?_, hlo, hhi, ?_, ?_, hvol, heff, rfl, hstroke.1, hstroke.2, ?_, ?_, ?_,
    sector_of_sectorGood hsector hsec, watchedPins_nodup hch, Nat.pos_of_ne_zero hst⟩
  · exact hhold ▸ (clampNat_mem hfl).1
  · exact hhold ▸ (clampNat_mem hfl).2
  · exact hshoe ▸ (clampNat_mem hfl).1
  · exact hshoe ▸ (clampNat_mem hfl).2
  · exact forceCeiling_le (hceil ▸ (constant_mem ws 41 (by omega)).2) (harea ▸ (constant_mem ws 35 (by omega)).2)
  · exact hhi ▸ (clampNat_mem (by omega)).1
  · exact hhi ▸ (clampNat_mem (by omega)).2
  · exact hokm ▸ (clampNat_mem (hok ▸ (constant_mem ws 86 (by omega)).2)).1
  · exact hokm ▸ (clampNat_mem (hok ▸ (constant_mem ws 86 (by omega)).2)).2
  · intro i
    rw [hc]
    fin_cases i <;> exact rawLimits_inputCfgAt ws _

/-! ## The configuration stands -/

theorem exec_cfg (h : exec c s = .next t) :
    t.cfg = s.cfg ∨ s.boot.phase = .readingConfig ∧ ∃ answer, c = .configReadComplete answer := by
  cases exec_runs h with
  | moved _ h => exact .inl h.fixed.cfg
  | started _ _ _ _ _ _ _ _ _ h => exact .inl h.fixed.cfg
  | restarted _ _ _ _ _ _ h =>
    rcases h with h | h
    · exact .inl h.fixed.cfg
    · exact .inl (h.fixed.cfg.trans (by simp [State.started, State.startValues]))
  | image a hc hp => exact .inr ⟨hp, a, hc⟩

theorem exec_reading (h : exec c s = .next t) (ht : t.boot.phase = .readingConfig) :
    s.boot.phase = .readingConfig ∨ ∃ straps, c = .powerOn straps ∨ c = .lineReset straps := by
  cases exec_runs h with
  | moved _ h => exact .inl (h.fixed.reading ht)
  | started _ _ _ _ _ _ _ _ hp h =>
    rcases hp with rfl | ⟨_, hp⟩
    · cases h.fixed.reading ht
    · exact .inr hp
  | restarted _ _ _ _ _ _ h =>
    rcases h with h | h
    · cases h.fixed.reading ht
    · have := h.fixed.reading ht
      simp only [frame_configAccepted] at this
      split at this <;> cases this
  | image _ _ hp => exact .inl hp

theorem flags_of_alarmView (h : t.alarmView = s.alarmView) : t.events.flags = s.events.flags := congrArg AlarmView.flags h

theorem backbone_of_alarmView (h : t.alarmView = s.alarmView) : t.port.backbone = s.port.backbone :=
  congrArg AlarmView.backbone h

/-- In OFFLINE the end of an event raises no flag. -/
theorem flags_finish_of_offline (h : s.port.backbone = .offline) : (finish s).events.flags = s.events.flags :=
  flags_of_alarmView (alarmView_finish h)

/-- At the load the backbone is OFFLINE, so nothing is published and no flag is raised. -/
theorem flags_configReadComplete {answer : Option (List Byte)} (hb : s.port.backbone = .offline)
    (h : exec (.configReadComplete answer) s = .next t) : t.events.flags = s.events.flags := by
  change execConfigReadComplete answer s = .next t at h
  unfold execConfigReadComplete at h
  split at h
  · dsimp only at h
    split at h
    · have haccept (u : State) (hu : u.port.backbone = .offline) :
          (finish (acceptConfig u)).events.flags = u.events.flags := by
        have hview := (acceptConfig_accepts u).2
        exact (flags_finish_of_offline ((backbone_of_alarmView hview).trans hu)).trans (flags_of_alarmView hview)
      rw [finish_of_answer h]
      exact haccept _ hb
    · obtain rfl := finish_of_answer h
      rw [flags_finish_of_offline (by simpa [configBad] using hb)]
      simp [configBad]
  · rw [eq_of_noEffect h]

end Sys2Proof.Machine

open Sys2Proof Sys2Proof.Machine

/-- Settles O19: the clamps in the order of R170, and what moves the configuration and its phase. -/
theorem loadedConfigurationInOrder : Obligations.LoadedConfigurationInOrder :=
  ⟨fun _ _ _ => loaded_in_order, fun _ _ _ => exec_cfg, fun _ _ _ => exec_reading, fun _ _ _ => flags_configReadComplete⟩

end

section
/-! Bulletin contents are read back from their frames (O17, R1, R5 to R9). -/
namespace Sys2Proof.Machine
open Sys2Proof

/-! ## Bytes and fields -/

@[simp] theorem toNat_toByte (n : Nat) : (toByte n).toNat = n % 256 := by simp [toByte]

theorem toNat_toByte_of_lt {n : Nat} (h : n < 256) : (toByte n).toNat = n := by
  rw [toNat_toByte]
  omega

theorem nat16_bytes {n : Nat} (h : n < 65536) : nat16 (toByte (n / 256)) (toByte n) = n := by
  simp only [nat16, toNat_toByte]
  omega

theorem nat32_bytes {n : Nat} (h : n < 4294967296) :
    nat32 (toByte (n / 16777216)) (toByte (n / 65536)) (toByte (n / 256)) (toByte n) = n := by
  simp only [nat32, toNat_toByte]
  omega

theorem signed32_lt (x : Int) : signed32 x < 4294967296 := (BitVec.ofInt 32 x).isLt

theorem int32_signed32 {x : Int} (h : fitsInt32 x) : int32 (signed32 x) = x := by
  obtain ⟨hlo, hhi⟩ := h
  unfold int32 signed32
  rw [BitVec.ofNat_toNat, BitVec.setWidth_eq, BitVec.toInt_ofInt, Int.bmod_eq_of_le] <;> omega

theorem boolBit_lt (b : Bool) : boolBit b < 2 := by cases b <;> decide

/-- A flag's bit in a packed field. -/
theorem testBit_of_bit {n k : Nat} {b : Bool} (h : n / 2 ^ k % 2 = boolBit b) : n.testBit k = b := by
  rw [Nat.testBit_eq_decide_div_mod_eq, h]
  cases b <;> rfl

theorem getLsbD_toByte {n k : Nat} {b : Bool} (hk : k < 8) (h : n / 2 ^ k % 2 = boolBit b) : (toByte n).getLsbD k = b := by
  rw [toByte, BitVec.getLsbD_ofNat, testBit_of_bit h]
  simp [hk]

theorem ofBit_of_code {d : Direction} {b : Bool} (h : boolBit b = d.code) : Direction.ofBit b = d := by
  cases d <;> cases b <;> simp_all [boolBit, Direction.code, Direction.ofBit]

/-! ## Codes -/

theorem Backbone.ofCode_code (x : Backbone) : Backbone.ofCode x.code = some x := by cases x <;> rfl
theorem MachineMode.ofCode_code (x : MachineMode) : MachineMode.ofCode x.code = some x := by cases x <;> rfl
theorem DriveState.ofCode_code (x : DriveState) : DriveState.ofCode x.code = some x := by cases x <;> rfl
theorem ShoeState.ofCode_code (x : ShoeState) : ShoeState.ofCode x.code = some x := by cases x <;> rfl
theorem LineState.ofCode_code (x : LineState) : LineState.ofCode x.code = some x := by cases x <;> rfl
theorem ScrewState.ofCode_code (x : ScrewState) : ScrewState.ofCode x.code = some x := by cases x <;> rfl
theorem WaitReason.ofCode_code (x : WaitReason) : WaitReason.ofCode x.code = some x := by cases x <;> rfl
theorem StartKind.ofCode_code (x : StartKind) : StartKind.ofCode x.code = some x := by cases x <;> rfl
theorem StopCause.ofCode_code (x : StopCause) : StopCause.ofCode x.code = some x := by cases x <;> rfl
theorem BuildPhase.ofCode_code (x : BuildPhase) : BuildPhase.ofCode x.code = some x := by cases x <;> rfl
theorem ServiceAction.ofCode_code (x : ServiceAction) : ServiceAction.ofCode x.code = some x := by cases x <;> rfl

theorem code_bounds (bb : Backbone) (dr : DriveState) (sh : ShoeState) (sc : ScrewState) (li : LineState) (wa : WaitReason)
    (di : Direction) : bb.code < 8 ∧ dr.code < 8 ∧ sh.code < 8 ∧ sc.code < 4 ∧ li.code < 8 ∧ wa.code < 16 ∧ di.code < 2 :=
  ⟨by cases bb <;> decide, by cases dr <;> decide, by cases sh <;> decide, by cases sc <;> decide, by cases li <;> decide,
    by cases wa <;> decide, by cases di <;> decide⟩

theorem small_codes (st : StartKind) (ca : StopCause) (ph : BuildPhase) (ac : ServiceAction) (mo : MachineMode) :
    st.code < 256 ∧ ca.code < 256 ∧ ph.code < 256 ∧ ac.code < 256 ∧ mo.code < 256 :=
  ⟨by cases st <;> decide, by cases ca <;> decide, by cases ph <;> decide, by cases ac <;> decide, by cases mo <;> decide⟩

theorem roleMask_ofNat_code (m : RoleMask) : RoleMask.ofNat m.code = m := by
  obtain ⟨a, b, c, d⟩ := m
  cases a <;> cases b <;> cases c <;> cases d <;> rfl

theorem holdCauses_ofNat_code (h : HoldCauses) : HoldCauses.ofNat h.code = h := by
  obtain ⟨a, b, c, d⟩ := h
  cases a <;> cases b <;> cases c <;> cases d <;> rfl

theorem roleMask_code_lt (m : RoleMask) : m.code < 16 := by
  have := boolBit_lt m.thrust
  have := boolBit_lt m.grout
  have := boolBit_lt m.drive
  have := boolBit_lt m.screw
  unfold RoleMask.code
  omega

theorem holdCauses_code_lt (h : HoldCauses) : h.code < 16 := by
  have := boolBit_lt h.groutBehind
  have := boolBit_lt h.chamberBlind
  have := boolBit_lt h.thrustLapsed
  have := boolBit_lt h.torqueDerate
  unfold HoldCauses.code
  omega

theorem momentOf_natAbs (x : Int) : momentOf (decide (x < 0)) x.natAbs = x := by
  unfold momentOf
  by_cases hx : x < 0
  · simp only [hx, decide_true, if_true]
    omega
  · simp only [hx, decide_false]
    simp only [Bool.false_eq_true, if_false]
    omega

/-! ## Each layout (R6 to R8) -/

theorem decodeClaim_payload (b : ClaimBody) (h : fitsLayout (.claim b)) : decodeClaim (Bulletin.claim b).payload = some (.claim b) := by
  obtain ⟨hr, hs, hc⟩ := h
  obtain ⟨-, -, hsh, -, -, hw, -⟩ := code_bounds .offline .off b.shoe .off .off b.wait .cw
  have hstep : (b.step * 16 + b.sector % 16) % 256 / 16 = b.step := by omega
  have hsec : (b.step * 16 + b.sector % 16) % 256 % 16 = b.sector := by omega
  have hshoe : (b.shoe.code * 16 + b.wait.code) % 256 / 16 = b.shoe.code := by omega
  have hwait : (b.shoe.code * 16 + b.wait.code) % 256 % 16 = b.wait.code := by omega
  simp [Bulletin.payload, bytes16, decodeClaim, nat16_bytes hr, hstep, hsec, hshoe, hwait, ShoeState.ofCode_code,
    WaitReason.ofCode_code]

theorem decodeBuild_payload (b : BuildBody) (h : fitsLayout (.build b)) : decodeBuild (Bulletin.build b).payload = some (.build b) := by
  obtain ⟨hr, h1, h15, hs⟩ := h
  have hph := (small_codes .powerOn .localInput b.phase .save .build).2.2.1
  have hstep : b.step % 256 = b.step := by omega
  have hsec : b.sector % 256 = b.sector := by omega
  simp [Bulletin.payload, bytes16, decodeBuild, nat16_bytes hr, hstep, hsec, Nat.mod_eq_of_lt hph, BuildPhase.ofCode_code, h1, h15,
    hs]

theorem decodeMode_payload (b : ModeBody) (h : fitsLayout (.mode b)) : decodeMode (Bulletin.mode b).payload = some (.mode b) := by
  have hm := (small_codes .powerOn .localInput .place .save b.mode).2.2.2.2
  simp [Bulletin.payload, bytes16, decodeMode, nat16_bytes h, Nat.mod_eq_of_lt hm, MachineMode.ofCode_code]

theorem decodeSetpoint_payload (b : SetpointBody) (h : fitsLayout (.setpoint b)) :
    decodeSetpoint (Bulletin.setpoint b).payload = some (.setpoint b) := by
  obtain ⟨hf, hp, hy, hfill, hs, hc⟩ := h
  obtain ⟨-, -, -, -, -, -, hd⟩ := code_bounds .offline .off .clear .off .off .none b.dir
  have h1 := boolBit_lt (decide (b.pitch < 0))
  have h2 := boolBit_lt (decide (b.yaw < 0))
  have hw : boolBit (decide (b.pitch < 0)) * 32768 + boolBit (decide (b.yaw < 0)) * 16384 + b.dir.code * 8192 + b.fill % 8192 <
      65536 := by omega
  have hpitch := testBit_of_bit (k := 15) (b := decide (b.pitch < 0)) (n := boolBit (decide (b.pitch < 0)) * 32768 +
    boolBit (decide (b.yaw < 0)) * 16384 + b.dir.code * 8192 + b.fill % 8192) (by omega)
  have hyaw := testBit_of_bit (k := 14) (b := decide (b.yaw < 0)) (n := boolBit (decide (b.pitch < 0)) * 32768 +
    boolBit (decide (b.yaw < 0)) * 16384 + b.dir.code * 8192 + b.fill % 8192) (by omega)
  have hdir : Direction.ofBit ((boolBit (decide (b.pitch < 0)) * 32768 + boolBit (decide (b.yaw < 0)) * 16384 +
      b.dir.code * 8192 + b.fill % 8192).testBit 13) = b.dir := by
    refine ofBit_of_code ?_
    rw [Nat.testBit_eq_decide_div_mod_eq]
    have : (boolBit (decide (b.pitch < 0)) * 32768 + boolBit (decide (b.yaw < 0)) * 16384 + b.dir.code * 8192 +
      b.fill % 8192) / 2 ^ 13 % 2 = b.dir.code := by omega
    rw [this]
    cases b.dir <;> rfl
  have hlow : (boolBit (decide (b.pitch < 0)) * 32768 + boolBit (decide (b.yaw < 0)) * 16384 + b.dir.code * 8192 +
      b.fill % 8192) % 8192 = b.fill := by omega
  simp only [Bulletin.payload, SetpointBody.bytes, bytes16, decodeSetpoint, List.cons_append, List.nil_append, nat16_bytes hf,
    nat16_bytes hp, nat16_bytes hy, nat16_bytes hw, nat16_bytes hs, nat16_bytes hc, hpitch, hyaw, hdir, hlow, momentOf_natAbs]

theorem decodeService_payload (b : ServiceBody) (h : fitsLayout (.service b)) :
    decodeService (Bulletin.service b).payload = some (.service b) := by
  obtain ⟨ht, ha, hg⟩ := h
  have hac := (small_codes .powerOn .localInput .place b.action .build).2.2.2.1
  have htarget : b.target % 256 = b.target := by omega
  simp [Bulletin.payload, bytes16, decodeService, nat16_bytes ha, htarget, Nat.mod_eq_of_lt hac, ServiceAction.ofCode_code, ht, hg]

/-- The word of the pressures in a THRUST layout: two flags, the regime and the pressure set. -/
theorem thrustWord_fields {f c r p : Nat} (hf : f < 2) (hc : c < 2) (hr : r < 4) (hp : p < 4096) :
    f * 32768 + c * 16384 + r * 4096 + p < 65536 ∧ (f * 32768 + c * 16384 + r * 4096 + p) / 2 ^ 15 % 2 = f ∧
      (f * 32768 + c * 16384 + r * 4096 + p) / 2 ^ 14 % 2 = c ∧ (f * 32768 + c * 16384 + r * 4096 + p) / 4096 % 4 = r ∧
      (f * 32768 + c * 16384 + r * 4096 + p) % 4096 = p := by
  omega

theorem causesWord_fields {c p : Nat} (hc : c < 16) (hp : p < 4096) :
    c * 4096 + p < 65536 ∧ (c * 4096 + p) / 4096 = c ∧ (c * 4096 + p) % 4096 = p := by
  omega

theorem strokeWord_fields {f n : Nat} (hf : f < 2) (hn : n < 32768) :
    f * 32768 + n < 65536 ∧ (f * 32768 + n) / 2 ^ 15 % 2 = f ∧ (f * 32768 + n) % 32768 = n := by
  omega

theorem decodeThrust_payload (b : ThrustBody) (h : fitsLayout (.thrust b)) :
    decodeThrust (Bulletin.thrust b).payload = some (.thrust b) := by
  obtain ⟨hr, hs, ha, hp, hc, hreg, hset⟩ := h
  obtain ⟨hstrokeWord, hvalid, hstroke⟩ := strokeWord_fields (boolBit_lt b.strokeValid) hs
  obtain ⟨hcausesWord, hcauses, hpressure⟩ := causesWord_fields (holdCauses_code_lt b.causes) hp
  obtain ⟨hsetWord, hfloor, hceil, hregime, hpSet⟩ := thrustWord_fields (boolBit_lt b.floorClamp) (boolBit_lt b.ceilClamp) hreg hset
  have hadvance := nat16_bytes (Nat.lt_trans ha (show 32768 < 65536 by decide))
  simp only [Bulletin.payload, ThrustBody.bytes, bytes16, decodeThrust, List.cons_append, List.nil_append, Nat.mod_eq_of_lt hs,
    Nat.mod_eq_of_lt ha, Nat.mod_eq_of_lt hp, Nat.mod_eq_of_lt hreg, Nat.mod_eq_of_lt hset, nat16_bytes hr, nat16_bytes hc, hadvance,
    nat16_bytes hstrokeWord, nat16_bytes hcausesWord, nat16_bytes hsetWord, testBit_of_bit hvalid, testBit_of_bit hfloor,
    testBit_of_bit hceil, hstroke, hcauses, hpressure, hregime, hpSet, holdCauses_ofNat_code]

theorem decodeDrive_payload (b : DriveBody) (h : fitsLayout (.drive b)) : decodeDrive (Bulletin.drive b).payload = some (.drive b) := by
  obtain ⟨hn, ht, hc⟩ := h
  obtain ⟨-, hst, -, -, -, -, hd⟩ := code_bounds .offline b.state .clear .off .off .none b.dir
  have h1 := boolBit_lt b.torqueHigh
  have hstate : (b.state.code * 32 + b.dir.code * 16 + boolBit b.torqueHigh) % 256 / 32 = b.state.code := by omega
  have hhigh := getLsbD_toByte (k := 0) (b := b.torqueHigh) (n := b.state.code * 32 + b.dir.code * 16 + boolBit b.torqueHigh)
    (by omega) (by omega)
  have hdir : Direction.ofBit ((toByte (b.state.code * 32 + b.dir.code * 16 + boolBit b.torqueHigh)).getLsbD 4) = b.dir := by
    refine ofBit_of_code ?_
    rw [toByte, BitVec.getLsbD_ofNat, Nat.testBit_eq_decide_div_mod_eq]
    have : (b.state.code * 32 + b.dir.code * 16 + boolBit b.torqueHigh) / 2 ^ 4 % 2 = b.dir.code := by omega
    rw [this]
    cases b.dir <;> rfl
  simp only [Bulletin.payload, bytes16, decodeDrive, List.cons_append, List.nil_append, toNat_toByte, hstate,
    DriveState.ofCode_code, Option.map_some, hdir, hhigh, nat16_bytes hn, nat16_bytes ht, nat16_bytes hc]

theorem decodeScrew_payload (b : ScrewBody) (h : fitsLayout (.screw b)) : decodeScrew (Bulletin.screw b).payload = some (.screw b) := by
  obtain ⟨hr, hp, hn, hb, hv⟩ := h
  have h1 := boolBit_lt b.blind
  have h2 := boolBit_lt b.overdig
  have h3 := boolBit_lt b.underdig
  have hvalid : (b.valid * 64 + boolBit b.blind * 32 + boolBit b.overdig * 16 + boolBit b.underdig * 8) % 256 / 64 = b.valid := by
    omega
  have hblind := getLsbD_toByte (k := 5) (b := b.blind)
    (n := b.valid * 64 + boolBit b.blind * 32 + boolBit b.overdig * 16 + boolBit b.underdig * 8) (by omega) (by omega)
  have hover := getLsbD_toByte (k := 4) (b := b.overdig)
    (n := b.valid * 64 + boolBit b.blind * 32 + boolBit b.overdig * 16 + boolBit b.underdig * 8) (by omega) (by omega)
  have hunder := getLsbD_toByte (k := 3) (b := b.underdig)
    (n := b.valid * 64 + boolBit b.blind * 32 + boolBit b.overdig * 16 + boolBit b.underdig * 8) (by omega) (by omega)
  simp only [Bulletin.payload, bytes16, decodeScrew, List.cons_append, List.nil_append, toNat_toByte, hvalid, hblind, hover, hunder,
    nat16_bytes hr, nat16_bytes hp, nat16_bytes hn, nat16_bytes hb]

theorem decodeGrout_payload (b : GroutBody) (h : fitsLayout (.grout b)) : decodeGrout (Bulletin.grout b).payload = some (.grout b) := by
  obtain ⟨hr, hw, hd, he⟩ := h
  obtain ⟨-, -, -, -, hl, -, -⟩ := code_bounds .offline .off .clear .off b.line .none .cw
  have h1 := boolBit_lt b.holdRequest
  have hweight : (b.weight * 16 + boolBit b.holdRequest * 8 + b.line.code) % 256 / 16 = b.weight := by omega
  have hline : (b.weight * 16 + boolBit b.holdRequest * 8 + b.line.code) % 256 % 8 = b.line.code := by omega
  have hhold := getLsbD_toByte (k := 3) (b := b.holdRequest) (n := b.weight * 16 + boolBit b.holdRequest * 8 + b.line.code)
    (by omega) (by omega)
  simp only [Bulletin.payload, bytes16, bytes32, decodeGrout, List.cons_append, List.nil_append, toNat_toByte, hweight, hline,
    hhold, LineState.ofCode_code, Option.map_some, nat16_bytes hr, nat32_bytes hd, nat32_bytes (signed32_lt _), int32_signed32 he]

theorem decodeStatus_payload (b : StatusBody) (h : fitsLayout (.status b)) :
    decodeStatus (Bulletin.status b).payload = some (.status b) := by
  obtain ⟨hr, hf, hj, hcauses⟩ := h
  obtain ⟨hbb, hdr, hsh, hsc, hli, -, -⟩ := code_bounds b.backbone b.drive b.shoe b.screw b.line .none .cw
  have h1 := boolBit_lt b.stopped
  have hranges := hcauses
  simp only [causesInRange, decide_eq_true_eq] at hranges
  obtain ⟨c1, c2, c3, c4, c5⟩ := hranges
  have e1 : (b.backbone.code * 32 + boolBit b.stopped * 16) % 256 / 32 = b.backbone.code := by omega
  have e2 := getLsbD_toByte (k := 4) (b := b.stopped) (n := b.backbone.code * 32 + boolBit b.stopped * 16) (by omega) (by omega)
  have e3 : (b.drive.code * 32 + b.shoe.code * 4 + b.screw.code) % 256 / 32 = b.drive.code := by omega
  have e4 : (b.drive.code * 32 + b.shoe.code * 4 + b.screw.code) % 256 / 4 % 8 = b.shoe.code := by omega
  have e5 : (b.drive.code * 32 + b.shoe.code * 4 + b.screw.code) % 256 % 4 = b.screw.code := by omega
  have e6 : b.line.code * 32 % 256 / 32 = b.line.code := by omega
  have e7 : (b.causeStation * 16 + b.causeThrust % 16) % 256 / 16 = b.causeStation := by omega
  have e8 : (b.causeStation * 16 + b.causeThrust % 16) % 256 % 16 = b.causeThrust := by omega
  have e9 : (b.causeGrout * 16 + b.causeDrive % 16) % 256 / 16 = b.causeGrout := by omega
  have e10 : (b.causeGrout * 16 + b.causeDrive % 16) % 256 % 16 = b.causeDrive := by omega
  have e11 : b.causeScrew * 16 % 256 / 16 = b.causeScrew := by omega
  simp only [Bulletin.payload, StatusBody.bytes, bytes16, decodeStatus, List.cons_append, List.nil_append, toNat_toByte, e1, e2, e3,
    e4, e5, e6, e7, e8, e9, e10, e11, Backbone.ofCode_code, DriveState.ofCode_code, ShoeState.ofCode_code,
    ScrewState.ofCode_code, LineState.ofCode_code, nat16_bytes hr, nat16_bytes b.flags.isLt, BitVec.ofNat_toNat,
    BitVec.setWidth_eq, Nat.mod_eq_of_lt hf, Nat.mod_eq_of_lt hj, hcauses, if_true]

theorem decodeId_payload (b : IdBody) (h : fitsLayout (.id b)) : decodeId (Bulletin.id b).payload = some (.id b) := by
  obtain ⟨hs, hsec, hw⟩ := h
  have hk := (small_codes b.startKind .localInput .place .save .build).1
  have hr := roleMask_code_lt b.roles
  have e1 : b.roles.code % 256 % 16 = b.roles.code := by omega
  have e2 : (b.sector * 16 + b.weight % 16) % 256 / 16 = b.sector := by omega
  have e3 : (b.sector * 16 + b.weight % 16) % 256 % 16 = b.weight := by omega
  have hgood : (decide (b.sector ≤ 7) || b.sector == 15) = true := by simpa using hsec
  simp only [Bulletin.payload, bytes16, decodeId, List.cons_append, List.nil_append, toNat_toByte, e1, e2, e3, hgood, if_true,
    Nat.mod_eq_of_lt hk, Nat.mod_eq_of_lt hs, StartKind.ofCode_code, nat16_bytes b.digest.isLt, BitVec.ofNat_toNat,
    BitVec.setWidth_eq, roleMask_ofNat_code]

/-! ## The frame -/

theorem decodePayload_payload (b : Bulletin) (h : fitsLayout b) : decodePayload b.code b.payload = some b := by
  cases b with
  | stop b => cases b with | mk c => cases c <;> rfl
  | claim b => exact decodeClaim_payload b h
  | build b => exact decodeBuild_payload b h
  | mode b => exact decodeMode_payload b h
  | setpoint b => exact decodeSetpoint_payload b h
  | service b => exact decodeService_payload b h
  | thrust b => exact decodeThrust_payload b h
  | drive b => exact decodeDrive_payload b h
  | screw b => exact decodeScrew_payload b h
  | grout b => exact decodeGrout_payload b h
  | status b => exact decodeStatus_payload b h
  | id b => exact decodeId_payload b h

theorem kindLength_code (b : Bulletin) : kindLength b.code = some b.payload.length ∧ b.payload.length ≤ 12 ∧ b.code < 12 := by
  cases b <;> simp [Bulletin.code, kindLength, Bulletin.payload, bytes16, bytes32, SetpointBody.bytes, ThrustBody.bytes,
    StatusBody.bytes]

theorem tag_frame (b : Bulletin) {sender : Nat} (h : sender < 16) :
    (b.frame sender).sender = sender ∧ (b.frame sender).kindCode = b.code := by
  have hc := (kindLength_code b).2.2
  constructor
  · simp only [Frame.sender, Bulletin.frame, BitVec.toNat_ofNat]
    omega
  · simp only [Frame.kindCode, Bulletin.frame, BitVec.toNat_ofNat]
    omega

theorem len_frame (b : Bulletin) (sender : Nat) : (b.frame sender).len.toNat = b.payload.length := by
  have hl := (kindLength_code b).2.1
  simp only [Bulletin.frame, BitVec.toNat_ofNat]
  omega

theorem bytes_frame (b : Bulletin) (sender : Nat) : (b.frame sender).bytes = b.payload := by
  have hl := (kindLength_code b).2.1
  unfold Frame.bytes announcedBytes
  rw [len_frame, Nat.min_eq_left hl]
  exact List.take_length

end Sys2Proof.Machine

open Sys2Proof Sys2Proof.Machine

/-- Settles O17: each layout is read back by its decoder, and the tag, length and check by the frame's own. -/
theorem bulletinsRoundTrip : Obligations.BulletinsRoundTrip := by
  intro b sender hs hallowed hfits
  obtain ⟨hsender, hkind⟩ := tag_frame b hs
  obtain ⟨hlength, hle, -⟩ := kindLength_code b
  refine ⟨?_, ?_, hsender, hkind, ?_⟩
  · simp [Frame.good, Bulletin.frame, Frame.computedCheck, Frame.bytes]
  · unfold Frame.content
    rw [hkind, hsender, len_frame, hlength, bytes_frame, hallowed, decodePayload_payload b hfits]
    simp
  · unfold Frame.wellFormed announcedBytes
    rw [len_frame]
    simp only [Bulletin.frame, beq_iff_eq]
    exact (Nat.min_eq_left hle).symm

end

section
/-! The ring record is read back as it was written (O18, table 11.5). -/
namespace Sys2Proof.Machine
open Sys2Proof

/-! ## Masks -/

theorem testBit_componentMask (a g m t : Bool) : (componentMask a g m t).testBit 3 = a ∧ (componentMask a g m t).testBit 2 = g ∧
    (componentMask a g m t).testBit 1 = m ∧ (componentMask a g m t).testBit 0 = t ∧ componentMask a g m t < 16 := by
  cases a <;> cases g <;> cases m <;> cases t <;> decide

theorem componentMask_subset {a g m t a' g' m' t' : Bool} (ha : a = true → a' = true) (hg : g = true → g' = true)
    (hm : m = true → m' = true) (ht : t = true → t' = true) :
    componentMask a g m t &&& componentMask a' g' m' t' = componentMask a g m t := by
  cases a <;> cases g <;> cases m <;> cases t <;> simp_all <;> (cases a' <;> cases g' <;> cases m' <;> cases t' <;> decide)

/-! ## Components -/

theorem length_components (s : State) :
    s.advComponent.length = 9 ∧ s.grtComponent.length = 12 ∧ s.mckComponent.length = 5 ∧ s.trmComponent.length = 6 := ⟨rfl, rfl, rfl, rfl⟩

theorem decodeAdv_component {s : State} (h : FitsRecord s) : decodeAdv s.advComponent =
    some ⟨s.adv.ring, s.adv.base, s.adv.aRing, s.adv.grease, s.adv.milestones, s.shoe.lastServed⟩ := by
  obtain ⟨hr, hb, ha⟩ := h.adv
  obtain ⟨hg, hm, hl⟩ := h.count
  simp only [State.advComponent, bytes16, decodeAdv, List.cons_append, List.nil_append, nat16_bytes hr, nat16_bytes hb, nat16_bytes ha,
    toNat_toByte_of_lt hg, toNat_toByte_of_lt hm, toNat_toByte_of_lt hl]

theorem decodeGrt_component {s : State} (h : FitsRecord s) :
    decodeGrt s.grtComponent = some ⟨s.grout.delivered, s.grout.carry, s.grout.target⟩ := by
  obtain ⟨hd, hc, ht⟩ := h.grt
  simp only [State.grtComponent, bytes32, decodeGrt, List.cons_append, List.nil_append, nat32_bytes hd, nat32_bytes (signed32_lt _),
    int32_signed32 hc, nat32_bytes ht]

theorem decodeMck_component {s : State} (h : FitsRecord s) :
    decodeMck s.mckComponent = some ⟨s.muck.mMeas, s.muck.overdig, s.muck.underdig⟩ := by
  have ho := boolBit_lt s.muck.overdig
  have hu := boolBit_lt s.muck.underdig
  have hover := getLsbD_toByte (k := 1) (b := s.muck.overdig) (n := 2 * boolBit s.muck.overdig + boolBit s.muck.underdig) (by omega)
    (by omega)
  have hunder := getLsbD_toByte (k := 0) (b := s.muck.underdig) (n := 2 * boolBit s.muck.overdig + boolBit s.muck.underdig) (by omega)
    (by omega)
  simp only [State.mckComponent, bytes32, decodeMck, List.cons_append, List.nil_append, nat32_bytes h.mck, hover, hunder]

theorem decodeTrm_component {s : State} (h : FitsRecord s) : decodeTrm s.trmComponent = some ⟨s.muck.integ, s.drive.nSet⟩ := by
  obtain ⟨hi, hn⟩ := h.trm
  simp only [State.trmComponent, bytes32, bytes16, decodeTrm, List.cons_append, List.nil_append, nat32_bytes (signed32_lt _),
    int32_signed32 hi, nat16_bytes hn]

/-! ## Sections -/

theorem take_section {α : Type} {live : Bool} {bytes : List Byte} {size : Nat} (h : bytes.length = liveSize live size)
    (rest : List Byte) (decode : List Byte → Option α) :
    (if live = true then decode ((bytes ++ rest).take size) else none) = if live = true then decode bytes else none := by
  cases live with
  | false => rfl
  | true => exact congrArg decode (List.take_left' h)

/-- A record of a header and four sections of the sizes its live bits give is read section by section. -/
theorem decodeRecord_sections {present live seq ring : Nat} {a g m t : List Byte} (hpresent : present < 16) (hlive : live < 16)
    (hsub : live &&& present = live) (hseq : seq < 65536) (ha : a.length = liveSize (live.testBit 3) 9)
    (hg : g.length = liveSize (live.testBit 2) 12) (hm : m.length = liveSize (live.testBit 1) 5)
    (ht : t.length = liveSize (live.testBit 0) 6) :
    decodeRecord present
        (withCheck ([toByte 1, toByte (present * 16 + live)] ++ bytes16 seq ++ bytes16 ring ++ a ++ g ++ m ++ t)) = some
      { seq := seq
        adv := if live.testBit 3 then decodeAdv a else none
        grt := if live.testBit 2 then decodeGrt g else none
        mck := if live.testBit 1 then decodeMck m else none
        trm := if live.testBit 0 then decodeTrm t else none } := by
  have hmask : (present * 16 + live) % 256 / 16 = present := by omega
  have hlow : (present * 16 + live) % 256 % 16 = live := by omega
  obtain ⟨body, hbody⟩ : ∃ body, body = [toByte 1, toByte (present * 16 + live)] ++ bytes16 seq ++ bytes16 ring ++ a ++ g ++ m ++ t :=
    ⟨_, rfl⟩
  have hsize : body.length = 6 + liveSize (live.testBit 3) 9 + liveSize (live.testBit 2) 12 + liveSize (live.testBit 1) 5 +
      liveSize (live.testBit 0) 6 := by
    rw [hbody]
    simp only [List.length_append, ha, hg, hm, ht]
    rfl
  have hhead : withCheck body = toByte 1 :: toByte (present * 16 + live) :: toByte (seq / 256) :: toByte seq ::
      toByte (ring / 256) :: toByte ring :: (a ++ (g ++ (m ++ (t ++ bytes16 (crcOfBytes body).toNat)))) := by
    simp [withCheck, hbody, bytes16]
  have hdrop : (withCheck body).drop 6 = a ++ (g ++ (m ++ (t ++ bytes16 (crcOfBytes body).toNat))) := by rw [hhead]; rfl
  have hcheck : crcOfBytes ((withCheck body).take body.length) = BitVec.ofNat 16
      (nat16 ((withCheck body).getD body.length 0) ((withCheck body).getD (body.length + 1) 0)) := by
    simp [withCheck, List.getD_eq_getElem?_getD, bytes16, nat16_bytes (crcOfBytes body).isLt]
  rw [← hbody]
  unfold decodeRecord
  have h0 : (withCheck body).getD 0 0 = toByte 1 := by rw [hhead]; rfl
  have h1 : (withCheck body).getD 1 0 = toByte (present * 16 + live) := by rw [hhead]; rfl
  have h2 : (withCheck body).getD 2 0 = toByte (seq / 256) := by rw [hhead]; rfl
  have h3 : (withCheck body).getD 3 0 = toByte seq := by rw [hhead]; rfl
  have hlength : body.length + 2 ≤ (withCheck body).length := by simp [withCheck, bytes16]
  simp only [h0, h1, h2, h3, toNat_toByte, hmask, hlow, ← hsize, hdrop, hcheck, hlength, hsub, Nat.and_self, nat16_bytes hseq]
  simp only [decide_true, beq_self_eq_true, Bool.and_true, ite_true]
  rw [← List.drop_drop, ← List.drop_drop, ← List.drop_drop, List.drop_left' ha, List.drop_left' hg, List.drop_left' hm,
    take_section ha, take_section hg, take_section hm, take_section ht]

end Sys2Proof.Machine

open Sys2Proof Sys2Proof.Machine

/-- Settles O18: the record is a header and the live components, each read back as written. -/
theorem ringRecordRoundTrips : Obligations.RingRecordRoundTrips := by
  intro s seq hseq hfits
  obtain ⟨hadv, hgrt, hmck, htrm, hlive⟩ := testBit_componentMask (decide (0 < s.adv.aRing ∨ 0 < s.adv.ring))
    (s.cfg.roles.grout && decide (0 < s.grout.delivered ∨ s.grout.carry ≠ 0)) (s.cfg.roles.screw && decide (0 < s.muck.mMeas))
    ((s.cfg.roles.screw || s.cfg.roles.drive) && decide (s.muck.integ ≠ 0 ∨ s.drive.nSet ≠ 0))
  obtain ⟨-, -, -, -, hpresent⟩ := testBit_componentMask true s.cfg.roles.grout s.cfg.roles.screw (s.cfg.roles.screw || s.cfg.roles.drive)
  have hsub : s.liveMask &&& presentMask s.cfg = s.liveMask :=
    componentMask_subset (fun _ => rfl) (by simp +contextual) (by simp +contextual) (by simp +contextual)
  have hsize : ∀ (live : Bool) (bytes : List Byte) (size : Nat), bytes.length = size →
      (if live then bytes else []).length = liveSize live size := by
    intro live bytes size h
    cases live with
    | false => rfl
    | true => exact h
  obtain ⟨ladv, lgrt, lmck, ltrm⟩ := length_components s
  have hsections := decodeRecord_sections (ring := s.adv.ring) hpresent hlive hsub hseq (hsize _ _ _ ladv) (hsize _ _ _ lgrt)
    (hsize _ _ _ lmck) (hsize _ _ _ ltrm)
  have hread : ∀ {α : Type} (live : Bool) (bytes : List Byte) (decode : List Byte → Option α),
      (if live = true then decode (if live then bytes else []) else none) = if live = true then decode bytes else none := by
    intro α live bytes decode
    cases live <;> rfl
  refine hsections.trans ?_
  rw [hread, hread, hread, hread, decodeAdv_component hfits, decodeGrt_component hfits, decodeMck_component hfits,
    decodeTrm_component hfits]
  unfold State.liveMask at *
  rw [hadv, hgrt, hmck, htrm]
  simp only [Bool.and_eq_true, Bool.or_eq_true, decide_eq_true_eq]

end

section
/-! The end of an event with nothing to do, and off the backbone (R11, R157, R164); the starts (O20, O21, O22, O23). -/
namespace Sys2Proof.Machine
open Sys2Proof

variable {s t u v : State} {c : Instr}

/-! ## The end of an event with nothing to do -/

theorem refreshGate_of_gate {i : Fin 8} (h : (s.ch i).gate = s.gateDue i) : refreshGate i s = s := by
  unfold refreshGate
  rw [if_pos h.symm]

theorem refreshGates_of_gates (h : ∀ i, (s.ch i).gate = s.gateDue i) : refreshGates s = s := by
  unfold refreshGates
  rw [refreshGate_of_gate (h 0), refreshGate_of_gate (h 1), refreshGate_of_gate (h 2), refreshGate_of_gate (h 3),
    refreshGate_of_gate (h 4), refreshGate_of_gate (h 5), refreshGate_of_gate (h 6), refreshGate_of_gate (h 7)]

theorem refreshAlarm_of_alarm (h : s.events.alarm = s.alarmDue) : refreshAlarm s = s := by
  unfold refreshAlarm
  rw [← h]

theorem publishIfChanged_of_seen {k : OwnKind} (h : s.changeDue k = false) : publishIfChanged k s = s := by
  unfold publishIfChanged
  rw [h]
  rfl

theorem publishRound_of_seen (h : ∀ k : OwnKind, k ≠ .stop → s.changeDue k = false) : publishRound s = s := by
  unfold publishRound
  rw [publishIfChanged_of_seen (h .claim (by decide)), publishIfChanged_of_seen (h .thrust (by decide)),
    publishIfChanged_of_seen (h .drive (by decide)), publishIfChanged_of_seen (h .screw (by decide)),
    publishIfChanged_of_seen (h .grout (by decide)), publishIfChanged_of_seen (h .status (by decide)),
    publishIfChanged_of_seen (h .id (by decide))]

theorem settle_of_seen (h : ∀ k : OwnKind, k ≠ .stop → s.changeDue k = false) : settle s = s := by
  unfold settle
  rw [publishRound_of_seen h, publishRound_of_seen h, publishRound_of_seen h, publishRound_of_seen h]

/-- With nothing left to publish the end of an event does nothing. -/
theorem AtRest.finish (h : AtRest s) : finish s = s := by
  unfold Machine.finish
  rw [settle_of_seen h.published, refreshGates_of_gates h.gates, refreshAlarm_of_alarm h.alarm]

theorem AtRest.answer (h : AtRest s) : answer s = .next s := by
  unfold Machine.answer
  rw [h.finish]

/-- A state that publishes the same is at rest where gates and alarm are. -/
theorem AtRest.congr (h : AtRest s) (hs : u.port.seen = s.port.seen) (hd : u.port.statusDue = s.port.statusDue)
    (hc : u.port.claimDue = s.port.claimDue)
    (hb : ∀ k : OwnKind, k ≠ .stop → changePart (u.content k) = changePart (s.content k))
    (hg : ∀ i, (u.ch i).gate = u.gateDue i) (ha : u.events.alarm = u.alarmDue) : AtRest u where
  published k hk := by
    have := h.published k hk
    unfold State.changeDue at this ⊢
    rw [hs, hd, hc, hb k hk]
    exact this
  gates := hg
  alarm := ha

/-- Port stores that are not published leave a state at rest. -/
theorem AtRest.withPort (h : AtRest s) {p : Port} (hs : p.seen = s.port.seen) (hd : p.statusDue = s.port.statusDue)
    (hc : p.claimDue = s.port.claimDue) (hb : p.backbone = s.port.backbone) : AtRest { s with port := p } := by
  refine h.congr hs hd hc (fun k _ => ?_) (fun i => ?_) h.alarm
  · cases k with
    | status =>
      simp only [State.content, changePart, State.statusBody, hb]
      rfl
    | stop | claim | thrust | drive | screw | grout | id => rfl
  · have hdue : ({ s with port := p } : State).gateDue i = s.gateDue i := by
      unfold State.gateDue State.jobsRun
      rw [hb]
      rfl
    exact (h.gates i).trans hdue.symm

/-! ## The end of an event off the backbone -/

theorem jobsRun_of_off (h : s.onBackbone = false) : s.jobsRun = false := by
  simp only [State.onBackbone, Bool.or_eq_false_iff] at h
  exact h.2

theorem gateDue_of_off (h : s.jobsRun = false) (i : Fin 8) : s.gateDue i = false := by
  unfold State.gateDue
  split
  · simp [h]
  · rfl

theorem publish_of_off (h : s.onBackbone = false) (k : OwnKind) : publish k s = s := by
  unfold publish
  rw [h]
  rfl

theorem publishIfChanged_of_off (h : s.onBackbone = false) (k : OwnKind) : ∃ seen sd cd, publishIfChanged k s =
    { s with port := { s.port with seen := seen, statusDue := sd, claimDue := cd } } := by
  unfold publishIfChanged
  rw [publish_of_off (s := markSeen k s) h]
  split
  · split
    · exact ⟨_, _, _, rfl⟩
    · exact ⟨_, _, _, rfl⟩
  · exact ⟨_, _, _, rfl⟩

/-- `t` is `s` but for the marks of what has been published. -/
def MarksMoved (s t : State) : Prop :=
  ∃ seen sd cd, t = { s with port := { s.port with seen := seen, statusDue := sd, claimDue := cd } }

theorem marksMoved_publishIfChanged (k : OwnKind) (h : s.onBackbone = false) (hm : MarksMoved s u) :
    MarksMoved s (publishIfChanged k u) := by
  obtain ⟨seen, sd, cd, rfl⟩ := hm
  exact publishIfChanged_of_off (s := { s with port := { s.port with seen := seen, statusDue := sd, claimDue := cd } }) h k

theorem marksMoved_publishRound (h : s.onBackbone = false) (hm : MarksMoved s u) : MarksMoved s (publishRound u) := by
  unfold publishRound
  iterate 7 refine marksMoved_publishIfChanged _ h ?_
  exact hm

theorem marksMoved_settle (h : s.onBackbone = false) : MarksMoved s (settle s) := by
  unfold settle
  iterate 4 refine marksMoved_publishRound h ?_
  exact ⟨s.port.seen, s.port.statusDue, s.port.claimDue, rfl⟩

/-- Off the backbone, every gate shut, the end of an event marks contents and sets the alarm alone. -/
theorem finish_of_off (h : s.onBackbone = false) (hg : ∀ i, (s.ch i).gate = false) : ∃ seen sd cd, finish s =
    { s with
      port := { s.port with seen := seen, statusDue := sd, claimDue := cd }
      events := { s.events with alarm := s.alarmDue } } := by
  obtain ⟨seen, sd, cd, hs⟩ := marksMoved_settle h
  refine ⟨seen, sd, cd, ?_⟩
  unfold finish
  have hgates : refreshGates { s with port := { s.port with seen := seen, statusDue := sd, claimDue := cd } } = _ :=
    refreshGates_of_gates fun i => (hg i).trans (gateDue_of_off
      (s := { s with port := { s.port with seen := seen, statusDue := sd, claimDue := cd } }) (jobsRun_of_off h) i).symm
  rw [hs, hgates]
  rfl

/-! ## Starts -/

/-- A start waits with the write of a changed fault area until its restore (R173). -/
theorem startStation_eq_pending (kind : StartKind) {phase : BootPhase} (hp : phase ≠ .done) (straps : BitVec 4)
    (faults : FaultRecords) (flags : Word16) (mem : MemPort) (s : State) :
    ∃ pending, startStation kind phase straps faults flags mem s =
      { s.started kind phase straps faults flags s.pins mem with
        mem := { mem with recordPending := false, faultPending := pending, seq := 0 } } := by
  unfold startStation faultAreaChanged
  dsimp only
  split
  · exact ⟨_, rfl⟩
  · have hr : (State.startValues kind phase straps s.cfg s.boot.digest faults flags s.pins mem s.now s.pending).restored = false := by
      simp [State.restored, State.startValues, hp]
    rw [hr, Bool.and_false]
    exact ⟨true, rfl⟩

theorem cutOff_stores (m : MemPort) : m.cutOff.inFlight = none ∧ m.cutOff.image = m.image := by
  unfold MemPort.cutOff
  split
  · exact ⟨rfl, rfl⟩
  · exact ⟨rfl, rfl⟩
  · exact ⟨‹_›, rfl⟩

theorem inRec_replicate (i : Fin 12) (h : s.inputs = Vector.replicate 12 InputRec.start) : s.inRec i = InputRec.start := by
  simp [State.inRec, h]

theorem ch_replicate (i : Fin 8) (h : s.channels = Vector.replicate 8 ChannelRec.start) : s.ch i = ChannelRec.start := by
  simp [State.ch, h]

/-- A start ends as it stands, but for the marks of what has been published. -/
theorem finish_started (kind : StartKind) (phase : BootPhase) (straps : BitVec 4) (faults : FaultRecords) (flags : Word16)
    (pins : Pins) (mem m : MemPort) (s : State) : ∃ seen sd cd,
    finish { s.started kind phase straps faults flags pins mem with mem := m } =
      { s.started kind phase straps faults flags pins mem with
        mem := m, port := { Port.start with seen := seen, statusDue := sd, claimDue := cd } } := by
  obtain ⟨seen, sd, cd, h⟩ := finish_of_off (s := { s.started kind phase straps faults flags pins mem with mem := m }) rfl
    fun i => by rw [ch_replicate i rfl]; rfl
  exact ⟨seen, sd, cd, h⟩

end Sys2Proof.Machine

open Sys2Proof Sys2Proof.Machine

/-- Settles O20: off the backbone the end of the event leaves the values of the start. -/
theorem powerOnStarts : Obligations.PowerOnStarts := by
  intro straps s
  have hp : (if s.pins.resetLow then BootPhase.held else .readingConfig) ≠ .done := by split <;> decide
  obtain ⟨pending, hstart⟩ := startStation_eq_pending .powerOn hp straps FaultRecords.empty 0#16 s.mem.cutOff s
  obtain ⟨seen, sd, cd, hfinish⟩ := finish_started .powerOn (if s.pins.resetLow then BootPhase.held else .readingConfig) straps
    FaultRecords.empty 0#16 s.pins s.mem.cutOff { s.mem.cutOff with recordPending := false, faultPending := pending, seq := 0 } s
  obtain ⟨hflight, himage⟩ := cutOff_stores s.mem
  refine ⟨_, congrArg Host.Outcome.next ((congrArg finish hstart).trans hfinish), rfl, rfl, rfl, rfl, rfl, rfl, rfl, rfl, rfl, rfl,
    rfl, rfl, rfl, rfl, rfl, rfl, rfl, fun i => inRec_replicate i rfl, fun i => ch_replicate i rfl, hflight, rfl, rfl, himage, rfl,
    rfl, rfl, rfl⟩

/-- Settles O21: as a POWER_ON, with the job records and the flags handed through. -/
theorem resetPinKeepsRecords : Obligations.ResetPinKeepsRecords := by
  intro c straps phase low s hc
  have hp : phase ≠ .done := by
    rcases hc with ⟨-, rfl, -⟩ | ⟨-, -, rfl, -⟩ <;> decide
  have hexec : exec c s = answer (startStation .lineReset phase straps { s.faults with station := none } s.events.flags s.mem.cutOff
      { s with pins := { s.pins with resetLow := low } }) := by
    rcases hc with ⟨rfl, rfl, rfl⟩ | ⟨rfl, rfl, rfl, rfl⟩
    · rfl
    · rfl
  obtain ⟨pending, hstart⟩ := startStation_eq_pending .lineReset hp straps { s.faults with station := none } s.events.flags
    s.mem.cutOff { s with pins := { s.pins with resetLow := low } }
  obtain ⟨seen, sd, cd, hfinish⟩ := finish_started .lineReset phase straps { s.faults with station := none } s.events.flags
    { s.pins with resetLow := low } s.mem.cutOff { s.mem.cutOff with recordPending := false, faultPending := pending, seq := 0 }
    { s with pins := { s.pins with resetLow := low } }
  obtain ⟨hflight, -⟩ := cutOff_stores s.mem
  refine ⟨_, hexec.trans (congrArg Host.Outcome.next ((congrArg finish hstart).trans hfinish)), rfl, rfl, rfl, rfl, rfl, rfl, rfl, rfl,
    rfl, rfl, rfl, rfl, rfl, rfl, fun i => ch_replicate i rfl, hflight, rfl, rfl, rfl⟩

end

section
/-! One reader for each field that the end of an event leaves alone. -/
namespace Sys2Proof.Machine
open Sys2Proof

variable {s t : State}

theorem boot_of_kept (h : t.kept = s.kept) : t.boot = s.boot := congrArg Kept.boot h
theorem cfg_of_kept (h : t.kept = s.kept) : t.cfg = s.cfg := congrArg Kept.cfg h
theorem pins_of_kept (h : t.kept = s.kept) : t.pins = s.pins := congrArg Kept.pins h
theorem now_of_kept (h : t.kept = s.kept) : t.now = s.now := congrArg Kept.now h
theorem pending_of_kept (h : t.kept = s.kept) : t.pending = s.pending := congrArg Kept.pending h
theorem drive_of_kept (h : t.kept = s.kept) : t.drive = s.drive := congrArg Kept.drive h
theorem shoe_of_kept (h : t.kept = s.kept) : t.shoe = s.shoe := congrArg Kept.shoe h
theorem inputs_of_kept (h : t.kept = s.kept) : t.inputs = s.inputs := congrArg Kept.inputs h
theorem converting_of_kept (h : t.kept = s.kept) : t.converting = s.converting := congrArg Kept.converting h
theorem faults_of_kept (h : t.kept = s.kept) : t.faults = s.faults := congrArg Kept.faults h
theorem backbone_of_kept (h : t.kept = s.kept) : t.port.backbone = s.port.backbone := congrArg Kept.backbone h
theorem failures_of_kept (h : t.kept = s.kept) : t.port.failures = s.port.failures := congrArg Kept.failures h
theorem rejected_of_kept (h : t.kept = s.kept) : t.port.rejected = s.port.rejected := congrArg Kept.rejected h
theorem onLine_of_kept (h : t.kept = s.kept) : t.port.onLine = s.port.onLine := congrArg Kept.onLine h
theorem rx_of_kept (h : t.kept = s.kept) : t.port.rx = s.port.rx := congrArg Kept.rx h
theorem ackDriven_of_kept (h : t.kept = s.kept) : t.port.ackDriven = s.port.ackDriven := congrArg Kept.ackDriven h
theorem mode_of_kept (h : t.kept = s.kept) : t.table.mode = s.table.mode := congrArg Kept.mode h
theorem stroke_of_kept (h : t.kept = s.kept) : t.adv.stroke = s.adv.stroke := congrArg Kept.stroke h
theorem ring_of_kept (h : t.kept = s.kept) : t.adv.ring = s.adv.ring := congrArg Kept.ring h
theorem pressure_of_kept (h : t.kept = s.kept) : t.thrust.pressure = s.thrust.pressure := congrArg Kept.pressure h
theorem pressureValid_of_kept (h : t.kept = s.kept) : t.thrust.pressureValid = s.thrust.pressureValid := congrArg Kept.pressureValid h
theorem fReq_of_kept (h : t.kept = s.kept) : t.thrust.fReq = s.thrust.fReq := congrArg Kept.fReq h
theorem pSet_of_kept (h : t.kept = s.kept) : t.thrust.pSet = s.thrust.pSet := congrArg Kept.pSet h
theorem linePressure_of_kept (h : t.kept = s.kept) : t.grout.pressure = s.grout.pressure := congrArg Kept.linePressure h
theorem groutEval_of_kept (h : t.kept = s.kept) : t.grout.evalTimer = s.grout.evalTimer := congrArg Kept.groutEval h
theorem chamber1_of_kept (h : t.kept = s.kept) : t.muck.chamber1 = s.muck.chamber1 := congrArg Kept.chamber1 h
theorem chamber2_of_kept (h : t.kept = s.kept) : t.muck.chamber2 = s.muck.chamber2 := congrArg Kept.chamber2 h
theorem chamber3_of_kept (h : t.kept = s.kept) : t.muck.chamber3 = s.muck.chamber3 := congrArg Kept.chamber3 h
theorem pCh_of_kept (h : t.kept = s.kept) : t.muck.pCh = s.muck.pCh := congrArg Kept.pCh h
theorem blind_of_kept (h : t.kept = s.kept) : t.muck.blind = s.muck.blind := congrArg Kept.blind h
theorem screw_of_kept (h : t.kept = s.kept) : t.muck.state = s.muck.state := congrArg Kept.screw h
theorem nCmd_of_kept (h : t.kept = s.kept) : t.muck.nCmd = s.muck.nCmd := congrArg Kept.nCmd h
theorem nOut_of_kept (h : t.kept = s.kept) : t.muck.nOut = s.muck.nOut := congrArg Kept.nOut h
theorem screwEval_of_kept (h : t.kept = s.kept) : t.muck.evalTimer = s.muck.evalTimer := congrArg Kept.screwEval h
theorem stopped_of_kept (h : t.kept = s.kept) : t.events.stopped = s.events.stopped := congrArg Kept.stopped h
theorem image_of_kept (h : t.kept = s.kept) : t.mem.image = s.mem.image := congrArg Kept.image h
theorem record_of_kept (h : t.kept = s.kept) : t.mem.record = s.mem.record := congrArg Kept.record h
theorem recordTorn_of_kept (h : t.kept = s.kept) : t.mem.recordTorn = s.mem.recordTorn := congrArg Kept.recordTorn h
theorem faultPending_of_kept (h : t.kept = s.kept) : t.mem.faultPending = s.mem.faultPending := congrArg Kept.faultPending h
theorem faultCopy_of_kept (h : t.kept = s.kept) : t.mem.faultCopy = s.mem.faultCopy := congrArg Kept.faultCopy h

end Sys2Proof.Machine
end

section
/-! What the shared operations of the jobs leave alone, block by block: the screw, the shoe, the latch. -/
namespace Sys2Proof.Machine
open Sys2Proof

variable {s t u v : State} {c : Instr}

@[simp] theorem frame_examineScrew (s : State) :
    (examineScrew s).port = s.port ∧ (examineScrew s).table = s.table ∧ (examineScrew s).adv = s.adv ∧
      (examineScrew s).drive = s.drive ∧ (examineScrew s).thrust = s.thrust ∧ (examineScrew s).shoe = s.shoe ∧
      (examineScrew s).grout = s.grout ∧ (examineScrew s).inputs = s.inputs ∧ (examineScrew s).converting = s.converting ∧
      (examineScrew s).channels = s.channels ∧ (examineScrew s).faults = s.faults ∧ (examineScrew s).events = s.events ∧
      (examineScrew s).mem = s.mem := by
  simp [examineScrew]

@[simp] theorem frame_examineBlocked (s : State) :
    (examineBlocked s).port = s.port ∧ (examineBlocked s).table = s.table ∧ (examineBlocked s).adv = s.adv ∧
      (examineBlocked s).drive = s.drive ∧ (examineBlocked s).thrust = s.thrust ∧ (examineBlocked s).shoe = s.shoe ∧
      (examineBlocked s).muck = s.muck ∧ (examineBlocked s).inputs = s.inputs ∧
      (examineBlocked s).converting = s.converting ∧ (examineBlocked s).channels = s.channels ∧
      (examineBlocked s).faults = s.faults ∧ (examineBlocked s).events = s.events ∧ (examineBlocked s).mem = s.mem := by
  simp [examineBlocked]

@[simp] theorem frame_setScrew (st : ScrewState) (s : State) :
    (setScrew st s).port = s.port ∧ (setScrew st s).table = s.table ∧ (setScrew st s).adv = s.adv ∧
      (setScrew st s).drive = s.drive ∧ (setScrew st s).thrust = s.thrust ∧ (setScrew st s).shoe = s.shoe ∧
      (setScrew st s).grout = s.grout ∧ (setScrew st s).inputs = s.inputs ∧ (setScrew st s).converting = s.converting ∧
      (setScrew st s).faults = s.faults ∧ (setScrew st s).events = s.events ∧ (setScrew st s).mem = s.mem := by
  unfold setScrew
  split
  · simp
  · split <;> simp

@[simp] theorem frame_decideScrew (s : State) :
    (decideScrew s).port = s.port ∧ (decideScrew s).table = s.table ∧ (decideScrew s).adv = s.adv ∧
      (decideScrew s).drive = s.drive ∧ (decideScrew s).thrust = s.thrust ∧ (decideScrew s).shoe = s.shoe ∧
      (decideScrew s).grout = s.grout ∧ (decideScrew s).inputs = s.inputs ∧ (decideScrew s).converting = s.converting ∧
      (decideScrew s).faults = s.faults ∧ (decideScrew s).events = s.events ∧ (decideScrew s).mem = s.mem := by
  unfold decideScrew
  split <;> simp

@[simp] theorem frame_recomputeChamber (s : State) :
    (recomputeChamber s).port = s.port ∧ (recomputeChamber s).table = s.table ∧ (recomputeChamber s).adv = s.adv ∧
      (recomputeChamber s).drive = s.drive ∧ (recomputeChamber s).thrust = s.thrust ∧ (recomputeChamber s).shoe = s.shoe ∧
      (recomputeChamber s).grout = s.grout ∧ (recomputeChamber s).inputs = s.inputs ∧
      (recomputeChamber s).converting = s.converting ∧ (recomputeChamber s).faults = s.faults ∧
      (recomputeChamber s).events = s.events ∧ (recomputeChamber s).mem = s.mem := by
  unfold recomputeChamber
  split <;> split <;> simp

@[simp] theorem frame_freezeShoe (s : State) :
    (freezeShoe s).port = s.port ∧ (freezeShoe s).table = s.table ∧ (freezeShoe s).adv = s.adv ∧
      (freezeShoe s).drive = s.drive ∧ (freezeShoe s).thrust = s.thrust ∧ (freezeShoe s).grout = s.grout ∧
      (freezeShoe s).muck = s.muck ∧ (freezeShoe s).inputs = s.inputs ∧ (freezeShoe s).converting = s.converting ∧
      (freezeShoe s).channels = s.channels ∧ (freezeShoe s).faults = s.faults ∧ (freezeShoe s).events = s.events ∧
      (freezeShoe s).mem = s.mem := by
  simp [freezeShoe]

@[simp] theorem frame_writeValves (s : State) :
    (writeValves s).port = s.port ∧ (writeValves s).table = s.table ∧ (writeValves s).adv = s.adv ∧
      (writeValves s).drive = s.drive ∧ (writeValves s).thrust = s.thrust ∧ (writeValves s).shoe = s.shoe ∧
      (writeValves s).grout = s.grout ∧ (writeValves s).muck = s.muck ∧ (writeValves s).inputs = s.inputs ∧
      (writeValves s).converting = s.converting ∧ (writeValves s).faults = s.faults ∧ (writeValves s).events = s.events ∧
      (writeValves s).mem = s.mem := by
  unfold writeValves
  split <;> simp

@[simp] theorem frame_seatSetpoint (s : State) :
    (seatSetpoint s).port = s.port ∧ (seatSetpoint s).table = s.table ∧ (seatSetpoint s).adv = s.adv ∧
      (seatSetpoint s).drive = s.drive ∧ (seatSetpoint s).shoe = s.shoe ∧ (seatSetpoint s).grout = s.grout ∧
      (seatSetpoint s).muck = s.muck ∧ (seatSetpoint s).inputs = s.inputs ∧ (seatSetpoint s).converting = s.converting ∧
      (seatSetpoint s).faults = s.faults ∧ (seatSetpoint s).events = s.events ∧ (seatSetpoint s).mem = s.mem := by
  simp [seatSetpoint, chooseTarget]

@[simp] theorem frame_writeExtendDuties (s : State) :
    (writeExtendDuties s).port = s.port ∧ (writeExtendDuties s).table = s.table ∧ (writeExtendDuties s).adv = s.adv ∧
      (writeExtendDuties s).drive = s.drive ∧ (writeExtendDuties s).thrust = s.thrust ∧ (writeExtendDuties s).shoe = s.shoe ∧
      (writeExtendDuties s).grout = s.grout ∧ (writeExtendDuties s).muck = s.muck ∧ (writeExtendDuties s).inputs = s.inputs ∧
      (writeExtendDuties s).converting = s.converting ∧ (writeExtendDuties s).faults = s.faults ∧
      (writeExtendDuties s).events = s.events ∧ (writeExtendDuties s).mem = s.mem := by
  simp [writeExtendDuties]

@[simp] theorem frame_enterExtending (s : State) :
    (enterExtending s).port = s.port ∧ (enterExtending s).table = s.table ∧ (enterExtending s).adv = s.adv ∧
      (enterExtending s).drive = s.drive ∧ (enterExtending s).thrust = s.thrust ∧ (enterExtending s).inputs = s.inputs ∧
      (enterExtending s).converting = s.converting ∧ (enterExtending s).faults = s.faults ∧
      (enterExtending s).events = s.events ∧ (enterExtending s).mem = s.mem := by
  simp [enterExtending]

@[simp] theorem frame_enterClear (s : State) :
    (enterClear s).port = s.port ∧ (enterClear s).table = s.table ∧ (enterClear s).adv = s.adv ∧
      (enterClear s).drive = s.drive ∧ (enterClear s).thrust = s.thrust ∧ (enterClear s).inputs = s.inputs ∧
      (enterClear s).converting = s.converting ∧ (enterClear s).faults = s.faults ∧ (enterClear s).events = s.events ∧
      (enterClear s).mem = s.mem := by
  unfold enterClear
  dsimp only
  split <;> simp

@[simp] theorem frame_checkRetracted (s : State) :
    (checkRetracted s).port = s.port ∧ (checkRetracted s).table = s.table ∧ (checkRetracted s).adv = s.adv ∧
      (checkRetracted s).drive = s.drive ∧ (checkRetracted s).thrust = s.thrust ∧ (checkRetracted s).inputs = s.inputs ∧
      (checkRetracted s).converting = s.converting ∧ (checkRetracted s).faults = s.faults ∧
      (checkRetracted s).events = s.events ∧ (checkRetracted s).mem = s.mem := by
  unfold checkRetracted
  split <;> simp

@[simp] theorem frame_enterRetracting (s : State) :
    (enterRetracting s).port = s.port ∧ (enterRetracting s).table = s.table ∧ (enterRetracting s).adv = s.adv ∧
      (enterRetracting s).drive = s.drive ∧ (enterRetracting s).inputs = s.inputs ∧
      (enterRetracting s).converting = s.converting ∧ (enterRetracting s).faults = s.faults ∧
      (enterRetracting s).events = s.events ∧ (enterRetracting s).mem = s.mem := by
  simp [enterRetracting, releaseTarget]

@[simp] theorem frame_abortByState (s : State) :
    (abortByState s).port = s.port ∧ (abortByState s).table = s.table ∧ (abortByState s).adv = s.adv ∧
      (abortByState s).drive = s.drive ∧ (abortByState s).thrust = s.thrust ∧ (abortByState s).inputs = s.inputs ∧
      (abortByState s).converting = s.converting ∧ (abortByState s).faults = s.faults ∧ (abortByState s).events = s.events ∧
      (abortByState s).mem = s.mem := by
  unfold abortByState
  split
  · simp
  · simp
  · simp [releaseClaim]
  · simp
  · split <;> simp

@[simp] theorem frame_abortBuild (s : State) :
    (abortBuild s).port = s.port ∧ (abortBuild s).table = s.table ∧ (abortBuild s).adv = s.adv ∧
      (abortBuild s).drive = s.drive ∧ (abortBuild s).thrust = s.thrust ∧ (abortBuild s).inputs = s.inputs ∧
      (abortBuild s).converting = s.converting ∧ (abortBuild s).faults = s.faults ∧ (abortBuild s).events = s.events ∧
      (abortBuild s).mem = s.mem := by
  unfold abortBuild
  split <;> simp

@[simp] theorem frame_resumePlaced (s : State) :
    (resumePlaced s).port = s.port ∧ (resumePlaced s).table = s.table ∧ (resumePlaced s).adv = s.adv ∧
      (resumePlaced s).drive = s.drive ∧ (resumePlaced s).thrust = s.thrust ∧ (resumePlaced s).grout = s.grout ∧
      (resumePlaced s).muck = s.muck ∧ (resumePlaced s).inputs = s.inputs ∧ (resumePlaced s).converting = s.converting ∧
      (resumePlaced s).channels = s.channels ∧ (resumePlaced s).faults = s.faults ∧ (resumePlaced s).events = s.events ∧
      (resumePlaced s).mem = s.mem := by
  unfold resumePlaced
  split
  · split <;> simp
  · simp

@[simp] theorem frame_resumeAbort (s : State) :
    (resumeAbort s).port = s.port ∧ (resumeAbort s).table = s.table ∧ (resumeAbort s).adv = s.adv ∧
      (resumeAbort s).drive = s.drive ∧ (resumeAbort s).thrust = s.thrust ∧ (resumeAbort s).inputs = s.inputs ∧
      (resumeAbort s).converting = s.converting ∧ (resumeAbort s).faults = s.faults ∧ (resumeAbort s).events = s.events ∧
      (resumeAbort s).mem = s.mem := by
  unfold resumeAbort
  split <;> simp

@[simp] theorem frame_resumeState (s : State) :
    (resumeState s).port = s.port ∧ (resumeState s).table = s.table ∧ (resumeState s).adv = s.adv ∧
      (resumeState s).drive = s.drive ∧ (resumeState s).thrust = s.thrust ∧ (resumeState s).inputs = s.inputs ∧
      (resumeState s).converting = s.converting ∧ (resumeState s).faults = s.faults ∧ (resumeState s).events = s.events ∧
      (resumeState s).mem = s.mem := by
  unfold resumeState
  split
  · simp
  · simp
  · simp
  · split <;> simp
  · split <;> simp

@[simp] theorem frame_resumeShoe (s : State) :
    (resumeShoe s).port = s.port ∧ (resumeShoe s).table = s.table ∧ (resumeShoe s).adv = s.adv ∧
      (resumeShoe s).drive = s.drive ∧ (resumeShoe s).thrust = s.thrust ∧ (resumeShoe s).inputs = s.inputs ∧
      (resumeShoe s).converting = s.converting ∧ (resumeShoe s).faults = s.faults ∧ (resumeShoe s).events = s.events ∧
      (resumeShoe s).mem = s.mem := by
  unfold resumeShoe
  split <;> simp

@[simp] theorem frame_setStopped (s : State) :
    (setStopped s).boot = s.boot ∧ (setStopped s).cfg = s.cfg ∧ (setStopped s).pins = s.pins ∧ (setStopped s).now = s.now ∧
      (setStopped s).pending = s.pending ∧ (setStopped s).port = s.port ∧ (setStopped s).table = s.table ∧
      (setStopped s).adv = s.adv ∧ (setStopped s).drive = s.drive ∧ (setStopped s).thrust = s.thrust ∧
      (setStopped s).inputs = s.inputs ∧ (setStopped s).converting = s.converting ∧ (setStopped s).faults = s.faults ∧
      (setStopped s).events = { s.events with stopped := true } := by
  unfold setStopped
  split
  · rename_i h
    simp [← h]
  · simp [freezeShoe]

@[simp] theorem frame_clearStopped (s : State) :
    (clearStopped s).boot = s.boot ∧ (clearStopped s).cfg = s.cfg ∧ (clearStopped s).pins = s.pins ∧
      (clearStopped s).now = s.now ∧ (clearStopped s).pending = s.pending ∧ (clearStopped s).port = s.port ∧
      (clearStopped s).table = s.table ∧ (clearStopped s).adv = s.adv ∧ (clearStopped s).drive = s.drive ∧
      (clearStopped s).thrust = s.thrust ∧ (clearStopped s).inputs = s.inputs ∧ (clearStopped s).converting = s.converting ∧
      (clearStopped s).faults = s.faults ∧ (clearStopped s).mem = s.mem ∧
      (clearStopped s).events = { s.events with stopped := false } := by
  simp [clearStopped]

/-! ## What a duty leaves of a channel -/

/-- `t` is `s` in every channel but for the pending duties. -/
def DutiesMoved (s t : State) : Prop := ∀ i, ∃ d, t.ch i = { s.ch i with pending := d }

theorem DutiesMoved.of_eq (h : t.channels = s.channels) : DutiesMoved s t := fun i => by
  refine ⟨(s.ch i).pending, ?_⟩
  simp [State.ch, h]

theorem DutiesMoved.after (k : DutiesMoved t u) (h : DutiesMoved s t) : DutiesMoved s u := fun i => by
  obtain ⟨d, hd⟩ := h i
  obtain ⟨e, he⟩ := k i
  exact ⟨e, by rw [he, hd]⟩

theorem dutiesMoved_writeDuty (f : ChFunction) (d : Nat) (s : State) : DutiesMoved s (writeDuty f d s) := by
  unfold writeDuty
  split
  · rename_i i _
    intro j
    rw [ch_putChannel]
    split
    · rename_i hij
      exact ⟨d, by rw [hij]⟩
    · exact ⟨(s.ch j).pending, rfl⟩
  · exact .of_eq rfl

theorem dutiesMoved_decideLine (s : State) : DutiesMoved s (decideLine s) := by
  unfold decideLine setLine
  split
  · split
    · exact .of_eq rfl
    · split
      · exact DutiesMoved.after (.of_eq rfl) ((dutiesMoved_writeDuty _ _ _).after (.of_eq rfl))
      · exact .of_eq rfl
  · exact .of_eq rfl

theorem dutiesMoved_decideScrew (s : State) : DutiesMoved s (decideScrew s) := by
  unfold decideScrew setScrew
  split
  · split
    · exact .of_eq rfl
    · split
      · exact DutiesMoved.after (.of_eq rfl) ((dutiesMoved_writeDuty _ _ _).after (.of_eq rfl))
      · exact .of_eq rfl
  · exact .of_eq rfl

end Sys2Proof.Machine
end

section
/-! A configuration accepted or rejected at a start (O22, O23, R168). -/
namespace Sys2Proof.Machine
open Sys2Proof

variable {s t u v : State} {c : Instr}

theorem answer_eq (s : State) : answer s = .next (finish s) := rfl

theorem refreshGates_of_off (h : s.jobsRun = false) (hg : ∀ i, (s.ch i).gate = false) : refreshGates s = s :=
  refreshGates_of_gates fun i => (hg i).trans (gateDue_of_off h i).symm

theorem gate_of_dutiesMoved (h : DutiesMoved s t) (hg : ∀ i, (s.ch i).gate = false) (i : Fin 8) : (t.ch i).gate = false := by
  obtain ⟨d, hd⟩ := h i
  rw [hd]
  exact hg i

theorem mem_triggerSave_of_unrestored (h : s.boot.phase ≠ .done) :
    (triggerSave s).mem.inFlight = s.mem.inFlight ∧ (triggerSave s).mem.image = s.mem.image := by
  have hr : s.restored = false := by simpa [State.restored] using h
  unfold triggerSave
  split
  · rw [hr, Bool.and_false]
    exact ⟨rfl, rfl⟩
  · exact ⟨rfl, rfl⟩

/-- The latch set off the backbone moves no gate. -/
theorem dutiesMoved_setStopped (h : s.jobsRun = false) (hg : ∀ i, (s.ch i).gate = false) : DutiesMoved s (setStopped s) := by
  unfold setStopped
  split
  · exact .of_eq rfl
  · have hmoved : DutiesMoved s (triggerSave (decideScrew (decideLine (freezeShoe
        { s with events := { s.events with stopped := true } })))) :=
      DutiesMoved.after (.of_eq (frame_triggerSave _).2.2.2.2.2.2.2.2.2.2.1) ((dutiesMoved_decideScrew _).after ((dutiesMoved_decideLine _).after (.of_eq rfl)))
    rw [refreshGates_of_off (by simpa [State.jobsRun] using h) (gate_of_dutiesMoved hmoved hg)]
    exact hmoved

theorem mem_setStopped (h : s.boot.phase ≠ .done) :
    (setStopped s).mem.inFlight = s.mem.inFlight ∧ (setStopped s).mem.image = s.mem.image := by
  unfold setStopped
  split
  · exact ⟨rfl, rfl⟩
  · simp only [frame_refreshGates]
    obtain ⟨hf, hi⟩ := mem_triggerSave_of_unrestored
      (s := decideScrew (decideLine (freezeShoe { s with events := { s.events with stopped := true } })))
      (by simpa [freezeShoe] using h)
    exact ⟨hf.trans (by simp), hi.trans (by simp)⟩

theorem phase_configAccepted (s : State) : (configAccepted s).boot.phase ≠ .done := by
  simp only [frame_configAccepted]
  split <;> decide

theorem scanned_congr (hc : t.cfg = s.cfg) (hb : t.boot.yielded = s.boot.yielded) : t.scanned = s.scanned := by
  funext i
  simp [State.scanned, State.inCfg, State.holds, State.effectiveRoles, hc, hb]

theorem converting_configAccepted (s : State) :
    (configAccepted s).converting = inputIndices.find? (configAccepted s).scanned := by
  have hscan : (configAccepted s).scanned = s.scanned := scanned_congr (by simp) (by simp)
  unfold configAccepted at hscan ⊢
  rw [hscan]
  simp only [frame_restPins]
  exact congrArg inputIndices.find? (scanned_congr rfl rfl)

/-- The blocks an acceptance leaves as `configAccepted` does, the stop input setting the latch (R165, R168). -/
theorem frame_acceptConfig (s : State) :
    (acceptConfig s).boot = (configAccepted s).boot ∧ (acceptConfig s).cfg = s.cfg ∧ (acceptConfig s).pins = s.pins ∧
      (acceptConfig s).now = s.now ∧ (acceptConfig s).pending = s.pending ∧ (acceptConfig s).port = s.port ∧
      (acceptConfig s).adv = s.adv ∧ (acceptConfig s).drive = s.drive ∧ (acceptConfig s).thrust = Thrust.start s.cfg ∧
      (acceptConfig s).faults = s.faults ∧
      (acceptConfig s).events = { s.events with stopped := s.events.stopped || s.pins.stopInput } ∧
      (acceptConfig s).converting = (configAccepted s).converting ∧
      (acceptConfig s).mem.inFlight = s.mem.inFlight ∧ (acceptConfig s).mem.image = s.mem.image := by
  have hphase : (refreshGates (configAccepted s)).boot.phase ≠ .done := by simpa using phase_configAccepted s
  obtain ⟨hflight, himage⟩ := mem_setStopped hphase
  rw [acceptConfig_eq]
  split
  · rename_i hp
    have hp : s.pins.stopInput = true := by simpa using hp
    simp [hflight, himage, hp]
  · rename_i hp
    have hp : s.pins.stopInput = false := by simpa using hp
    simp [hp]

/-- Off the backbone an acceptance leaves every channel shut at its rest level (R157). -/
theorem ch_acceptConfig_of_off (h : s.jobsRun = false) (hg : ∀ i, (s.ch i).gate = false) (i : Fin 8) :
    ∃ d, (acceptConfig s).ch i = { s.ch i with high := restLevel (s.chCfg i), pending := d } := by
  have hch (i : Fin 8) : (configAccepted s).ch i = { s.ch i with high := restLevel (s.chCfg i) } := ch_restPins i _
  have hgates (i : Fin 8) : ((configAccepted s).ch i).gate = false := by rw [hch]; exact hg i
  have hjobs : (configAccepted s).jobsRun = false := by simpa [State.jobsRun] using h
  rw [acceptConfig_eq, refreshGates_of_off hjobs hgates]
  split
  · obtain ⟨d, hd⟩ := dutiesMoved_setStopped hjobs hgates i
    exact ⟨d, by rw [hd, hch]⟩
  · exact ⟨(s.ch i).pending, hch i⟩

theorem jobs_raiseFault_station (h : s.faults.get .station = none) (cause : FaultCause) (value : Int) :
    (raiseFault .station cause value s).shoe = s.shoe ∧ (raiseFault .station cause value s).drive = s.drive := by
  rw [raiseFault_of_none h]
  simp [enterFault]

theorem faults_configBad (h : s.faults.station = none) :
    (configBad s).faults = { s.faults with station := some ⟨.configBad, 0, s.adv.ring, s.faultStep .station, 0⟩ } :=
  faults_raiseFault_of_empty (s := configRejected s) (j := .station) h .configBad 0

/-- A good image, read as the start waits for it (R168, R170). -/
theorem exec_configReadComplete_of_good {bytes : List Byte} {cfg : StationConfig} (hp : s.boot.phase = .readingConfig)
    (hload : loadImage s.boot.station bytes = some cfg) : exec (.configReadComplete (some bytes)) s = answer (acceptConfig
      { s with mem := { s.mem with image := bytes }, cfg := cfg, boot := { s.boot with digest := cfg.machineDigest } }) := by
  simp only [exec, execConfigReadComplete, if_pos hp, Option.bind_some, hload, Option.getD_some]

end Sys2Proof.Machine

open Sys2Proof Sys2Proof.Machine

/-- Settles O22: a start with the configuration accepted at once, ended off the backbone. -/
theorem restartKeepsConfiguration : Obligations.RestartKeepsConfiguration := by
  intro straps s b hb htarget hstraps
  obtain ⟨pending, hstart⟩ := startStation_eq_pending .restart (by decide : BootPhase.readingConfig ≠ .done) straps
    { s.faults with station := none } s.events.flags s.mem (popFrame s)
  have hexec : exec (.restart straps) s = answer (acceptConfig
      (startStation .restart .readingConfig straps { s.faults with station := none } s.events.flags s.mem (popFrame s))) := by
    rw [exec_restart_of_target hb htarget]
    unfold restartStation
    dsimp only
    rw [if_neg hstraps]
    rfl
  generalize startStation .restart .readingConfig straps { s.faults with station := none } s.events.flags s.mem (popFrame s) = s1
    at hstart hexec
  have hs1 : s1.boot = ⟨.readingConfig, .restart, false, straps.toNat, RoleMask.empty, s.boot.digest⟩ ∧ s1.cfg = s.cfg ∧
      s1.pins.stopInput = s.pins.stopInput ∧ s1.pending = s.pending ∧ s1.port = Port.start ∧ s1.adv = Advance.start ∧
      s1.drive = Drive.start s.faults.drive.isSome ∧ s1.faults = { s.faults with station := none } ∧
      s1.events = ⟨s.events.flags, false, true⟩ ∧ s1.mem.inFlight = s.mem.inFlight ∧
      s1.channels = Vector.replicate 8 ChannelRec.start := by
    rw [hstart]
    exact ⟨rfl, rfl, rfl, rfl, rfl, rfl, rfl, rfl, rfl, rfl, rfl⟩
  clear hstart
  obtain ⟨sboot, scfg, spins, spending, sport, sadv, sdrive, sfaults, sevents, sflight, schannels⟩ := hs1
  have hchannel (i : Fin 8) : s1.ch i = ChannelRec.start := ch_replicate i schannels
  have hgate (i : Fin 8) : (s1.ch i).gate = false := by rw [hchannel]; rfl
  have hoff : s1.jobsRun = false := by rw [State.jobsRun, sport]; rfl
  obtain ⟨hboot, hcfg, -, -, hpending, hport, hadv, hdrive, hthrust, hfaults, hevents, -, hflight, -⟩ := frame_acceptConfig s1
  have hch := ch_acceptConfig_of_off hoff hgate
  obtain ⟨seen, sd, cd, hfinish⟩ := finish_of_off (s := acceptConfig s1) (by rw [State.onBackbone, State.jobsRun, hport, sport]; rfl)
    fun i => by obtain ⟨d, hd⟩ := hch i; rw [hd]; exact hgate i
  rw [(frame_configAccepted s1).1] at hboot
  refine ⟨finish (acceptConfig s1), hexec, ?_⟩
  rw [hfinish]
  generalize acceptConfig s1 = w at hboot hcfg hpending hport hadv hdrive hthrust hfaults hevents hflight hch ⊢
  refine ⟨hcfg.trans scfg, ?_, hfaults.trans sfaults, ?_, ?_, ?_, ?_, ?_, hadv.trans sadv, hdrive.trans sdrive,
    hthrust.trans (by rw [scfg]), hflight.trans sflight, fun i => ?_, hpending.trans spending⟩
  · change w.boot = _
    rw [hboot, sboot, sflight]
  · change w.events.flags = _
    rw [hevents, sevents]
  · change w.events.stopped = _
    rw [hevents, sevents, spins, Bool.false_or]
  · change w.port.backbone = _
    rw [hport, sport]
    rfl
  · change w.port.queue = _
    rw [hport, sport]
    rfl
  · change w.port.rx = _
    rw [hport, sport]
    rfl
  · obtain ⟨d, hd⟩ := hch i
    change (w.ch i).gate = false ∧ (w.ch i).high = _ ∧ (w.ch i).capture = none
    rw [hd, hchannel]
    exact ⟨rfl, by rw [State.chCfg, scfg]; rfl, rfl⟩

/-- Settles O23: the acceptance and CONFIG_BAD, each followed by the end of the event. -/
theorem configReadDecides : Obligations.ConfigReadDecides := by
  refine ⟨fun bytes s c hp hload => ?_, fun a s hp hstation hbad => ?_⟩
  · have hexec := exec_configReadComplete_of_good hp hload
    obtain ⟨s1, hs1⟩ : ∃ s1 : State, s1 = { s with
      mem := { s.mem with image := bytes }, cfg := c, boot := { s.boot with digest := c.machineDigest } } := ⟨_, rfl⟩
    rw [← hs1] at hexec
    obtain ⟨hboot, hcfg, hpins, -, hpending, hport, -, hdrive, -, hfaults, hevents, hconverting, hflight, himage⟩ :=
      frame_acceptConfig s1
    have hscan : (configAccepted s1).scanned = (acceptConfig s1).scanned := scanned_congr (by rw [hcfg]; simp) (by rw [hboot])
    rw [converting_configAccepted, hscan] at hconverting
    rw [(frame_configAccepted s1).1] at hboot
    have hkept := kept_finish (acceptConfig s1)
    generalize acceptConfig s1 = w at *
    rw [answer_eq] at hexec
    generalize finish w = t at *
    refine ⟨t, hexec, ?_, ?_, ?_, ?_, ?_, ?_, ?_, ?_, ?_, ?_⟩
    · rw [cfg_of_kept hkept, hcfg, hs1]
    · rw [boot_of_kept hkept, hboot, hs1]
    · rw [converting_of_kept hkept, hconverting, scanned_congr (cfg_of_kept hkept).symm (by rw [boot_of_kept hkept])]
    · rw [image_of_kept hkept, himage, hs1]
    · rw [stopped_of_kept hkept, hevents, hs1]
    · rw [backbone_of_kept hkept, hport, hs1]
    · rw [faults_of_kept hkept, hfaults, hs1]
    · rw [drive_of_kept hkept, hdrive, hs1]
    · rw [pins_of_kept hkept, hpins, hs1]
    · rw [pending_of_kept hkept, hpending, hs1]
  · have hnone : a.bind (loadImage s.boot.station) = none := by
      cases a with
      | none => rfl
      | some bytes => exact hbad bytes rfl
    have hexec := exec_configReadComplete_of_bad hp hnone
    obtain ⟨s1, hs1⟩ : ∃ s1 : State, s1 = { s with mem.image := a.getD s.mem.image } := ⟨_, rfl⟩
    rw [← hs1] at hexec
    have hget : s1.faults.get .station = none := by rw [hs1]; exact hstation
    have hshoe : (configBad s1).shoe = s1.shoe ∧ (configBad s1).drive = s1.drive :=
      jobs_raiseFault_station (s := configRejected s1) hget _ _
    have hbackbone : (configBad s1).port.backbone = s1.port.backbone := by simp [configBad]
    have hfaults := faults_configBad (by rw [hs1]; exact hstation : s1.faults.station = none)
    have hboot := boot_configBad s1
    have hcfg : (configBad s1).cfg = s1.cfg := by simp [configBad]
    have hpending : (configBad s1).pending = s1.pending := by simp [configBad]
    have hkept := kept_finish (configBad s1)
    have halarm := alarm_finish_of_not_accepted (s := configBad s1) (by rw [hboot])
    generalize configBad s1 = w at *
    rw [answer_eq] at hexec
    generalize finish w = t at *
    refine ⟨t, hexec, ?_, ?_, halarm, ?_, ?_, ?_, ?_, ?_⟩
    · rw [boot_of_kept hkept, hboot, hs1]
    · rw [faults_of_kept hkept, hfaults, hs1]
      rfl
    · rw [cfg_of_kept hkept, hcfg, hs1]
    · rw [backbone_of_kept hkept, hbackbone, hs1]
    · rw [drive_of_kept hkept, hshoe.2, hs1]
    · rw [shoe_of_kept hkept, hshoe.1, hs1]
    · rw [pending_of_kept hkept, hpending, hs1]

end

section
/-! Frames on the line (O27, O28, O29, O30): what the end of an event finds there. -/
namespace Sys2Proof.Machine
open Sys2Proof

variable {s t u v e : State} {c : Instr}

/-! ## From a state after the effect to a claim -/

/-- A command answered with the end of its event gives every state that differs in nothing kept and in no flag set. -/
theorem gives_of_kept (h : exec c s = answer u) (hk : u.kept = e.kept) (hf : Grows e u) : Gives c s e :=
  ⟨finish u, h, (kept_finish u).trans hk, (hf.trans (grows_finish u)).and_eq⟩

theorem gives_of_events (h : exec c s = answer u) (hk : u.kept = e.kept) (hf : u.events = e.events) : Gives c s e :=
  gives_of_kept h hk (.of_eq hf)

/-- At rest the end of the event does nothing. -/
theorem next_of_atRest (h : exec c s = answer u) (hr : AtRest u) : exec c s = .next u := h.trans hr.answer

/-! ## The backbone state -/

@[simp] theorem frame_setBackbone (b : Backbone) (s : State) :
    (setBackbone b s).port = { s.port with backbone := b } ∧ (setBackbone b s).table = s.table ∧ (setBackbone b s).adv = s.adv ∧
      (setBackbone b s).drive = s.drive ∧ (setBackbone b s).thrust = s.thrust ∧ (setBackbone b s).inputs = s.inputs ∧
      (setBackbone b s).converting = s.converting ∧ (setBackbone b s).faults = s.faults ∧ (setBackbone b s).events = s.events ∧
      (setBackbone b s).mem = s.mem := by
  unfold setBackbone
  dsimp only
  split <;> split <;> simp

/-- Where an abort of a ring build takes the shoe (R102). -/
def abortedShoe : ShoeState → ShoeState
  | .engaged | .claiming => .engaged
  | .retracting | .clear | .extending => .extending

/-- An abort of a ring build leaves the shoe ENGAGED or EXTENDING (R102). -/
theorem state_abortByState (hf : s.faults.thrust = none) : (abortByState s).shoe.state = abortedShoe s.shoe.state := by
  unfold abortByState
  split
  · rename_i h
    rw [h, abortedShoe]
  · rename_i h
    rw [h, abortedShoe]
  · rename_i h
    rw [h, abortedShoe]
    rfl
  · rename_i h
    rw [h, abortedShoe]
    simp [enterExtending, writeExtendDuties]
  · rename_i h
    rw [h, abortedShoe, hf]
    simp [enterExtending, writeExtendDuties]

theorem state_abortBuild (hm : s.shoeMoves = true) (hf : s.faults.thrust = none) : (abortBuild s).shoe.state = abortedShoe s.shoe.state := by
  unfold abortBuild
  rw [if_pos hm, state_abortByState hf]

theorem shoe_setBackbone_isolated (hj : s.jobsRun = true) (ht : s.holds .thrust = true) (hs : s.events.stopped = false)
    (hf : s.faults.thrust = none) : (setBackbone .isolated s).shoe.state = abortedShoe s.shoe.state := by
  unfold setBackbone
  dsimp only
  rw [if_pos rfl, if_pos hj]
  simp only [frame_refreshGates]
  have hmoves : (decideLine { s with port := { s.port with backbone := .isolated } }).shoeMoves = true := by
    simp [State.shoeMoves, State.shoeActs, State.jobsRun, State.holds, State.effectiveRoles, hs]
    exact ht
  rw [state_abortBuild hmoves (by simpa using hf)]
  simp

theorem kept_leaveIsolated (s : State) : (leaveIsolated s).kept = ({ s with port := { s.port with
    backbone := if s.port.backbone = .isolated then .online else s.port.backbone
    failures := if s.port.backbone = .isolated then 0 else s.port.failures } } : State).kept := by
  by_cases h : s.port.backbone = .isolated
  · rw [kept_leaveIsolated_of_isolated h, if_pos h, if_pos h]
  · rw [leaveIsolated_of_ne h, if_neg h, if_neg h]

theorem events_leaveIsolated (s : State) : (leaveIsolated s).events = s.events := by
  unfold leaveIsolated
  split <;> simp

/-! ## Frames judged -/

/-- A frame that is read: a good one on the backbone (R4). -/
theorem exec_frameArrives_of_good {f : Frame} (hb : s.onBackbone = true) (hg : f.good = true) : exec (.frameArrives f) s =
    answer (judgeFrame f (leaveIsolated { s with port := { s.port with ackDriven := true } })) := by
  change execFrameArrives f s = _
  unfold execFrameArrives
  rw [hb, hg]
  rfl

/-- What acknowledging a frame keeps (R4, R16). -/
theorem kept_acknowledging (s : State) : (leaveIsolated { s with port := { s.port with ackDriven := true } }).kept =
    ({ s with port := { s.port with
      ackDriven := true
      backbone := if s.port.backbone = .isolated then .online else s.port.backbone
      failures := if s.port.backbone = .isolated then 0 else s.port.failures } } : State).kept :=
  kept_leaveIsolated _

theorem judgeFrame_of_content {f : Frame} {b : Bulletin} (hs : f.sender ≠ s.boot.station) (hc : f.content = some b) :
    judgeFrame f s = bufferFrame f.sender b s := by
  unfold judgeFrame
  rw [if_neg hs, hc]

theorem judgeFrame_of_rejected {f : Frame} (hs : f.sender ≠ s.boot.station) (hc : f.content = none) :
    judgeFrame f s = { s with port := { s.port with rejected := min 255 (s.port.rejected + 1) } } := by
  unfold judgeFrame
  rw [if_neg hs, hc]

end Sys2Proof.Machine

open Sys2Proof Sys2Proof.Machine

/-- Settles O27: at rest the end of the event does nothing. -/
theorem lineOffersHeadAndKeepsLoser : Obligations.LineOffersHeadAndKeepsLoser := by
  refine ⟨fun s e rest hr hb hon hq => next_of_atRest ?_ (hr.withPort rfl rfl rfl rfl), fun s f hr hon =>
    next_of_atRest ?_ (hr.withPort rfl rfl rfl rfl)⟩
  · change execLineFree s = _
    unfold execLineFree
    rw [hb, hon, hq]
    rfl
  · change execLostArbitration s = _
    unfold execLostArbitration
    rw [hon]

/-- Settles O28: the frame off the line, the count kept, and the change of the backbone state with it. -/
theorem frameOutcomesCounted : Obligations.FrameOutcomesCounted := by
  have hack (s : State) (f : Frame) (hon : s.port.onLine = some f) : exec .acknowledged s = answer (leaveIsolated
      { s with port := { s.port with onLine := none, failures := 0, queue := afterEnd f.kindCode s.port.queue } }) := by
    change execAcknowledged s = _
    unfold execAcknowledged
    rw [hon]
  have hfail (c : Instr) (hc : c = .unacknowledged ∨ c = .bitError) (s : State) (f : Frame) (hon : s.port.onLine = some f) :
      exec c s = answer (failTransmission f s) := by
    rcases hc with rfl | rfl
    · change execUnacknowledged s = _
      unfold execUnacknowledged
      rw [hon]
    · change execBitError s = _
      unfold execBitError
      rw [hon]
  refine ⟨fun s f hr hon hne => ?_, fun s f hon => ?_, fun c hc => ⟨fun s f hr hon hcount => ?_, fun s f hon hb hcount => ?_⟩⟩
  · exact next_of_atRest ((hack s f hon).trans (congrArg answer (leaveIsolated_of_ne (by exact hne)))) (hr.withPort rfl rfl rfl rfl)
  · refine gives_of_events (hack s f hon) ((kept_leaveIsolated _).trans ?_) (events_leaveIsolated _)
    simp only [ite_self]
    rfl
  · refine next_of_atRest ((hfail c hc s f hon).trans ?_) (hr.withPort rfl rfl rfl rfl)
    unfold failTransmission
    dsimp only
    rw [if_neg fun h => by have := hcount h.1; omega]
  · obtain ⟨u, hu⟩ : ∃ u : State, u = { s with port := { s.port with
      onLine := none, failures := 16, queue := afterEnd f.kindCode s.port.queue } } := ⟨_, rfl⟩
    have hstep : failTransmission f s = setBackbone .isolated u := by
      unfold failTransmission
      dsimp only
      rw [Nat.min_eq_left (by omega), if_pos ⟨hb, rfl⟩, hu]
    have hexec := hfail c hc s f hon
    rw [hstep, answer_eq] at hexec
    have hkept := kept_finish (setBackbone .isolated u)
    have hframe := frame_setBackbone .isolated u
    have hcfg : (setBackbone .isolated u).cfg = u.cfg := by simp
    have hshoe := shoe_setBackbone_isolated (s := u) (by simp [State.jobsRun, hu, hb])
    generalize setBackbone .isolated u = w at *
    generalize finish w = t at *
    obtain ⟨hport, -, hadv, hdrive, -, -, -, hfaults, -, -⟩ := hframe
    refine ⟨t, hexec, ?_, ?_, ?_, ?_, ?_, ?_, ?_, ?_, fun ht hs hf => ?_⟩
    · rw [backbone_of_kept hkept, hport]
    · rw [failures_of_kept hkept, hport, hu]
    · rw [onLine_of_kept hkept, hport, hu]
    · rw [rx_of_kept hkept, hport, hu]
    · rw [drive_of_kept hkept, hdrive, hu]
    · rw [ring_of_kept hkept, hadv, hu]
    · rw [faults_of_kept hkept, hfaults, hu]
    · rw [cfg_of_kept hkept, hcfg, hu]
    · have haborted := hshoe (by rw [hu]; exact ht) (by rw [hu]; exact hs) (by rw [hu]; exact hf)
      rw [← shoe_of_kept hkept, hu] at haborted
      exact haborted

/-- Settles O29: the frame is read and its content appended. -/
theorem goodFrameIsBuffered : Obligations.GoodFrameIsBuffered := by
  intro s f b hb hg hs hc hlen
  have hkept := kept_acknowledging s
  have hevents := events_leaveIsolated { s with port := { s.port with ackDriven := true } }
  have hexec := exec_frameArrives_of_good hb hg
  generalize leaveIsolated { s with port := { s.port with ackDriven := true } } = v at *
  have hrx : v.port.rx = s.port.rx := (rx_of_kept hkept).trans rfl
  have hcfg : v.cfg = s.cfg := (cfg_of_kept hkept).trans rfl
  have hboot : v.boot = s.boot := (boot_of_kept hkept).trans rfl
  rw [judgeFrame_of_content (by rw [hboot]; exact hs) hc, bufferFrame, if_pos (by rw [hrx]; exact hlen)] at hexec
  refine gives_of_events hexec ?_ hevents
  calc _ = ({ v.kept with rx := v.port.rx ++ [⟨f.sender, b.buffered v.cfg⟩] } : Kept) := rfl
    _ = _ := by rw [hkept, hrx, hcfg]; rfl

/-- Settles O30: nothing is buffered. -/
theorem otherFramesAreDropped : Obligations.OtherFramesAreDropped := by
  refine ⟨fun s f b hb hg hs hc hlen => ?_, fun s f hb hg hs hc => ?_, fun s f hr hbad => ?_⟩
  · have hkept := kept_acknowledging s
    have hevents := events_leaveIsolated { s with port := { s.port with ackDriven := true } }
    have hexec := exec_frameArrives_of_good hb hg
    generalize leaveIsolated { s with port := { s.port with ackDriven := true } } = v at *
    have hrx : v.port.rx = s.port.rx := (rx_of_kept hkept).trans rfl
    have hboot : v.boot = s.boot := (boot_of_kept hkept).trans rfl
    rw [judgeFrame_of_content (by rw [hboot]; exact hs) hc, bufferFrame, if_neg (by rw [hrx]; omega)] at hexec
    refine gives_of_kept hexec ((kept_raiseEvent _ v).trans hkept) (.of_eq ?_)
    simp [hevents]
  · have hkept := kept_acknowledging s
    have hevents := events_leaveIsolated { s with port := { s.port with ackDriven := true } }
    have hexec := exec_frameArrives_of_good hb hg
    generalize leaveIsolated { s with port := { s.port with ackDriven := true } } = v at *
    have hrejected : v.port.rejected = s.port.rejected := (rejected_of_kept hkept).trans rfl
    have hboot : v.boot = s.boot := (boot_of_kept hkept).trans rfl
    rw [judgeFrame_of_rejected (by rw [hboot]; exact hs) hc] at hexec
    refine gives_of_events hexec ?_ hevents
    calc _ = ({ v.kept with rejected := min 255 (v.port.rejected + 1) } : Kept) := rfl
      _ = _ := by rw [hkept, hrejected]; rfl
  · refine next_of_atRest ?_ (hr.withPort rfl rfl rfl rfl)
    change execFrameArrives f s = _
    unfold execFrameArrives
    rw [if_neg (by simp only [Bool.and_eq_true]; rintro ⟨ho, hg⟩; simp_all)]

end

section
/-! What the operations of the jobs leave of `Kept`: a pending duty, the screw, the shoe. -/
namespace Sys2Proof.Machine
open Sys2Proof

variable {s t u v e : State} {c : Instr}

/-! ## Pending duties -/

/-- The channel mapped to a function, as `Kept` sees it. -/
def Kept.channelOf (k : Kept) (f : ChFunction) : Option (Fin 8) :=
  channelIndices.find? fun i => k.cfg.channels[i].function == f

def Kept.setDuty (k : Kept) (i : Option (Fin 8)) (d : Nat) : Kept :=
  match i with
  | some i => { k with duties := k.duties.set i d }
  | none => k

/-- A pending duty written, as `Kept` sees it: the pump's is not kept (R118). -/
def Kept.withDuty (k : Kept) (f : ChFunction) (d : Nat) : Kept := k.setDuty (k.channelOf f) (if f = .groutPump then 0 else d)

theorem Kept.channelOf_setDuty (k : Kept) (i : Option (Fin 8)) (d : Nat) (f : ChFunction) :
    (k.setDuty i d).channelOf f = k.channelOf f := by
  cases i <;> rfl

theorem captures_putChannel {i : Fin 8} {r : ChannelRec} (hc : r.capture = (s.ch i).capture)
    (ht : r.timeoutTimer = (s.ch i).timeoutTimer) : (putChannel i r s).kept.captures = s.kept.captures := by
  have h := kept_putChannel (s := s) (i := i) (r := { r with pending := (s.ch i).pending }) hc ht (.inl rfl)
  have hcaptures := congrArg Kept.captures h
  simp only [State.kept, putChannel, Vector.toList_set, List.map_set] at hcaptures ⊢
  exact hcaptures

theorem dutiesKept_putChannel (i : Fin 8) (r : ChannelRec) (s : State) : (putChannel i r s).dutiesKept =
    s.dutiesKept.set i (if (s.chCfg i).function = .groutPump then 0 else r.pending) := by
  refine List.ext_getElem (by simp [State.dutiesKept]) fun j h1 h2 => ?_
  have hj : j < 8 := by simpa [State.dutiesKept, channelIndices] using h1
  have hindex (k : Nat) (hk : k < 8) : channelIndices[k]'(by simpa [channelIndices] using hk) = ⟨k, hk⟩ := by
    interval_cases k <;> rfl
  simp only [State.dutiesKept, List.getElem_map, List.getElem_set, hindex j hj, putChannel_chCfg, ch_putChannel]
  by_cases hij : i = ⟨j, hj⟩
  · simp [hij]
  · have : (i : Nat) ≠ j := fun h => hij (Fin.ext h)
    simp [hij, this]

theorem kept_writeDuty (f : ChFunction) (d : Nat) (s : State) : (writeDuty f d s).kept = s.kept.withDuty f d := by
  have hchannel : s.kept.channelOf f = s.channelOf f := rfl
  unfold writeDuty Kept.withDuty
  rw [hchannel]
  split
  · rename_i i hi
    have hcaptures := captures_putChannel (s := s) (i := i) (r := { s.ch i with pending := d }) rfl rfl
    have hduties := dutiesKept_putChannel i { s.ch i with pending := d } s
    rw [channelOf_function hi] at hduties
    calc (putChannel i { s.ch i with pending := d } s).kept
        = { s.kept with
            captures := (putChannel i { s.ch i with pending := d } s).kept.captures
            duties := (putChannel i { s.ch i with pending := d } s).dutiesKept } := rfl
      _ = _ := by rw [hcaptures, hduties, hi]; rfl
  · rename_i hi
    rw [hi]
    rfl

/-- Of two duties written for one function the last stands. -/
theorem Kept.withDuty_same (k : Kept) (f : ChFunction) (d d' : Nat) : (k.withDuty f d).withDuty f d' = k.withDuty f d' := by
  unfold Kept.withDuty
  rw [Kept.channelOf_setDuty]
  rcases k.channelOf f with _ | i
  · rfl
  · simp [Kept.setDuty]

theorem Kept.channelOf_ne {k : Kept} {f g : ChFunction} {i j : Fin 8} (h : f ≠ g) (hf : k.channelOf f = some i)
    (hg : k.channelOf g = some j) : (i : Nat) ≠ j := by
  intro hij
  have hi := List.find?_some hf
  have hj := List.find?_some hg
  rw [Fin.ext hij] at hi
  simp only [beq_iff_eq] at hi hj
  exact h (hi.symm.trans hj)

/-- Duties of two functions are written in either order. -/
theorem Kept.withDuty_comm (k : Kept) {f g : ChFunction} (h : f ≠ g) (d d' : Nat) :
    (k.withDuty f d).withDuty g d' = (k.withDuty g d').withDuty f d := by
  unfold Kept.withDuty
  rw [Kept.channelOf_setDuty, Kept.channelOf_setDuty]
  rcases hf : k.channelOf f with _ | i
  · rfl
  · rcases hg : k.channelOf g with _ | j
    · rfl
    · simp only [Kept.setDuty]
      rw [List.set_comm _ _ (Kept.channelOf_ne h hf hg)]

theorem Kept.withDuty_keeps (k : Kept) (f : ChFunction) (d : Nat) : ∃ l, k.withDuty f d = { k with duties := l } := by
  unfold Kept.withDuty
  cases k.channelOf f with
  | some i => exact ⟨_, rfl⟩
  | none => exact ⟨k.duties, rfl⟩

end Sys2Proof.Machine
end

section
/-! Ring builds and identities taken (O34, O38, O43, O53): what a command makes of `Kept`, past the changes of the peer table. -/
namespace Sys2Proof.Machine
open Sys2Proof

variable {s t u v e : State} {c : Instr}

theorem Grows.of_flags (h : t.events.flags = s.events.flags) : Grows s t := ⟨0#16, by rw [h]; simp⟩

/-! ## Readers of `Kept` -/

theorem holds_of_kept (h : t.kept = s.kept) (r : Role) : t.holds r = s.holds r := by
  simp only [State.holds, State.effectiveRoles, cfg_of_kept h, boot_of_kept h]

theorem timer_of_kept (h : t.kept = s.kept) (ms : Nat) : t.timer ms = s.timer ms := by simp only [State.timer, now_of_kept h]

theorem jobsRun_of_kept (h : t.kept = s.kept) : t.jobsRun = s.jobsRun := by simp only [State.jobsRun, backbone_of_kept h]

theorem shoeActs_of_kept (h : t.kept = s.kept) : t.shoeActs = s.shoeActs := by
  simp only [State.shoeActs, holds_of_kept h, jobsRun_of_kept h]

theorem shoeMoves_of_kept (h : t.kept = s.kept) : t.shoeMoves = s.shoeMoves := by
  simp only [State.shoeMoves, shoeActs_of_kept h, stopped_of_kept h]

theorem claimable_of_kept (h : t.kept = s.kept) (b : BuildBody) : t.claimable b = s.claimable b := by
  simp only [State.claimable, mode_of_kept h, backbone_of_kept h, cfg_of_kept h, ring_of_kept h, shoe_of_kept h]

/-! ## A content taken -/

theorem popFrame_of_rx {f : RxFrame} {rest : List RxFrame} (h : s.port.rx = f :: rest) :
    popFrame s = { s with port := { s.port with rx := rest } } := by
  unfold popFrame
  rw [h]
  rfl

/-- A console's content taken keeps what writing it into the console's entry keeps. -/
theorem kept_takeConsole (b : Bulletin) (s : State) : (takeContent 0 b s).kept =
    ({ s with table := { s.table with console := s.table.console.write (s.timer s.cfg.lapseTime) b } } : State).kept := by
  unfold takeContent takeConsole
  rw [if_pos rfl, kept_tableChanged]

theorem grows_takeContent (n : Nat) (b : Bulletin) (s : State) : Grows s (takeContent n b s) := by
  unfold takeContent takeConsole takeStation
  dsimp only
  split
  · exact (grows_tableChanged _).from rfl
  · split
    · exact ((grows_raiseEvent .configMismatch { s with table := s.table.putEntry n { (s.table.entry n).write
        (s.timer s.cfg.lapseTime) b with liveness := .live, foreign := foreignAfter s.boot.digest (s.table.entry n).foreign b } }).trans
        (grows_tableChanged _)).from rfl
    · exact (grows_tableChanged _).from rfl

/-- The entry that a content of station `n` leaves (R19 to R21). -/
def State.entryTaken (s : State) (n : Nat) (b : Bulletin) : StationEntry :=
  { (s.table.entry n).write (s.timer s.cfg.lapseTime) b with
    liveness := .live, foreign := foreignAfter s.boot.digest (s.table.entry n).foreign b }

theorem kept_takeStation {n : Nat} (hn : n ≠ 0) (b : Bulletin) (s : State) :
    (takeContent n b s).kept = ({ s with table := s.table.putEntry n (s.entryTaken n b) } : State).kept := by
  unfold takeContent takeStation
  rw [if_neg hn]
  dsimp only
  rw [kept_tableChanged]
  split
  · rw [kept_raiseEvent]
    rfl
  · rfl

theorem stations_takeStation {n : Nat} (hn : n ≠ 0) (b : Bulletin) (s : State) :
    (takeContent n b s).table.stations = (s.table.putEntry n (s.entryTaken n b)).stations := by
  unfold takeContent takeStation
  rw [if_neg hn]
  dsimp only
  simp only [frame_tableChanged]
  split <;> rfl

theorem entry_congr {p q : PeerTable} (h : p.stations = q.stations) (n : Nat) : p.entry n = q.entry n := by
  simp only [PeerTable.entry, h]

/-- The end of an event leaves another station's entry. -/
theorem EndMoves.entry {w : State → OwnKind → Prop} {n : Nat} (h : EndMoves w s t) (hn : n ≠ s.boot.station) :
    t.table.entry n = s.table.entry n := by
  refine (h.keeps (P := fun u => u.boot = s.boot ∧ u.table.entry n = s.table.entry n) (fun u v hm hu => ?_) ⟨rfl, rfl⟩).2
  obtain ⟨hboot, hentry⟩ := hu
  refine ⟨(boot_of_kept hm.kept).trans hboot, ?_⟩
  obtain ⟨-, -, ⟨k, -, -, -, rfl⟩ | hstations⟩ := hm.table
  · rw [putOwnEntry_table, putEntry_entry_other _ _ (by rw [hboot]; exact hn.symm), hentry]
  · rw [entry_congr hstations, hentry]

theorem entry_finish {n : Nat} (hn : n ≠ s.boot.station) : (finish s).table.entry n = s.table.entry n :=
  (endMoves_finish s).entry hn

/-- A content of another station taken: its entry after the end of the event. -/
theorem entry_finish_takeStation {n : Nat} (b : Bulletin) (h1 : 1 ≤ n) (h15 : n ≤ 15) (hn : n ≠ s.boot.station) :
    (finish (takeContent n b s)).table.entry n = s.entryTaken n b := by
  rw [entry_finish (by rw [boot_takeContent]; exact hn), entry_congr (stations_takeStation (by omega) b s),
    putEntry_entry_self _ _ h1 h15]

/-! ## The shoe -/

theorem kept_enterExtending (s : State) : (enterExtending s).kept =
    (({ s with shoe := { s.shoe with state := .extending, retract := .stopped, extend := s.timer s.cfg.extendTimeout } } :
      State).kept.withDuty .thrustExtend (dutyOf s.cfg.pShoe s.cfg.pFull)).withDuty .thrustRetract 0 := by
  unfold enterExtending writeExtendDuties
  rw [kept_refreshGates, kept_writeDuty, kept_writeDuty]

/-- A retraction whose stroke is above its target goes on (R98). -/
theorem checkRetracted_of_lt (h : s.retractTarget < s.adv.stroke) : checkRetracted s = s := by
  unfold checkRetracted
  rw [if_neg fun hr => by omega]

/-- The flags a station's content raises when it is taken (R21). -/
theorem grows_takeStation {n : Nat} (hn : n ≠ 0) (b : Bulletin)
    (he : e.events.flags = if foreignAfter s.boot.digest (s.table.entry n).foreign b && !(s.table.entry n).foreign then
      s.events.flags ||| EventFlag.configMismatch.mask else s.events.flags) : Grows e (takeContent n b s) := by
  unfold takeContent takeStation
  rw [if_neg hn]
  dsimp only
  generalize hw : s.table.putEntry n _ = w
  split
  · rename_i h
    rw [if_pos h] at he
    have hraised : Grows e (raiseEvent .configMismatch { s with table := w }) := Grows.of_flags he.symm
    exact hraised.trans (grows_tableChanged _)
  · rename_i h
    rw [if_neg h] at he
    have hsame : Grows e { s with table := w } := Grows.of_flags he.symm
    exact hsame.trans (grows_tableChanged _)

theorem yieldScrew_of_not {b : IdBody} (h : (s.holds .screw && b.roles.screw) = false) : yieldScrew b s = s := by
  unfold yieldScrew
  rw [h]
  rfl

theorem yieldSector_of_not {b : IdBody}
    (h : (s.holds .thrust && b.roles.thrust && s.cfg.sector == some b.sector) = false) : yieldSector b s = s := by
  unfold yieldSector
  rw [h]
  rfl

/-- The group at the entry to RETRACTING, its stroke above the target (R98). -/
theorem kept_enterRetracting (hstroke : 0 < s.adv.stroke) (hclear : 0 < s.cfg.retractClearance) {cl : Claim}
    (hclaim : s.shoe.claim = some cl) : (enterRetracting s).kept =
    (({ s with shoe := { s.shoe with
        state := .retracting
        claim := some { cl with strokeAtEntry := some s.adv.stroke }
        wait := .none
        holdOff := .stopped
        waitTimer := .stopped
        retract := s.timer s.cfg.retractTimeout } } : State).kept.withDuty .thrustExtend 0).withDuty .thrustRetract
      s.cfg.retractDuty := by
  unfold enterRetracting
  rw [checkRetracted_of_lt, kept_refreshGates, kept_writeDuty, kept_writeDuty, hclaim]
  · rfl
  · simp only [State.retractTarget, releaseTarget, frame_refreshGates, frame_writeDuty, base_refreshGates, base_writeDuty, hclaim,
      Option.map_some, Option.getD_some]
    omega

end Sys2Proof.Machine

open Sys2Proof Sys2Proof.Machine

/-- Settles O34: no role is yielded, so that only the entry, its foreign flag and the event move. -/
theorem idIdentifiesEntry : Obligations.IdIdentifiesEntry := by
  intro s n b rest hrx h1 h15 hn hyield
  have hn0 : n ≠ 0 := by omega
  have hdecide : (b.digest != s.boot.digest) = decide (b.digest ≠ s.boot.digest) := by
    by_cases h : b.digest = s.boot.digest <;> simp [h]
  have hexec : exec .idTaken s = answer (checkYield n b (takeContent n (.id b) (popFrame s))) := by
    change execIdTaken s = _
    unfold execIdTaken
    rw [hrx]
  rw [popFrame_of_rx hrx] at hexec
  obtain ⟨p, hp⟩ : ∃ p : State, p = { s with port := { s.port with rx := rest } } := ⟨_, rfl⟩
  rw [← hp] at hexec
  have hentry : p.entryTaken n (.id b) = { s.table.entry n with
      id := ⟨some b, s.timer s.cfg.lapseTime⟩, liveness := .live, foreign := decide (b.digest ≠ s.boot.digest) } := by
    rw [hp, ← hdecide]
    rfl
  have hkept := kept_takeStation hn0 (.id b) p
  have hlast := entry_finish_takeStation (s := p) (.id b) h1 h15 (by rw [hp]; exact hn)
  have hnow : (takeContent n (.id b) p).table.entry n = p.entryTaken n (.id b) := by
    rw [entry_congr (stations_takeStation hn0 _ _), putEntry_entry_self _ _ h1 h15]
  have hgrows := grows_takeStation (s := p) (e := { s with
      port := { s.port with rx := rest }
      table := s.table.putEntry n (p.entryTaken n (.id b))
      events := { s.events with flags :=
        if b.digest ≠ s.boot.digest ∧ (s.table.entry n).foreign = false then
          s.events.flags ||| EventFlag.configMismatch.mask else s.events.flags } }) hn0 (.id b) (by
    rw [hp]
    simp [foreignAfter])
  have hsame : checkYield n b (takeContent n (.id b) p) = takeContent n (.id b) p := by
    generalize takeContent n (.id b) p = v at *
    unfold checkYield
    split
    · rename_i hlow
      obtain ⟨hlow, hown⟩ := hlow
      rw [hnow, hentry] at hown
      have hboot : v.boot = s.boot := (boot_of_kept hkept).trans (by rw [hp])
      have hcfg : v.cfg = s.cfg := (cfg_of_kept hkept).trans (by rw [hp])
      have hholds (r : Role) : v.holds r = s.holds r := by simp only [State.holds, State.effectiveRoles, hboot, hcfg]
      rcases hyield with h | h | ⟨hscrew, hsector⟩
      · rw [hboot] at hlow
        omega
      · simp [h] at hown
      · rw [yieldScrew_of_not (by rw [hholds]; exact hscrew), yieldSector_of_not (by rw [hholds, hcfg]; exact hsector)]
    · rfl
  rw [hsame, answer_eq] at hexec
  refine ⟨_, hexec, hlast.trans hentry, ?_, ?_⟩
  · rw [kept_finish, hkept, hentry, hp]
    rfl
  · rw [hentry] at hgrows
    exact (hgrows.trans (grows_finish _)).and_eq

/-- Settles O53: the tests and the expiry of a claim. -/
theorem claimTimersDecide : Obligations.ClaimTimersDecide := by
  refine ⟨fun s hon hst => ⟨fun hreason => ?_, fun hreason hstroke hclear c hclaim => ?_⟩, fun s c hon hst hclaim => ?_⟩
  · have hexec : exec .holdOffExpiry s = answer (testClaim { s with shoe := { s.shoe with holdOff := .stopped } }) := by
      change execHoldOffExpiry s = _
      unfold execHoldOffExpiry
      rw [hon, hst]
      rfl
    unfold testClaim at hexec
    rw [if_neg (by exact hreason)] at hexec
    exact gives_of_events hexec rfl rfl
  · have hexec : exec .holdOffExpiry s = answer (testClaim { s with shoe := { s.shoe with holdOff := .stopped } }) := by
      change execHoldOffExpiry s = _
      unfold execHoldOffExpiry
      rw [hon, hst]
      rfl
    unfold testClaim at hexec
    rw [if_pos (by exact hreason)] at hexec
    refine gives_of_events hexec ((kept_enterRetracting hstroke hclear hclaim).trans ?_) ?_
    · rw [kept_writeDuty, kept_writeDuty]
    · simp [enterRetracting, releaseTarget]
  · have hexec : exec .waitTimerExpiry s = answer (expireClaim s) := by
      change execWaitTimerExpiry s = _
      unfold execWaitTimerExpiry
      rw [hon, hst]
      rfl
    refine gives_of_events hexec ?_ rfl
    unfold expireClaim State.claimStep
    rw [kept_raiseEvent, hclaim]
    dsimp only
    split <;> simp_all <;> rfl

end

section
/-! Ring builds taken (O38). -/
namespace Sys2Proof.Machine
open Sys2Proof

variable {s t u v e : State} {c : Instr}

@[simp] theorem events_takeBuild (b : BuildBody) (s : State) : (takeBuild b s).events = s.events := by
  unfold takeBuild
  split
  · split
    · split
      · rfl
      · rfl
    · rfl
    · split <;> rfl
    · split <;> rfl
    · split
      · split <;> simp
      · rfl
  · rfl

/-- A BUILD of the console taken: what its hand-over makes of the console's slot filled is what the command gives. -/
theorem gives_buildTaken {b : BuildBody} {rest : List RxFrame} (hrx : s.port.rx = ⟨0, .build b⟩ :: rest)
    (hk : ∀ v : State, v.kept = ({ s with
      port := { s.port with rx := rest }
      table := { s.table with console := { s.table.console with build := ⟨some b, s.timer s.cfg.lapseTime⟩ } } } : State).kept →
      (takeBuild b v).kept = e.kept)
    (he : e.events = s.events) : Gives .buildTaken s e := by
  have hexec : exec .buildTaken s = answer (refreshGates (takeBuild b (takeContent 0 (.build b) (popFrame s)))) := by
    change execBuildTaken s = _
    unfold execBuildTaken
    rw [hrx]
  rw [popFrame_of_rx hrx] at hexec
  have hkept := kept_takeConsole (.build b) { s with port := { s.port with rx := rest } }
  have hgrows := grows_takeContent 0 (.build b) { s with port := { s.port with rx := rest } }
  generalize takeContent 0 (.build b) { s with port := { s.port with rx := rest } } = v at *
  have hflags : Grows e v := (Grows.of_eq (by rw [he])).trans hgrows
  refine gives_of_kept hexec ?_ (hflags.trans (.of_eq ?_))
  · rw [kept_refreshGates]
    exact hk v hkept
  · simp

theorem takeBuild_of_not_moves {b : BuildBody} (h : s.shoeMoves = false) : takeBuild b s = s := by
  unfold takeBuild
  rw [h]
  rfl

theorem takeBuild_of_engaged {b : BuildBody} (hm : s.shoeMoves = true) (hst : s.shoe.state = .engaged) :
    takeBuild b s = if s.claimable b then createClaim b s else s := by
  unfold takeBuild
  rw [hm, hst]
  rfl

theorem takeBuild_of_claiming {b : BuildBody} (hst : s.shoe.state = .claiming) : takeBuild b s = s := by
  unfold takeBuild
  rw [hst]
  split <;> rfl

/-- A BUILD that is no matching PLACED moves no shoe past ENGAGED (R94). -/
theorem takeBuild_of_unplaced {b : BuildBody} (hst : s.shoe.state ≠ .engaged)
    (hb : (b.phase == .placed && s.shoe.matched b) = false) : takeBuild b s = s := by
  unfold takeBuild
  rw [hb]
  split
  · split
    · exact absurd ‹_› hst
    · rfl
    · rfl
    · rfl
    · rfl
  · rfl

/-- A matching PLACED sets the flag alone where the shoe is under way or its record held (R94, R105). -/
theorem takeBuild_of_placed {b : BuildBody} (hm : s.shoeMoves = true)
    (hst : s.shoe.state = .retracting ∨ s.shoe.state = .extending ∨ s.shoe.state = .clear ∧ s.faults.thrust.isSome)
    (hb : (b.phase == .placed && s.shoe.matched b) = true) : takeBuild b s = { s with shoe := s.shoe.markPlaced } := by
  unfold takeBuild
  rw [if_pos hm, hb]
  rcases hst with h | h | ⟨h, hf⟩
  · rw [h]
    rfl
  · rw [h]
    rfl
  · rw [h]
    simp only [hf, if_true]

/-- A matching PLACED in CLEAR starts the extension (R99). -/
theorem takeBuild_of_clear {b : BuildBody} (hm : s.shoeMoves = true) (hst : s.shoe.state = .clear)
    (hf : s.faults.thrust = none) (hb : (b.phase == .placed && s.shoe.matched b) = true) :
    takeBuild b s = enterExtending { s with shoe := s.shoe.markPlaced } := by
  unfold takeBuild
  rw [if_pos hm, hb, hst]
  simp only [if_true, hf, Option.isSome_none, Bool.false_eq_true, if_false]

theorem matched_of_claim {sh : Shoe} {cl : Claim} {b : BuildBody} (hc : sh.claim = some cl) :
    sh.matched b = (b.ring == cl.ring && b.step == cl.step && b.sector == cl.sector) := by
  simp only [Shoe.matched, hc]

theorem markPlaced_of_claim {sh : Shoe} {cl : Claim} (hc : sh.claim = some cl) :
    sh.markPlaced = { sh with claim := some { cl with placed := true } } := by
  simp only [Shoe.markPlaced, hc, Option.map_some]

end Sys2Proof.Machine

open Sys2Proof Sys2Proof.Machine

/-- Settles O38: the cases of the hand-over, along the shoe state. -/
theorem buildStartsAndEndsClaim : Obligations.BuildStartsAndEndsClaim := by
  intro s b rest hrx console
  refine ⟨fun ht hs hst hmode hb hphase hsector hring hserved hexp => ?_, fun cl hm hst hclaim hf hp hr hstep hsec => ?_,
    fun cl hm hclaim hst hp hr hstep hsec => ?_, fun hno => ?_⟩
  · refine gives_buildTaken hrx (fun v hv => ?_) rfl
    have hmoves : v.shoeMoves = true := by
      rw [shoeMoves_of_kept hv]
      simp [State.shoeMoves, State.shoeActs, State.jobsRun, hb, hs]
      exact ht
    have hclaimable : v.claimable b = true := by
      rw [claimable_of_kept hv]
      simp [State.claimable, hmode, hb, hphase, hsector, hring, hserved, hexp]
    rw [takeBuild_of_engaged hmoves ((congrArg Shoe.state (shoe_of_kept hv)).trans hst), if_pos hclaimable]
    calc _ = ({ v.kept with shoe := { v.shoe with
            state := .claiming
            claim := some ⟨b.ring, b.step, b.sector, none, false⟩
            wait := .none
            holdOff := v.timer v.cfg.effectiveHoldoff
            waitTimer := v.timer v.cfg.waitTime } } : Kept) := rfl
      _ = _ := by rw [timer_of_kept hv, timer_of_kept hv, cfg_of_kept hv, shoe_of_kept hv, hv]; rfl
  · have hmatch : (b.phase == .placed && s.shoe.matched b) = true := by
      rw [matched_of_claim hclaim]
      simp [hp, hr, hstep, hsec]
    refine gives_buildTaken hrx (fun v hv => ?_) (by simp)
    rw [takeBuild_of_clear ((shoeMoves_of_kept hv).trans hm) ((congrArg Shoe.state (shoe_of_kept hv)).trans hst)
      ((congrArg FaultRecords.thrust (faults_of_kept hv)).trans hf) (by rw [shoe_of_kept hv]; exact hmatch),
      kept_enterExtending, kept_writeDuty, kept_writeDuty]
    have hbase : ({ v with shoe := { v.shoe.markPlaced with
          state := .extending, retract := .stopped, extend := v.timer v.cfg.extendTimeout } } : State).kept =
        ({ s with
          port := { s.port with rx := rest }
          table := { s.table with console := console }
          shoe := { s.shoe with
            state := .extending
            claim := some { cl with placed := true }
            retract := .stopped
            extend := s.timer s.cfg.extendTimeout } } : State).kept := by
      calc _ = ({ v.kept with shoe := { v.shoe.markPlaced with
            state := .extending, retract := .stopped, extend := v.timer v.cfg.extendTimeout } } : Kept) := rfl
        _ = _ := by
          rw [timer_of_kept hv, cfg_of_kept hv, shoe_of_kept hv, hv, markPlaced_of_claim (by exact hclaim)]
          rfl
    exact congrArg₂ (fun (k : Kept) d => (k.withDuty .thrustExtend d).withDuty .thrustRetract 0) hbase
      (by
        change dutyOf v.cfg.pShoe v.cfg.pFull = dutyOf s.cfg.pShoe s.cfg.pFull
        rw [cfg_of_kept hv])
  · have hmatch : (b.phase == .placed && s.shoe.matched b) = true := by
      rw [matched_of_claim hclaim]
      simp [hp, hr, hstep, hsec]
    refine gives_buildTaken hrx (fun v hv => ?_) rfl
    rw [takeBuild_of_placed ((shoeMoves_of_kept hv).trans hm) (by rw [shoe_of_kept hv, faults_of_kept hv]; exact hst)
      (by rw [shoe_of_kept hv]; exact hmatch), markPlaced_of_claim ((congrArg Shoe.claim (shoe_of_kept hv)).trans hclaim)]
    calc _ = ({ v.kept with shoe := { v.shoe with claim := some { cl with placed := true } } } : Kept) := rfl
      _ = _ := by rw [shoe_of_kept hv, hv]; rfl
  · refine gives_buildTaken hrx (fun v hv => ?_) rfl
    rw [← hv]
    congr 1
    rcases hno with hm | hst | ⟨hst, hno⟩ | ⟨hst, hno⟩
    · exact takeBuild_of_not_moves ((shoeMoves_of_kept hv).trans hm)
    · exact takeBuild_of_claiming ((congrArg Shoe.state (shoe_of_kept hv)).trans hst)
    · have hclaimable : v.claimable b = false := by
        rw [claimable_of_kept hv]
        simp only [State.claimable, Bool.and_eq_false_iff, beq_eq_false_iff_ne, decide_eq_false_iff_not, not_lt,
          Bool.not_eq_false', List.contains_iff_mem]
        tauto
      by_cases hm : v.shoeMoves = true
      · rw [takeBuild_of_engaged hm ((congrArg Shoe.state (shoe_of_kept hv)).trans hst), hclaimable]
        rfl
      · exact takeBuild_of_not_moves (by simpa using hm)
    · refine takeBuild_of_unplaced (by rw [shoe_of_kept hv]; exact hst) ?_
      rw [shoe_of_kept hv]
      change (b.phase == .placed && s.shoe.matched b) = false
      rcases hno with hp | hno
      · simp [hp]
      · rcases hclaim : s.shoe.claim with _ | cl
        · simp [Shoe.matched, hclaim]
        · rw [matched_of_claim hclaim]
          have := hno cl hclaim
          simp only [Bool.and_eq_false_iff, beq_eq_false_iff_ne]
          tauto

end

section
/-! Services taken (O42, O43): the frame leaves the buffer, and the action acts where the station is named. -/
namespace Sys2Proof.Machine
open Sys2Proof

variable {s t u v e : State} {c : Instr}

/-! ## A SERVICE taken -/

theorem serviceHead_of_rx {n : Nat} {b : ServiceBody} {rest : List RxFrame} (hrx : s.port.rx = ⟨n, .service b⟩ :: rest) :
    s.serviceHead b.action = some b := by
  unfold State.serviceHead
  rw [hrx]
  simp only [if_true]

theorem targeted_of (s : State) {b : ServiceBody} (h : b.target = s.boot.station ∨ b.target = 0) : s.targeted b = true := by
  simpa [State.targeted] using h

theorem takeService_of_targeted {n : Nat} {b : ServiceBody} {rest : List RxFrame} {act : State → State}
    (hrx : s.port.rx = ⟨n, .service b⟩ :: rest) (h : b.target = s.boot.station ∨ b.target = 0) :
    takeService b act s = act { s with port := { s.port with rx := rest } } := by
  unfold takeService
  rw [if_pos (targeted_of s h), popFrame_of_rx hrx]

theorem takeService_of_untargeted {n : Nat} {b : ServiceBody} {rest : List RxFrame} {act : State → State}
    (hrx : s.port.rx = ⟨n, .service b⟩ :: rest) (h1 : b.target ≠ s.boot.station) (h2 : b.target ≠ 0) :
    takeService b act s = { s with port := { s.port with rx := rest } } := by
  unfold takeService
  rw [if_neg (by simp [State.targeted, h1, h2]), popFrame_of_rx hrx]

/-- CLEAR_FAULT of a job's code (R161). -/
def clearCoded (code : Nat) (s : State) : State :=
  match Job.ofCode code with
  | some j => clearJobFault j s
  | none => s

theorem exec_clearFault {b : ServiceBody} (h : s.serviceHead .clearFault = some b) : exec .clearFault s =
    answer (takeService b (clearCoded b.arg) s) := by
  change execClearFault s = _
  unfold execClearFault
  rw [h]
  rfl

theorem exec_clearEvents {b : ServiceBody} (h : s.serviceHead .clearEvents = some b) : exec .clearEvents s =
    answer (takeService b (clearFlags (BitVec.ofNat 16 b.arg)) s) := by
  change execClearEvents s = _
  unfold execClearEvents
  rw [h]

theorem exec_resume {b : ServiceBody} (h : s.serviceHead .resume = some b) : exec .resume s =
    answer (takeService b resumeStation s) := by
  change execResume s = _
  unfold execResume
  rw [h]

theorem exec_restart {straps : BitVec 4} {b : ServiceBody} (h : s.serviceHead .restart = some b) : exec (.restart straps) s =
    answer (takeService b (restartStation straps) s) := by
  change execRestart straps s = _
  unfold execRestart
  rw [h]

theorem exec_forget {b : ServiceBody} (h : s.serviceHead .forget = some b) : exec .forget s =
    answer (takeService b (forgetStation b.arg) s) := by
  change execForget s = _
  unfold execForget
  rw [h]

theorem exec_save {b : ServiceBody} (h : s.serviceHead .save = some b) : exec .save s = answer (takeService b triggerSave s) := by
  change execSave s = _
  unfold execSave
  rw [h]

/-- Every SERVICE that names another station leaves the buffer, and no more is done (R6, R25). -/
theorem exec_untargeted {n : Nat} {b : ServiceBody} {rest : List RxFrame} {straps : BitVec 4}
    (hrx : s.port.rx = ⟨n, .service b⟩ :: rest) (h1 : b.target ≠ s.boot.station) (h2 : b.target ≠ 0) :
    exec (match b.action with
      | .clearFault => .clearFault
      | .clearEvents => .clearEvents
      | .resume => .resume
      | .restart => .restart straps
      | .forget => .forget
      | .save => .save) s = answer { s with port := { s.port with rx := rest } } := by
  have hhead := serviceHead_of_rx hrx
  cases haction : b.action with
  | clearFault => exact (exec_clearFault (haction ▸ hhead)).trans (congrArg _ (takeService_of_untargeted hrx h1 h2))
  | clearEvents => exact (exec_clearEvents (haction ▸ hhead)).trans (congrArg _ (takeService_of_untargeted hrx h1 h2))
  | resume => exact (exec_resume (haction ▸ hhead)).trans (congrArg _ (takeService_of_untargeted hrx h1 h2))
  | restart => exact (exec_restart (haction ▸ hhead)).trans (congrArg _ (takeService_of_untargeted hrx h1 h2))
  | forget => exact (exec_forget (haction ▸ hhead)).trans (congrArg _ (takeService_of_untargeted hrx h1 h2))
  | save => exact (exec_save (haction ▸ hhead)).trans (congrArg _ (takeService_of_untargeted hrx h1 h2))

/-! ## The memory of a station at rest -/

/-- Neither the memory nor the phase of a start is published or guards an output. -/
theorem AtRest.withMemory (h : AtRest s) (m : MemPort) (ph : BootPhase) :
    AtRest { s with mem := m, boot := { s.boot with phase := ph } } := by
  refine h.congr rfl rfl rfl (fun k _ => ?_) (fun i => (h.gates i).trans rfl) h.alarm
  cases k <;> rfl

/-- A save, as the port then stands (R172, R173); `bytes` is the record of the moment. -/
theorem triggerSave_of_accepted {bytes : Nat → List Byte} (ha : s.boot.accepted = true) (hb : ∀ n, s.recordBytes n = bytes n) :
    triggerSave s = { s with mem :=
      if s.mem.inFlight = none ∧ s.boot.phase = .done then
        { s.mem with
          inFlight := some (.record (bytes ((s.mem.seq + 1) % 65536)))
          recordPending := false
          seq := (s.mem.seq + 1) % 65536 }
      else { s.mem with recordPending := true } } := by
  unfold triggerSave
  rw [if_pos ha]
  split
  · rename_i hfree
    rw [if_pos (by simpa [State.restored] using hfree), startRecordWrite, hb]
  · rename_i hfree
    rw [if_neg (by simpa [State.restored] using hfree)]

/-- What a change of the peer table and the end of its event keep. -/
theorem settled_finish_tableChanged (e : State) : Settled e (finish (tableChanged e)) :=
  ⟨(kept_finish _).trans (kept_tableChanged e), ((grows_tableChanged e).trans (grows_finish _)).and_eq⟩

/-! ## The shoe resumed (R104) -/

theorem blind_enterExtending (s : State) : (enterExtending s).muck.blind = s.muck.blind := by
  unfold enterExtending writeExtendDuties
  rw [blind_of_kept (kept_refreshGates _)]
  simp

theorem blind_abortByState (s : State) : (abortByState s).muck.blind = s.muck.blind := by
  unfold abortByState
  split
  · rfl
  · rfl
  · rfl
  · exact blind_enterExtending s
  · split
    · rfl
    · exact blind_enterExtending s

theorem blind_resumeState (s : State) : (resumeState s).muck.blind = s.muck.blind := by
  unfold resumeState
  split
  · rfl
  · rfl
  · exact blind_enterExtending s
  · split
    · exact blind_enterExtending s
    · rfl
  · split <;> rfl

theorem blind_resumeShoe (s : State) : (resumeShoe s).muck.blind = s.muck.blind := by
  unfold resumeShoe
  split
  · rw [blind_resumeState]
    unfold resumeAbort
    split
    · rw [blind_abortByState]
      simp
    · simp
  · rfl

/-- Step 1 of R104 marks a claim placed at most. -/
theorem shoe_resumePlaced (s : State) : (resumePlaced s).shoe = { s.shoe with claim := (resumePlaced s).shoe.claim } := by
  unfold resumePlaced
  split
  · split <;> rfl
  · rfl

theorem state_enterExtending (s : State) : (enterExtending s).shoe.state = .extending := by
  simp [enterExtending, writeExtendDuties]

/-- A group in CLAIMING goes on with its timers (R104). -/
theorem resumeShoe_of_claiming (ha : s.shoeActs = true) (hm : s.table.mode = .build) (hb : s.port.backbone = .online)
    (hst : s.shoe.state = .claiming) :
    (resumeShoe s).shoe.state = .claiming ∧ (resumeShoe s).shoe.holdOff = s.timer s.cfg.effectiveHoldoff ∧
      (resumeShoe s).shoe.waitTimer = s.shoe.waitTimer.resumedAt s.now := by
  have hplaced := shoe_resumePlaced s
  have hstate : (resumePlaced s).shoe.state = .claiming := by rw [hplaced, hst]
  have hstep : resumeAbort (resumePlaced s) = resumePlaced s := by
    unfold resumeAbort
    rw [if_neg (by simp [hm, hb])]
  unfold resumeShoe
  rw [if_pos ha, hstep]
  unfold resumeState
  rw [hstate]
  dsimp only
  refine ⟨hstate, ?_, ?_⟩
  · simp [State.timer]
  · rw [hplaced]
    simp

theorem abortByState_of_retracting (hst : s.shoe.state = .retracting) : abortByState s = enterExtending s := by
  unfold abortByState
  rw [hst]

theorem resumeState_of_retracting (hst : s.shoe.state = .retracting) : resumeState s = enterExtending s := by
  unfold resumeState
  rw [hst]

theorem state_resumeState_of_extending (hst : s.shoe.state = .extending) : (resumeState s).shoe.state = .extending := by
  unfold resumeState
  rw [hst]
  dsimp only
  split
  · exact hst
  · exact hst

/-- A group in RETRACTING extends again (R102, R104). -/
theorem resumeShoe_of_retracting (ha : s.shoeActs = true) (hst : s.shoe.state = .retracting) :
    (resumeShoe s).shoe.state = .extending := by
  have hstate : (resumePlaced s).shoe.state = .retracting := by rw [shoe_resumePlaced, hst]
  unfold resumeShoe
  rw [if_pos ha]
  generalize resumePlaced s = p at *
  unfold resumeAbort
  split
  · rw [abortByState_of_retracting hstate]
    exact state_resumeState_of_extending (state_enterExtending p)
  · rw [resumeState_of_retracting hstate]
    exact state_enterExtending p

theorem state_decideScrew (s : State) : (decideScrew s).muck.state = if s.holds .screw then s.screwTable else s.muck.state := by
  unfold decideScrew
  split
  · unfold setScrew
    split
    · rename_i h
      exact h.symm
    · split
      · rename_i h
        simp [examineScrew, h]
      · simp [examineScrew]
  · rfl

end Sys2Proof.Machine

open Sys2Proof Sys2Proof.Machine

/-- Settles O42: RESUME is refused, or clears the latch and decides screw and shoe anew. -/
theorem resumeDecides : Obligations.ResumeDecides := by
  intro s b rest hrx haction htarget
  have hexec := exec_resume (haction ▸ serviceHead_of_rx hrx)
  rw [takeService_of_targeted hrx htarget] at hexec
  obtain ⟨p, hp⟩ : ∃ p : State, p = { s with port := { s.port with rx := rest } } := ⟨_, rfl⟩
  rw [← hp] at hexec
  have hpstop : p.events = s.events := by rw [hp]
  refine ⟨fun hs hr => ?_, fun hs hstands => ?_, fun hs hinput hdemand => ?_⟩
  · rw [resumeStation, if_pos (by rw [hpstop]; exact hs)] at hexec
    rw [← hp]
    exact next_of_atRest hexec (by rw [hp]; exact hr.withPort rfl rfl rfl rfl)
  · rw [resumeStation, if_neg (by rw [hpstop]; simp [hs]), if_pos (by rw [hp]; exact Bool.or_eq_true_iff.mpr hstands)] at hexec
    refine gives_of_events hexec ((kept_raiseEvent _ p).trans (by rw [hp]; rfl)) ?_
    rw [hp]
    simp
  · rw [resumeStation, if_neg (by rw [hpstop]; simp [hs]), if_neg (by rw [hp]; simp; exact ⟨hinput, hdemand⟩), answer_eq] at hexec
    have hframe := frame_clearStopped p
    have hkept := kept_finish (clearStopped p)
    obtain ⟨q, hq⟩ : ∃ q : State, q = refreshGates { p with events := { p.events with stopped := false } } := ⟨_, rfl⟩
    have hqkept : q.kept = ({ p with events := { p.events with stopped := false } } : State).kept := by
      rw [hq, kept_refreshGates]
    have hstate : (clearStopped p).muck.state =
        (decideScrew (decideLine (resumeShoe q))).muck.state := by
      rw [clearStopped, screw_of_kept (kept_refreshGates _), ← hq]
    have hshoe : (clearStopped p).shoe = (resumeShoe q).shoe := by
      rw [clearStopped, shoe_of_kept (kept_refreshGates _), ← hq]
      simp
    have hline : (decideLine (resumeShoe q)).kept = (resumeShoe q).kept := kept_decideLine _
    have hblind := (blind_of_kept hline).trans (blind_resumeShoe q)
    have hfaults := faults_of_kept hline
    have hmode := mode_of_kept hline
    have hstopped := stopped_of_kept hline
    have hholds := holds_of_kept hline .screw
    rw [state_decideScrew, hholds] at hstate
    simp only [State.screwTable, hblind, hfaults, hmode, hstopped] at hstate
    generalize clearStopped p = w at *
    generalize finish w = t at *
    obtain ⟨hboot, hcfg, -, -, -, hport, -, hadv, hdrive, hthrust, -, -, hwfaults, -, hevents⟩ := hframe
    refine ⟨t, hexec, ?_, ?_, ?_, ?_, ?_, ?_, ?_, ?_, fun hscrew => ?_, fun ha hm hb hst => ?_, fun ha hst => ?_⟩
    · rw [stopped_of_kept hkept, hevents]
    · rw [rx_of_kept hkept, hport, hp]
    · rw [cfg_of_kept hkept, hcfg, hp]
    · rw [boot_of_kept hkept, hboot, hp]
    · rw [faults_of_kept hkept, hwfaults, hp]
    · rw [drive_of_kept hkept, hdrive, hp]
    · rw [ring_of_kept hkept, hadv, hp]
    · rw [pressure_of_kept hkept, hthrust, hp]
    · have hbase : (resumeShoe q).holds .screw = true := by
        have : (resumeShoe q).holds .screw = q.holds .screw := by simp [State.holds, State.effectiveRoles]
        rw [this, holds_of_kept hqkept, hp]
        exact hscrew
      rw [screw_of_kept hkept, hstate, if_pos hbase]
      simp only [frame_resumeShoe, blind_of_kept hqkept, faults_of_kept hqkept, mode_of_kept hqkept, stopped_of_kept hqkept, hp,
        Bool.false_or, Bool.or_eq_true, beq_iff_eq]
    · rw [shoe_of_kept hkept, hshoe]
      have hclaiming := resumeShoe_of_claiming (s := q) (by rw [shoeActs_of_kept hqkept, hp]; exact ha)
        (by rw [mode_of_kept hqkept, hp]; exact hm) (by rw [backbone_of_kept hqkept, hp]; exact hb)
        (by rw [shoe_of_kept hqkept, hp]; exact hst)
      rw [timer_of_kept hqkept, cfg_of_kept hqkept, shoe_of_kept hqkept, now_of_kept hqkept, hp] at hclaiming
      exact hclaiming
    · rw [shoe_of_kept hkept, hshoe]
      exact resumeShoe_of_retracting (by rw [shoeActs_of_kept hqkept, hp]; exact ha) (by rw [shoe_of_kept hqkept, hp]; exact hst)

/-- Settles O43: FORGET empties one entry, SAVE starts or marks a write, and no action acts on another station. -/
theorem forgetSaveAndUntargetedServices : Obligations.ForgetSaveAndUntargetedServices := by
  refine ⟨fun s n b rest straps c hr hrx h1 h2 hc => ?_, fun s b rest hrx haction htarget h1 h15 hown hentry => ?_,
    fun s b rest hr hrx haction htarget haccepted => ?_⟩
  · rw [hc]
    exact next_of_atRest (exec_untargeted hrx h1 h2) (hr.withPort rfl rfl rfl rfl)
  · have hexec := exec_forget (haction ▸ serviceHead_of_rx hrx)
    rw [takeService_of_targeted hrx htarget, forgetStation, if_neg (by rintro (h | h); exacts [hown h, hentry h]), answer_eq] at hexec
    refine ⟨_, hexec, ?_, settled_finish_tableChanged _⟩
    rw [entry_finish (by simpa using hown), entry_congr (by simp; rfl)]
    exact putEntry_entry_self _ _ h1 h15
  · have hexec := exec_save (haction ▸ serviceHead_of_rx hrx)
    rw [takeService_of_targeted hrx htarget] at hexec
    have hsave : triggerSave { s with port := { s.port with rx := rest } } = { s with
        port := { s.port with rx := rest }
        mem := if s.mem.inFlight = none ∧ s.boot.phase = .done then
            { s.mem with
              inFlight := some (.record (s.recordBytes ((s.mem.seq + 1) % 65536)))
              recordPending := false
              seq := (s.mem.seq + 1) % 65536 }
          else { s.mem with recordPending := true } } := by
      exact triggerSave_of_accepted haccepted fun _ => rfl
    rw [hsave] at hexec
    exact next_of_atRest hexec ((hr.withPort (p := { s.port with rx := rest }) rfl rfl rfl rfl).withMemory _ s.boot.phase)

end

section
/-! Conversions of the thrust inputs taken (O47, O49). -/
namespace Sys2Proof.Machine
open Sys2Proof

variable {s t u v e : State} {c : Instr}

/-! ## Conversions -/

/-- The conversion of an input in the scan is delivered with the input's record after it (R149). -/
theorem exec_conversion {i : Fin 12} {raw : BitVec 12} (hc : s.converting = some i) (hs : s.scanned i = true) :
    exec (.conversionComplete raw) s = answer (deliverSample (s.inCfg i).function (deliveredOf (s.inCfg i) raw.toNat)
      { s with
        converting := s.nextScanned i
        inputs := s.inputs.set i ((s.inRec i).converted (s.inCfg i) raw.toNat (s.timer s.cfg.inputHoldTime)) }) := by
  change execConversionComplete raw s = _
  unfold execConversionComplete
  rw [hc]
  dsimp only
  rw [if_pos hs]
  rfl

theorem delivered_of_good {c : InputCfg} {raw : Nat} (h : c.rawMin ≤ raw ∧ raw ≤ c.rawMax) :
    deliveredOf c raw = some (scaledValue c raw) := by
  unfold deliveredOf goodReading
  rw [if_pos (by simpa using h)]

theorem delivered_of_bad {c : InputCfg} {raw : Nat} (h : ¬(c.rawMin ≤ raw ∧ raw ≤ c.rawMax)) : deliveredOf c raw = none := by
  unfold deliveredOf goodReading
  rw [if_neg (by simpa using h)]

theorem converted_of_good {r : InputRec} {c : InputCfg} {raw : Nat} {hold : Timer} (h : c.rawMin ≤ raw ∧ raw ≤ c.rawMax) :
    r.converted c raw hold = ⟨scaledValue c raw, .good, .stopped⟩ := by
  unfold InputRec.converted goodReading
  rw [if_pos (by simpa using h)]

theorem converted_of_bad {r : InputRec} {c : InputCfg} {raw : Nat} {hold : Timer} (h : ¬(c.rawMin ≤ raw ∧ raw ≤ c.rawMax)) :
    r.converted c raw hold = if r.state = .failed then r
      else { r with state := .failed, holdTimer := if isChamber c.function then .stopped else hold } := by
  unfold InputRec.converted goodReading
  rw [if_neg (by simpa using h)]

/-- An input in the scan is one of a role in service (R148). -/
theorem holds_of_scanned {i : Fin 12} {r : Role} (hs : s.scanned i = true) (hr : (s.inCfg i).function.role = some r) :
    s.holds r = true := by
  unfold State.scanned at hs
  rw [hr] at hs
  exact hs

/-! ## Strokes -/

theorem Kept.withDuty_shoe (k : Kept) (f : ChFunction) (d : Nat) (sh : Shoe) :
    ({ k.withDuty f d with shoe := sh } : Kept) = ({ k with shoe := sh } : Kept).withDuty f d := by
  unfold Kept.withDuty Kept.setDuty
  split
  · rename_i i hi
    rw [show ({ k with shoe := sh } : Kept).channelOf f = some i from hi]
  · rename_i hi
    rw [show ({ k with shoe := sh } : Kept).channelOf f = none from hi]

/-- Valve duties written over valve duties. -/
theorem Kept.withValves_withValves (k : Kept) (d d' : Nat) :
    (((k.withDuty .thrustExtend d).withDuty .thrustRetract 0).withDuty .thrustExtend d').withDuty .thrustRetract 0 =
      (k.withDuty .thrustExtend d').withDuty .thrustRetract 0 := by
  rw [Kept.withDuty_comm _ (f := .thrustRetract) (g := .thrustExtend) (by decide), Kept.withDuty_same, Kept.withDuty_same]

/-- A retraction at its target, the placed flag set, goes on to EXTENDING (R98, R99). -/
theorem kept_enterClear_placed (hp : s.shoe.placed = true) : (enterClear s).kept = (({ s with shoe := { s.shoe with
    state := .extending, retract := .stopped, extend := s.timer s.cfg.extendTimeout } } : State).kept.withDuty .thrustExtend
      (dutyOf s.cfg.pShoe s.cfg.pFull)).withDuty .thrustRetract 0 := by
  unfold enterClear
  dsimp only
  rw [if_pos hp, kept_enterExtending]
  obtain ⟨w, hw⟩ : ∃ w : State, w = writeDuty .thrustRetract 0 (writeDuty .thrustExtend 0
    { s with shoe := { s.shoe with state := .clear, retract := .stopped } }) := ⟨_, rfl⟩
  have hkept : w.kept = (({ s with shoe := { s.shoe with state := .clear, retract := .stopped } } : State).kept.withDuty
      .thrustExtend 0).withDuty .thrustRetract 0 := by rw [hw, kept_writeDuty, kept_writeDuty]
  have hshoe : w.shoe = { s.shoe with state := .clear, retract := .stopped } := by rw [hw]; simp
  have hcfg : w.cfg = s.cfg := by rw [hw]; simp
  have hnow : w.now = s.now := by rw [hw]; simp
  rw [← hw]
  have hbase : ({ w with shoe := { w.shoe with
      state := .extending, retract := .stopped, extend := w.timer w.cfg.extendTimeout } } : State).kept =
      (({ s with shoe := { s.shoe with
        state := .extending, retract := .stopped, extend := s.timer s.cfg.extendTimeout } } : State).kept.withDuty
          .thrustExtend 0).withDuty .thrustRetract 0 := by
    calc _ = ({ w.kept with shoe := { w.shoe with
            state := .extending, retract := .stopped, extend := w.timer w.cfg.extendTimeout } } : Kept) := rfl
      _ = _ := by
        rw [hkept, hshoe, hcfg, Kept.withDuty_shoe, Kept.withDuty_shoe]
        simp only [State.timer, hnow]
        rfl
  rw [hbase, hcfg, Kept.withValves_withValves]

theorem sampleStroke_of_elsewhere {v : Int}
    (h : s.shoe.state ≠ .retracting ∨ s.retractTarget < clampToNat 0 22000 v ∨ s.shoeMoves = false) :
    sampleStroke (some v) s = { s with adv := { s.adv with
      stroke := clampToNat 0 22000 v
      strokeValid := true
      advance := clampToNat 0 22000 ((clampToNat 0 22000 v : Int) - s.adv.base) } } := by
  unfold sampleStroke shoeStroke checkRetracted
  dsimp only
  split
  · rename_i hm
    rw [if_neg]
    rintro ⟨hst, hle⟩
    rcases h with h | h | h
    · exact h hst
    · exact absurd (show clampToNat 0 22000 v ≤ s.retractTarget from hle) (by omega)
    · exact absurd (show s.shoeMoves = true from hm) (by simp [h])
  · rfl

theorem sampleStroke_of_target {v : Int} (hm : s.shoeMoves = true) (hst : s.shoe.state = .retracting)
    (hle : clampToNat 0 22000 v ≤ s.retractTarget) :
    sampleStroke (some v) s = enterClear { s with adv := { s.adv with
      stroke := clampToNat 0 22000 v
      strokeValid := true
      advance := clampToNat 0 22000 ((clampToNat 0 22000 v : Int) - s.adv.base) } } := by
  unfold sampleStroke shoeStroke checkRetracted
  dsimp only
  rw [if_pos (by exact hm), if_pos ⟨hst, hle⟩]

/-! ## Group pressures -/

/-- The state a group pressure reaches the ring-build controller in (R74, R87). -/
def State.pressureTaken (s : State) (v : Int) : State :=
  { s with thrust := { s.thrust with
    pressure := clampToNat 0 4000 v
    pressureValid := true
    opPresent := decide (s.cfg.pCeiling + 100 < clampToNat 0 4000 v)
    opTimer := if decide (s.cfg.pCeiling + 100 < clampToNat 0 4000 v) then
        (if s.thrust.opPresent then s.thrust.opTimer else s.timer 1000) else .stopped } }

theorem sampleGroupPressure_eq (v : Int) (s : State) : sampleGroupPressure (some v) s = shoePressure (s.pressureTaken v) := by
  unfold sampleGroupPressure examineThrustPressure conditionTimer State.pressureTaken
  rfl

/-- A setpoint seated while the group is in service (R83). -/
theorem kept_seatSetpoint (hst : s.shoe.state = .engaged) : (seatSetpoint s).kept = (({ s with thrust := { s.thrust with
    pSet := clampNat s.cfg.pFloor s.cfg.pCeiling s.thrust.pressure } } : State).kept.withDuty .thrustExtend
      (dutyOf (clampNat s.cfg.pFloor s.cfg.pCeiling s.thrust.pressure) s.cfg.pFull)).withDuty .thrustRetract 0 := by
  unfold seatSetpoint writeValves
  rw [if_neg, kept_writeDuty, kept_writeDuty]
  · rfl
  · simp only [chooseTarget, State.targetDue, hst]
    split <;> simp

theorem pSet_seatSetpoint (s : State) :
    (seatSetpoint s).thrust.pSet = clampNat s.cfg.pFloor s.cfg.pCeiling s.thrust.pressure ∧
      (seatSetpoint s).thrust.pressure = s.thrust.pressure ∧
      (seatSetpoint s).thrust.pressureValid = s.thrust.pressureValid := by
  simp [seatSetpoint, chooseTarget]

theorem shoePressure_of_pending (hh : s.holds .thrust = true) (hd : s.shoe.decisionPending = true) :
    shoePressure s = startDecision s := by
  unfold shoePressure
  rw [hh, hd]
  rfl

theorem shoePressure_of_extending (hm : s.shoeMoves = true) (hst : s.shoe.state = .extending)
    (hd : s.shoe.decisionPending = false) (hp : s.cfg.pShoe ≤ s.thrust.pressure) : shoePressure s = completeExtending s := by
  unfold shoePressure
  rw [if_neg (by simp [hd]), if_pos (by simp [hm, hst, hp])]

theorem shoePressure_of_elsewhere (hd : s.shoe.decisionPending = false)
    (h : s.shoe.state ≠ .extending ∨ s.thrust.pressure < s.cfg.pShoe ∨ s.shoeMoves = false) : shoePressure s = s := by
  unfold shoePressure
  rw [if_neg (by simp [hd]), if_neg]
  simp only [Bool.and_eq_true, beq_iff_eq, decide_eq_true_eq]
  rintro ⟨⟨hm, hst⟩, hp⟩
  rcases h with h | h | h
  · exact h hst
  · omega
  · simp [h] at hm

end Sys2Proof.Machine

open Sys2Proof Sys2Proof.Machine

/-- Settles O47: the cases of the shoe state, for either input. -/
theorem thrustSamplesTaken : Obligations.ThrustSamplesTaken := by
  intro s i raw hconv hscan hmin hmax value inputs stroke pressure present thrust taken decided seat
  have hexec := exec_conversion (raw := raw) hconv hscan
  rw [delivered_of_good ⟨hmin, hmax⟩, converted_of_good ⟨hmin, hmax⟩] at hexec
  obtain ⟨p, hp⟩ : ∃ p : State, p = { s with converting := s.nextScanned i, inputs := inputs } := ⟨_, rfl⟩
  have hexec : exec (.conversionComplete raw) s = answer (deliverSample (s.inCfg i).function (some value) p) := by
    rw [hexec, hp]
  have hpressure : p.pressureTaken value = taken := by rw [hp]; rfl
  have hholds (hf : (s.inCfg i).function = .groupPressure) : s.holds .thrust = true := holds_of_scanned hscan (by rw [hf]; rfl)
  refine ⟨fun hf hno => ?_, fun hf hm hst hle hplaced => ?_, fun hf hm hst hle hplaced => ?_, fun hf hm hst hd hle => ?_,
    fun hf hd => ⟨fun hle => ?_, fun hlt => ?_⟩, fun hf hd hno => ?_⟩
  · rw [hf, deliverSample, sampleStroke_of_elsewhere (by rw [hp]; exact hno)] at hexec
    exact gives_of_events hexec (by rw [hp]) (by rw [hp])
  · rw [hf, deliverSample, sampleStroke_of_target (by rw [hp]; exact hm) (by rw [hp]; exact hst) (by rw [hp]; exact hle)] at hexec
    unfold enterClear at hexec
    dsimp only at hexec
    rw [if_neg (by rw [hp]; simpa using hplaced)] at hexec
    refine gives_of_events hexec ?_ (by rw [hp])
    rw [kept_writeDuty, kept_writeDuty, kept_writeDuty, kept_writeDuty, hp]
  · rw [hf, deliverSample, sampleStroke_of_target (by rw [hp]; exact hm) (by rw [hp]; exact hst) (by rw [hp]; exact hle)] at hexec
    refine gives_of_events hexec ((kept_enterClear_placed (by rw [hp]; exact hplaced)).trans ?_) (by rw [hp]; simp)
    rw [kept_writeDuty, kept_writeDuty, hp]
    rfl
  · rw [hf, deliverSample, sampleGroupPressure_eq, hpressure, shoePressure_of_extending (s := taken) hm hst hd hle, answer_eq] at hexec
    obtain ⟨w, hw⟩ : ∃ w : State, w = { taken with shoe := { taken.shoe with
      state := .engaged, extend := .stopped, lastServed := taken.servedAfter, claim := none } } := ⟨_, rfl⟩
    have hcomplete : completeExtending taken = seatSetpoint w := by rw [hw]; rfl
    have hpset := pSet_seatSetpoint w
    have hframe := frame_seatSetpoint w
    have hkept := kept_finish (seatSetpoint w)
    rw [hcomplete] at hexec
    generalize seatSetpoint w = x at *
    generalize finish x = t at *
    obtain ⟨hset, hpress, hvalid⟩ := hpset
    obtain ⟨hport, -, hadv, hdrive, hshoe, -, hmuck, hinputs, hconverting, hfaults, -, -⟩ := hframe
    refine ⟨t, hexec, ?_, ?_, ?_, ?_, ?_, ?_, ?_, ?_, ?_, ?_, ?_, ?_⟩
    · rw [inputs_of_kept hkept, hinputs, hw]
    · rw [converting_of_kept hkept, hconverting, hw]
    · rw [pressure_of_kept hkept, hpress, hw]
    · rw [pressureValid_of_kept hkept, hvalid, hw]
    · rw [pSet_of_kept hkept, hset, hw]
    · rw [shoe_of_kept hkept, hshoe, hw]
      simp only [State.servedAfter, Bool.and_eq_true, beq_iff_eq]
      rfl
    · rw [stroke_of_kept hkept, hadv, hw]
    · rw [ring_of_kept hkept, hadv, hw]
    · rw [drive_of_kept hkept, hdrive, hw]
    · rw [faults_of_kept hkept, hfaults, hw]
    · rw [rx_of_kept hkept, hport, hw]
    · rw [pCh_of_kept hkept, hmuck, hw]
  · rw [hf, deliverSample, sampleGroupPressure_eq, hpressure,
      shoePressure_of_pending (s := taken) (by exact hholds hf) hd, startDecision] at hexec
    dsimp only at hexec
    rw [if_pos hle] at hexec
    refine gives_of_events hexec ((kept_seatSetpoint rfl).trans ?_) (by simp [taken])
    rw [kept_writeDuty, kept_writeDuty]
  · rw [hf, deliverSample, sampleGroupPressure_eq, hpressure,
      shoePressure_of_pending (s := taken) (by exact hholds hf) hd, startDecision] at hexec
    dsimp only at hexec
    rw [if_neg (by exact not_le.mpr hlt)] at hexec
    by_cases hrun : s.jobsRun = true ∧ s.events.stopped = false
    · have hacts : (s.jobsRun && !s.events.stopped) = true := by simpa using hrun
      rw [if_pos (by exact hacts)] at hexec
      rw [if_pos hrun]
      exact gives_of_events hexec rfl rfl
    · have hacts : ¬ (s.jobsRun && !s.events.stopped) = true := by simpa using hrun
      rw [if_neg (by exact hacts)] at hexec
      rw [if_neg hrun]
      exact gives_of_events hexec rfl rfl
  · rw [hf, deliverSample, sampleGroupPressure_eq, hpressure, shoePressure_of_elsewhere (s := taken) hd hno] at hexec
    exact gives_of_events hexec rfl rfl

/-- Settles O49: the valid flag is cleared, and an input outside the scan delivers nothing. -/
theorem failedSampleHoldsValue : Obligations.FailedSampleHoldsValue := by
  intro s i raw hconv
  refine ⟨fun hscan hbad => ?_, fun hscan => ?_⟩
  · intro inputs
    have hexec := exec_conversion (raw := raw) hconv hscan
    rw [delivered_of_bad hbad, converted_of_bad hbad] at hexec
    refine ⟨fun hf => ?_, fun hf => ?_, fun hf => ?_⟩
    · rw [hf] at hexec
      exact gives_of_events hexec rfl rfl
    · rw [hf] at hexec
      exact gives_of_events hexec rfl rfl
    · rw [hf] at hexec
      exact gives_of_events hexec rfl rfl
  · have hexec : exec (.conversionComplete raw) s = answer { s with converting := s.nextScanned i } := by
      change execConversionComplete raw s = _
      unfold execConversionComplete
      rw [hconv]
      dsimp only
      rw [if_neg (by simp [hscan])]
    exact gives_of_events hexec rfl rfl

end

section
/-! The drive evaluation (O51). -/
namespace Sys2Proof.Machine
open Sys2Proof

variable {s t u v e : State} {c : Instr}

/-! ## Duties beside the blocks -/

theorem writeDuty_drive (f : ChFunction) (d : Nat) (s : State) (x : Drive) :
    { writeDuty f d s with drive := x } = writeDuty f d { s with drive := x } := by
  unfold writeDuty
  rw [show ({ s with drive := x } : State).channelOf f = s.channelOf f from rfl]
  split <;> rfl

theorem writeDuty_thrust (f : ChFunction) (d : Nat) (s : State) (x : Thrust) :
    { writeDuty f d s with thrust := x } = writeDuty f d { s with thrust := x } := by
  unfold writeDuty
  rw [show ({ s with thrust := x } : State).channelOf f = s.channelOf f from rfl]
  split <;> rfl

theorem writeDuty_muck (f : ChFunction) (d : Nat) (s : State) (x : Muck) :
    { writeDuty f d s with muck := x } = writeDuty f d { s with muck := x } := by
  unfold writeDuty
  rw [show ({ s with muck := x } : State).channelOf f = s.channelOf f from rfl]
  split <;> rfl

theorem writeDuty_grout (f : ChFunction) (d : Nat) (s : State) (x : Grout) :
    { writeDuty f d s with grout := x } = writeDuty f d { s with grout := x } := by
  unfold writeDuty
  rw [show ({ s with grout := x } : State).channelOf f = s.channelOf f from rfl]
  split <;> rfl

/-! ## The drive's decision (R59 to R63) -/

/-- The state that the drive's decision takes (R59 to R63). -/
def State.driveStateDue (s : State) : DriveState :=
  match s.drive.state with
  | .off => if (s.table.mode = .excavate ∧ 0 < s.setpoint.speed) ∧ s.events.stopped = false then .ready else .off
  | .ready =>
    if s.events.stopped = true ∨ ¬(s.table.mode = .excavate ∧ 0 < s.setpoint.speed) then .off
    else if s.cfg.quorum ≤ s.contributingDrives.length then .running else .ready
  | .running =>
    if s.events.stopped = true ∨ ¬(s.table.mode = .excavate ∧ 0 < s.setpoint.speed) ∨
        s.contributingDrives.length < s.cfg.quorum then .stopping
    else if s.setpoint.dir ≠ s.drive.dir then .reversing else .running
  | .stopping => if s.drive.nSet = 0 ∧ s.drive.nFb < s.cfg.zeroBand then .off else .stopping
  | .reversing =>
    if s.events.stopped = true then .stopping
    else if s.drive.nSet = 0 ∧ s.drive.nFb < s.cfg.zeroBand then .ready else .reversing
  | .fault => .fault

/-- The direction that the drive's decision takes (R59, R60, R63). -/
def State.driveDirDue (s : State) : Direction :=
  if (s.drive.state = .off ∨ s.drive.state = .ready ∨ s.drive.state = .reversing) ∧
      (s.driveStateDue = .ready ∨ s.driveStateDue = .running) then s.setpoint.dir
  else s.drive.dir

/-- The drive in a state, with a direction and a setpoint. -/
def State.driveAt (s : State) (st : DriveState) (dir : Direction) (n : Nat) : State :=
  { s with drive := { s.drive with state := st, dir := dir, nSet := n } }

theorem driveAt_self {st : DriveState} (h : s.drive.state = st) : s.driveAt st s.drive.dir s.drive.nSet = s := by
  subst h
  rfl

theorem excavating_eq (s : State) : (s.table.mode == .excavate && decide (0 < s.demand)) =
    decide (s.table.mode = .excavate ∧ 0 < s.setpoint.speed) := by
  rw [Bool.decide_and]
  rfl

theorem decideDrive_eq (s : State) : decideDrive s = s.driveAt s.driveStateDue s.driveDirDue
    (if s.drive.state = .ready ∧ s.driveStateDue = .running then 0 else s.drive.nSet) := by
  unfold decideDrive
  dsimp only
  rw [excavating_eq]
  unfold State.driveDirDue State.driveStateDue State.driveCount State.driveAtRest
  cases hst : s.drive.state with
  | off =>
    dsimp only
    by_cases h : (s.table.mode = .excavate ∧ 0 < s.setpoint.speed) ∧ s.events.stopped = false
    · rw [if_pos (by simpa using h), if_pos h]
      rfl
    · rw [if_neg (by simpa using h), if_neg h]
      exact (driveAt_self hst).symm
  | ready =>
    dsimp only
    by_cases h : s.events.stopped = true ∨ ¬(s.table.mode = .excavate ∧ 0 < s.setpoint.speed)
    · rw [if_pos (by simpa only [Bool.or_eq_true, Bool.not_eq_true', decide_eq_false_iff_not] using h), if_pos h]
      rfl
    · rw [if_neg (by simpa only [Bool.or_eq_true, Bool.not_eq_true', decide_eq_false_iff_not] using h), if_neg h]
      by_cases hq : s.cfg.quorum ≤ s.contributingDrives.length
      · rw [if_pos hq, if_pos hq]
        rfl
      · rw [if_neg hq, if_neg hq]
        rfl
  | running =>
    dsimp only
    by_cases hs : s.events.stopped = true
    · rw [if_pos hs, if_pos (.inl hs)]
      rfl
    · rw [if_neg hs]
      by_cases hr : s.table.mode = .excavate ∧ 0 < s.setpoint.speed
      · rw [if_neg (by simp [hr])]
        by_cases hq : s.contributingDrives.length < s.cfg.quorum
        · rw [if_pos hq, if_pos (.inr (.inr hq))]
          rfl
        · rw [if_neg hq, if_neg (c := _ ∨ _) (by tauto)]
          by_cases hd : s.setpoint.dir ≠ s.drive.dir
          · rw [if_pos hd, if_pos hd]
            rfl
          · rw [if_neg hd, if_neg hd, if_neg (by simp)]
            exact (driveAt_self hst).symm
      · rw [if_pos (by simpa only [Bool.not_eq_true', decide_eq_false_iff_not] using hr), if_pos (.inr (.inl hr))]
        rfl
  | stopping =>
    dsimp only
    by_cases h : s.drive.nSet = 0 ∧ s.drive.nFb < s.cfg.zeroBand
    · rw [if_pos (by simpa using h), if_pos h]
      rfl
    · rw [if_neg (by simpa using h), if_neg h]
      exact (driveAt_self hst).symm
  | reversing =>
    dsimp only
    by_cases hs : s.events.stopped = true
    · rw [if_pos hs, if_pos hs]
      rfl
    · rw [if_neg hs, if_neg hs]
      by_cases h : s.drive.nSet = 0 ∧ s.drive.nFb < s.cfg.zeroBand
      · rw [if_pos (by simpa using h), if_pos h]
        rfl
      · rw [if_neg (by simpa using h), if_neg h]
        exact (driveAt_self hst).symm
  | fault => exact (driveAt_self hst).symm

/-! ## The steps after the decision (R64 to R66) -/

/-- The setpoint after its step (R64). -/
def State.driveStepped (s : State) (st : DriveState) (n : Nat) : Nat :=
  if st = .fault then n
  else stepToward n (if st = .running then s.setpoint.speed else 0)
    (if s.events.stopped then s.cfg.stopStep else s.cfg.rampStep)

theorem stepDrive_eq (s : State) : stepDrive s =
    { s with drive := { s.drive with nSet := s.driveStepped s.drive.state s.drive.nSet } } := by
  unfold stepDrive State.driveStepped
  dsimp only
  split
  · rename_i h
    rw [if_neg (c := s.drive.state = .fault) (by simp [h]), if_pos h]
    rfl
  · rename_i h
    rw [if_neg (c := s.drive.state = .fault) (by simp [h]), if_neg (c := s.drive.state = .running) (by simp [h])]
  · rename_i h
    rw [if_neg (c := s.drive.state = .fault) (by simp [h]), if_neg (c := s.drive.state = .running) (by simp [h])]
  · rename_i h
    rw [if_neg (c := s.drive.state = .fault) (by simp [h]), if_neg (c := s.drive.state = .running) (by simp [h])]
  · rename_i h
    rw [if_neg (c := s.drive.state = .fault) (by simp [h]), if_neg (c := s.drive.state = .running) (by simp [h])]
  · rename_i h
    rw [if_pos h]

/-- The command of a drive in a state (R66). -/
def State.driveCommandOf (s : State) (st : DriveState) (n : Nat) (trim : Int) : Nat :=
  match st with
  | .running => clampToNat 0 s.cfg.speedMax (n + trim)
  | .stopping | .reversing => n
  | .off | .ready | .fault => 0

/-- The whole evaluation of the drive (R58): the drive that it leaves, and the duty written. -/
theorem evaluateDrive_eq (s : State) :
    let st := s.driveStateDue
    let n := s.driveStepped st (if s.drive.state = .ready ∧ st = .running then 0 else s.drive.nSet)
    let mean := torqueMeanOf s.contributingDrives s.drive.tauMean
    let trim := if st = .running then trimOf s.cfg mean s.drive.tau else 0
    ∃ present timer, evaluateDrive s = writeDuty .driveSpeedOut (dutyOf (s.driveCommandOf st n trim) s.cfg.nFullScale)
      { s with drive := { s.drive with
        state := st, dir := s.driveDirDue, nSet := n, tauMean := mean, trim := trim, cmd := s.driveCommandOf st n trim
        stallPresent := present, stallTimer := timer } } := by
  intro st n mean trim
  unfold evaluateDrive
  rw [decideDrive_eq, stepDrive_eq]
  exact ⟨_, _, rfl⟩

end Sys2Proof.Machine

open Sys2Proof Sys2Proof.Machine

/-- Settles O51: each step from the one before, and the duty of the command. -/
theorem driveEvaluated : Obligations.DriveEvaluated := by
  intro s hon d runs rest state dir before target nSet mean trim cmd
  have hexec : exec .driveEvaluation s =
      answer { evaluateDrive s with drive := { (evaluateDrive s).drive with evalTimer := s.timer s.cfg.evalDrive } } := by
    change execDriveEvaluation s = _
    unfold execDriveEvaluation
    rw [if_pos hon]
  obtain ⟨present, timer, heval⟩ := evaluateDrive_eq s
  rw [heval, writeDuty_drive, answer_eq] at hexec
  obtain ⟨x, hx⟩ : ∃ x : Drive, x = { d with
    state := state, dir := dir, nSet := nSet, tauMean := mean, trim := trim, cmd := cmd
    stallPresent := present, stallTimer := timer, evalTimer := s.timer s.cfg.evalDrive } := ⟨_, rfl⟩
  have hexec : exec .driveEvaluation s = .next (finish (writeDuty .driveSpeedOut (dutyOf cmd s.cfg.nFullScale)
      { s with drive := x })) := by
    rw [hexec, hx]
    simp
    rfl
  have hkept := kept_finish (writeDuty .driveSpeedOut (dutyOf cmd s.cfg.nFullScale) { s with drive := x })
  have hdrive := drive_of_kept hkept
  have hflags := (settled_finish (writeDuty .driveSpeedOut (dutyOf cmd s.cfg.nFullScale) { s with drive := x }))
  generalize finish (writeDuty .driveSpeedOut (dutyOf cmd s.cfg.nFullScale) { s with drive := x }) = t at *
  have ht : t.drive = x := by rw [hdrive]; simp
  refine ⟨t, hexec, ?_, ?_⟩
  · rw [ht, hx]
  · rw [ht]
    exact hflags

end

section
/-! The thrust evaluation (O52). -/
namespace Sys2Proof.Machine
open Sys2Proof

variable {s t u v e : State} {c : Instr}

/-- The regime of the conditions now in force (R76). -/
def State.regimeDue (s : State) : Regime := regimeOf s.table.mode s.holdConditions

/-- The push force of the moment (R77). -/
def State.pushForceDue (s : State) : Int :=
  if s.holdConditions.torqueDerate then deratedForce s.cfg (pushForce s.cfg s.setpoint) else pushForce s.cfg s.setpoint

/-- The hold share of the moment (R79, R80). -/
def State.shareDue (s : State) : Nat :=
  if s.engagedCount = 0 then s.thrust.share else roundHalfUp (requiredHoldForce s.cfg s.table.pRef) s.engagedCount

/-- The thrust unit after steps 1 to 3 of R75. -/
def State.thrustComputed (s : State) : Thrust :=
  { s.thrust with
    causes := s.holdConditions
    regime := s.regimeDue
    force := if s.regimeDue = .push then s.pushForceDue else s.thrust.force
    pPush := if s.regimeDue = .push then clampToNat s.cfg.pFloor s.cfg.pCeiling (rawPressure s.cfg s.pushForceDue)
      else s.thrust.pPush
    floorClamp := decide (s.regimeDue = .push ∧ rawPressure s.cfg s.pushForceDue < s.cfg.pFloor)
    ceilClamp := decide (s.regimeDue = .push ∧ (s.cfg.pCeiling : Int) < rawPressure s.cfg s.pushForceDue)
    fReq := requiredHoldForce s.cfg s.table.pRef
    share := s.shareDue
    pHold := holdPressure s.cfg s.shareDue }

theorem computePush_eq (s : State) : computePush (computeHold (decideRegime s)) = { s with thrust := s.thrustComputed } := by
  unfold computePush State.thrustComputed
  by_cases hpush : s.regimeDue = .push
  · rw [if_pos (by exact hpush)]
    simp only [hpush, if_true, true_and]
    rw [← hpush]
    rfl
  · rw [if_neg (by exact hpush)]
    simp only [hpush, if_false, false_and, decide_false]
    rfl

/-- Steps 4 to 6 of R75 in PUSH. -/
theorem setpoint_of_push (hst : s.shoe.state = .engaged ∨ s.shoe.state = .claiming) (hr : s.thrust.regime = .push) :
    writeValves (stepSetpoint (chooseTarget s)) =
      writeDuty .thrustRetract 0 (writeDuty .thrustExtend
        (dutyOf (stepToward s.thrust.pSet s.thrust.pPush s.cfg.rampDp) s.cfg.pFull)
        { s with thrust := { s.thrust with
          target := .push s.thrust.pPush, seated := false
          pSet := stepToward s.thrust.pSet s.thrust.pPush s.cfg.rampDp } }) := by
  have htarget : s.targetDue = .push s.thrust.pPush := by
    unfold State.targetDue
    rcases hst with h | h <;> rw [h, if_pos hr]
  unfold chooseTarget stepSetpoint Thrust.stepped
  simp only [htarget, ThrustTarget.isHold, Bool.and_false]
  unfold writeValves
  rw [if_neg (by simp)]

/-- Steps 4 to 6 of R75 outside PUSH. -/
theorem setpoint_of_hold (hst : s.shoe.state = .engaged ∨ s.shoe.state = .claiming) (hr : s.thrust.regime ≠ .push) :
    let p := if s.thrust.seated = true ∧ s.thrust.pHold < s.thrust.pSet then s.thrust.pHold
      else stepToward s.thrust.pSet s.thrust.pHold s.cfg.rampDp
    writeValves (stepSetpoint (chooseTarget s)) =
      writeDuty .thrustRetract 0 (writeDuty .thrustExtend (dutyOf p s.cfg.pFull)
        { s with thrust := { s.thrust with
          target := .hold s.thrust.pHold, seated := s.thrust.seated || decide (p ≤ s.thrust.pHold), pSet := p } }) := by
  have htarget : s.targetDue = .hold s.thrust.pHold := by
    unfold State.targetDue
    rcases hst with h | h <;> rw [h, if_neg hr]
  unfold chooseTarget stepSetpoint Thrust.stepped
  simp only [htarget, ThrustTarget.isHold, Bool.and_true]
  unfold writeValves
  rw [if_neg (by simp)]

/-- Steps 4 to 6 of R75 out of service: the target is given up and the setpoint stands. -/
theorem setpoint_of_none (hst : ¬(s.shoe.state = .engaged ∨ s.shoe.state = .claiming)) :
    writeValves (stepSetpoint (chooseTarget s)) = { s with thrust := { s.thrust with target := .none, seated := false } } := by
  have htarget : s.targetDue = .none := by
    unfold State.targetDue
    split
    · exact absurd (.inl ‹_›) hst
    · exact absurd (.inr ‹_›) hst
    · rfl
    · rfl
    · rfl
  unfold chooseTarget stepSetpoint Thrust.stepped
  simp only [htarget, ThrustTarget.isHold, Bool.and_false]
  unfold writeValves
  rw [if_pos rfl]

end Sys2Proof.Machine

open Sys2Proof Sys2Proof.Machine

/-- Settles O52: steps 1 to 3 give one thrust unit, and steps 4 to 6 act on it by shoe state and regime. -/
theorem thrustEvaluated : Obligations.ThrustEvaluated := by
  intro s hon u causes regime fReq share pHold f0 f raw pPush drives pSet target seated e after
  have hexec : exec .thrustEvaluation s =
      answer { evaluateThrust s with thrust := { (evaluateThrust s).thrust with evalTimer := s.timer s.cfg.evalThrust } } := by
    change execThrustEvaluation s = _
    unfold execThrustEvaluation
    rw [if_pos hon]
  suffices hafter : { evaluateThrust s with
      thrust := { (evaluateThrust s).thrust with evalTimer := s.timer s.cfg.evalThrust } } = after by
    rw [hafter] at hexec
    exact ⟨hexec, settled_finish after⟩
  unfold evaluateThrust
  dsimp only
  rw [computePush_eq]
  by_cases hfault : s.faults.thrust.isSome = true
  · have hnot : ¬drives := fun h => by rw [h.2] at hfault; cases hfault
    rw [if_pos hfault]
    simp only [after, e, target, seated, pSet, if_neg hnot, if_pos hnot, if_pos hfault]
    rfl
  · have hempty : s.faults.thrust = none := by simpa using hfault
    rw [if_neg hfault]
    by_cases hst : s.shoe.state = .engaged ∨ s.shoe.state = .claiming
    · have hdrives : drives := ⟨hst, hempty⟩
      have hnot : ¬¬drives := fun h => h hdrives
      by_cases hpush : s.regimeDue = .push
      · have hr : regime = .push := hpush
        rw [setpoint_of_push (s := { s with thrust := s.thrustComputed }) hst hpush, writeDuty_thrust, writeDuty_thrust]
        have hseated : seated = false := by
          simp only [seated, if_neg hfault, hr, ne_eq, not_true_eq_false, false_and, and_false, decide_false]
        have hpset : pSet = stepToward u.pSet pPush s.cfg.rampDp := by simp only [pSet, if_neg hnot, if_pos hr]
        have htarget : target = .push pPush := by simp only [target, if_neg hfault, if_neg hnot, if_pos hr]
        simp only [after, if_pos hdrives, e]
        rw [hseated, hpset, htarget]
        simp only [frame_writeDuty]
        rfl
      · have hr : regime ≠ .push := hpush
        have hp := setpoint_of_hold (s := { s with thrust := s.thrustComputed }) hst hpush
        dsimp only at hp
        rw [hp, writeDuty_thrust, writeDuty_thrust]
        have hseated : seated = (u.seated || decide (pSet ≤ pHold)) := by
          simp only [seated, if_neg hfault, hdrives, ne_eq, hr, not_false_eq_true, true_and, Bool.decide_or, Bool.decide_eq_true]
        have hpset : pSet = if u.seated = true ∧ pHold < u.pSet then pHold else stepToward u.pSet pHold s.cfg.rampDp := by
          simp only [pSet, if_neg hnot, if_neg hr]
        have htarget : target = .hold pHold := by simp only [target, if_neg hfault, if_neg hnot, if_neg hr]
        simp only [after, if_pos hdrives, e]
        rw [hseated, hpset, htarget]
        simp only [frame_writeDuty]
        rfl
    · have hnot : ¬drives := fun h => hst h.1
      have hseat : decide (drives ∧ regime ≠ .push ∧ (u.seated = true ∨ pSet ≤ pHold)) = false := by simp [hnot]
      rw [setpoint_of_none (s := { s with thrust := s.thrustComputed }) hst]
      simp only [after, e, target, seated, if_neg hnot, if_pos hnot, if_neg hfault, hseat]
      simp only [pSet, if_pos hnot]
      rfl

end

section
/-! The screw evaluation (O55). -/
namespace Sys2Proof.Machine
open Sys2Proof

variable {s t u v e : State} {c : Instr}

/-- Of two duties written for one function the last stands. -/
theorem writeDuty_writeDuty (f : ChFunction) (d d' : Nat) (s : State) : writeDuty f d' (writeDuty f d s) = writeDuty f d' s := by
  have hchannel : (writeDuty f d s).channelOf f = s.channelOf f := by simp [State.channelOf, State.chCfg]
  unfold writeDuty at hchannel ⊢
  rw [hchannel]
  rcases s.channelOf f with _ | i
  · rfl
  · simp [putChannel, State.ch]

/-! ## The watched conditions aside -/

/-- `n` is `m` but for the two conditions of R144 and their timers. -/
def Muck.Watched (m n : Muck) : Prop :=
  n = { m with
    stallPresent := n.stallPresent, stallTimer := n.stallTimer, fbPresent := n.fbPresent, fbTimer := n.fbTimer }

theorem examineScrew_watched (s : State) : ∃ n, s.muck.Watched n ∧ examineScrew s = { s with muck := n } :=
  ⟨(examineScrew s).muck, rfl, rfl⟩

theorem Muck.Watched.trans {m n k : Muck} (h : m.Watched n) (h' : n.Watched k) : m.Watched k := by
  unfold Muck.Watched at *
  rw [h', h]

theorem Muck.Watched.timed {m n : Muck} (h : m.Watched n) (x : Timer) :
    ({ m with evalTimer := x } : Muck).Watched { n with evalTimer := x } := by
  unfold Muck.Watched at *
  rw [h]

theorem kept_of_watched {m n : Muck} (h : m.Watched n) : ({ s with muck := n } : State).kept = ({ s with muck := m } : State).kept := by
  rw [h]
  rfl

/-- What an evaluation in OFF finds of the commands: 0 where the state was just entered (R134). -/
def State.screwCarried (s : State) (n : Nat) : Nat := if s.screwTable = .off ∧ s.muck.state ≠ .off then 0 else n

/-- The screw with its state decided (R134): the duty of an entry to OFF apart, the state and the commands. -/
theorem decideScrew_watched (hs : s.holds .screw = true) : ∃ v n, (v = s ∨ v = writeDuty .screwSpeedOut 0 s) ∧ (s.screwTable ≠ .off → v = s) ∧
    ({ s.muck with
      state := s.screwTable, nCmd := s.screwCarried s.muck.nCmd, nOut := s.screwCarried s.muck.nOut } : Muck).Watched n ∧
    decideScrew s = { v with muck := n } := by
  unfold decideScrew setScrew State.screwCarried
  rw [if_pos hs]
  by_cases hsame : s.screwTable = s.muck.state
  · refine ⟨s, s.muck, .inl rfl, fun _ => rfl, ?_, ?_⟩
    · rw [if_neg fun h => h.2 (hsame ▸ h.1), if_neg fun h => h.2 (hsame ▸ h.1), hsame]
      rfl
    · rw [if_pos hsame]
  · rw [if_neg hsame]
    by_cases hoff : s.screwTable = .off
    · have hentry : s.screwTable = .off ∧ s.muck.state ≠ .off := ⟨hoff, fun h => hsame (hoff.trans h.symm)⟩
      obtain ⟨n, hn, hexamine⟩ := examineScrew_watched (writeDuty .screwSpeedOut 0
        { s with muck := { s.muck with state := .off, nCmd := 0, nOut := 0 } })
      refine ⟨writeDuty .screwSpeedOut 0 s, n, .inr rfl, fun h => absurd hoff h, ?_, ?_⟩
      · rw [if_pos hentry, if_pos hentry, hoff]
        simpa using hn
      · rw [if_pos hoff, hexamine, ← writeDuty_muck]
    · obtain ⟨n, hn, hexamine⟩ := examineScrew_watched { s with muck := { s.muck with state := s.screwTable } }
      refine ⟨s, n, .inl rfl, fun _ => rfl, ?_, ?_⟩
      · rw [if_neg fun h => hoff h.1, if_neg fun h => hoff h.1]
        exact hn
      · rw [if_neg hoff, hexamine]

/-! ## The steps after the decision (R135 to R138) -/

/-- The pressure error after step 2 (R135). -/
def State.errDue (s : State) : Int :=
  if s.muck.state = .running ∨ s.muck.state = .blind then (s.muck.pCh : Int) - s.setpoint.chamber else s.muck.err

/-- The feedforward after step 2 (R135). -/
def State.feedDue (s : State) : Nat :=
  if s.muck.state = .running ∨ s.muck.state = .blind then feedforward s.cfg s.adv.rate else s.muck.nFf

/-- The integrator after step 3 (R136). -/
def State.integDue (s : State) : Int :=
  if s.muck.state ≠ .running ∨ (0 < (s.cfg.ki : Int) * s.errDue ∧ s.muck.nCmd = s.cfg.nMax) ∨
      ((s.cfg.ki : Int) * s.errDue < 0 ∧ s.muck.nCmd = 0) then s.muck.integ
  else clampInt (-(s.cfg.iMax * 1000 : Int)) (s.cfg.iMax * 1000) (s.muck.integ + s.cfg.ki * s.errDue)

/-- The command after step 4 (R137). -/
def State.screwCommandDue (s : State) : Nat :=
  match s.muck.state with
  | .running => screwCommand s.cfg s.feedDue s.errDue s.integDue
  | .blind => clampNat 0 s.cfg.nMax s.feedDue
  | .off | .fault => 0

theorem commandScrew_eq (s : State) : commandScrew (integrateScrew (feedScrew s)) = { s with muck := { s.muck with
    err := s.errDue, nFf := s.feedDue, integ := s.integDue, nCmd := s.screwCommandDue } } := by
  have hfeed : feedScrew s = { s with muck := { s.muck with err := s.errDue, nFf := s.feedDue } } := by
    unfold feedScrew State.errDue State.feedDue
    split
    · rename_i h
      rw [if_pos (.inl h), if_pos (.inl h)]
      rfl
    · rename_i h
      rw [if_pos (.inr h), if_pos (.inr h)]
      rfl
    · rename_i h
      rw [if_neg (by simp [h]), if_neg (by simp [h])]
    · rename_i h
      rw [if_neg (by simp [h]), if_neg (by simp [h])]
  rw [hfeed]
  have hinteg : integrateScrew { s with muck := { s.muck with err := s.errDue, nFf := s.feedDue } } =
      { s with muck := { s.muck with err := s.errDue, nFf := s.feedDue, integ := s.integDue } } := by
    by_cases hrun : s.muck.state = .running
    · have hstep : integratorAfter s.cfg s.muck.integ (s.cfg.ki * s.errDue) s.muck.nCmd = s.integDue := by
        simp only [integratorAfter, State.integDue, hrun, ne_eq, not_true_eq_false, false_or]
      unfold integrateScrew
      rw [if_pos (by exact hrun), ← hstep]
    · have hstand : s.integDue = s.muck.integ := by
        unfold State.integDue
        rw [if_pos (.inl hrun)]
      unfold integrateScrew
      rw [if_neg (by exact hrun), hstand]
  rw [hinteg]
  unfold commandScrew State.screwCommandDue
  rfl

/-- The screw's evaluation outside FAULT, from the state that its decision left (R133). -/
theorem rampScrew_watched (s : State) :
    let out := stepToward s.muck.nOut s.screwCommandDue s.cfg.screwRamp
    ∃ n, ({ s.muck with
      err := s.errDue, nFf := s.feedDue, integ := s.integDue, nCmd := s.screwCommandDue, nOut := out } : Muck).Watched n ∧
      rampScrew (commandScrew (integrateScrew (feedScrew s))) =
        writeDuty .screwSpeedOut (dutyOf out s.cfg.screwFullScale) { s with muck := n } := by
  rw [commandScrew_eq]
  unfold rampScrew
  dsimp only
  obtain ⟨n, hn, hexamine⟩ := examineScrew_watched (writeDuty .screwSpeedOut
    (dutyOf (stepToward s.muck.nOut s.screwCommandDue s.cfg.screwRamp) s.cfg.screwFullScale)
    { s with muck := { s.muck with
      err := s.errDue, nFf := s.feedDue, integ := s.integDue, nCmd := s.screwCommandDue
      nOut := stepToward s.muck.nOut s.screwCommandDue s.cfg.screwRamp } })
  refine ⟨n, by simpa using hn, ?_⟩
  rw [hexamine, writeDuty_muck]

end Sys2Proof.Machine

open Sys2Proof Sys2Proof.Machine

/-- Settles O55: the decision, then the steps on the state that it left. -/
theorem screwEvaluated : Obligations.ScrewEvaluated := by
  intro s hon hscrew m state off lastCmd lastOut e nFf inc integ nCmd nOut after
  have hexec : exec .screwEvaluation s =
      answer { evaluateScrew s with muck := { (evaluateScrew s).muck with evalTimer := s.timer s.cfg.evalScrew } } := by
    change execScrewEvaluation s = _
    unfold execScrewEvaluation
    rw [if_pos hon]
  have hstate : s.screwTable = state := by
    simp only [State.screwTable, state, Bool.or_eq_true, beq_iff_eq, or_assoc]
    rfl
  have hcarried (k : Nat) : s.screwCarried k = if off then 0 else k := by simp only [State.screwCarried, hstate, off, m]
  obtain ⟨v, n, hv, hvoff, hn, hdecide⟩ := decideScrew_watched hscrew
  rw [hstate, hcarried, hcarried] at hn
  unfold evaluateScrew at hexec
  dsimp only at hexec
  rw [hdecide] at hexec
  have hnstate : n.state = state := by rw [hn]
  have hpch : n.pCh = m.pCh := by rw [hn]
  have herr : n.err = m.err := by rw [hn]
  have hnff : n.nFf = m.nFf := by rw [hn]
  have hinteg : n.integ = m.integ := by rw [hn]
  have hncmd : n.nCmd = lastCmd := by rw [hn]
  have hnout : n.nOut = lastOut := by rw [hn]
  have hvcfg : v.cfg = s.cfg := by rcases hv with rfl | rfl <;> simp
  have hvadv : v.adv = s.adv := by rcases hv with rfl | rfl <;> simp
  have hvtable : v.table = s.table := by rcases hv with rfl | rfl <;> simp
  have hvevents : v.events = s.events := by rcases hv with rfl | rfl <;> simp
  by_cases hfault : state = .fault
  · have hoff : ¬off := fun h => by have hst := h.1; rw [hfault] at hst; cases hst
    rw [if_pos (by exact hnstate.trans hfault), hvoff (by rw [hstate, hfault]; decide)] at hexec
    rw [if_neg hoff, if_neg hoff] at hn
    obtain ⟨n', hn', hexamine⟩ := examineScrew_watched { s with muck := n }
    rw [hexamine] at hexec
    rw [if_pos hfault]
    refine gives_of_events hexec ((kept_of_watched ((hn.trans hn').timed _)).trans ?_) rfl
    have he : e = m.err := by simp only [e, hfault, reduceCtorEq, or_self, if_false]
    have hf : nFf = m.nFf := by simp only [nFf, hfault, reduceCtorEq, or_self, if_false]
    have hi : integ = m.integ := by simp only [integ, hfault, ne_eq, reduceCtorEq, not_false_eq_true, true_or, if_true]
    have hc : nCmd = m.nCmd := by simp only [nCmd, hfault]
    have ho : nOut = m.nOut := by simp only [nOut, hfault, if_true]
    simp only [after]
    rw [he, hf, hi, hc, ho]
  · rw [if_neg (by rw [hnstate]; exact hfault)] at hexec
    obtain ⟨n', hn', hramp⟩ := rampScrew_watched { v with muck := n }
    dsimp only at hn' hramp
    rw [hramp, writeDuty_muck] at hexec
    obtain ⟨x, hx⟩ : ∃ x : State, x = { v with muck := n } := ⟨_, rfl⟩
    rw [← hx] at hn' hexec
    have hE : x.errDue = e := by simp only [State.errDue, hx, hnstate, State.setpoint, hvtable, hpch, herr, e]
    have hN : x.feedDue = nFf := by
      simp only [State.feedDue, feedforward, hx, hnstate, hvcfg, hvadv, hnff, nFf]
    have hI : x.integDue = integ := by
      simp only [State.integDue, hE]
      simp only [hx, hnstate, hvcfg, hncmd, hinteg, integ, inc]
    have hC : x.screwCommandDue = nCmd := by
      simp only [State.screwCommandDue, hE, hN, hI]
      simp only [hx, hnstate, hvcfg, nCmd, screwCommand]
      revert hfault
      generalize state = st
      intro hfault
      cases st with
      | running | blind | off => rfl
      | fault => exact absurd rfl hfault
    have hO : stepToward n.nOut x.screwCommandDue v.cfg.screwRamp = nOut := by
      simp only [hC, hnout, hvcfg, nOut, if_neg hfault]
    rw [hO] at hexec
    rw [hO, hE, hN, hI, hC] at hn'
    have hafter : after.muck.Watched { n' with evalTimer := s.timer s.cfg.evalScrew } := by
      have hbase : ({ m with state := state, err := e, nFf := nFf, integ := integ, nCmd := nCmd, nOut := nOut } : Muck).Watched n' := by
        unfold Muck.Watched at *
        rw [hn', hn]
      exact hbase.timed _
    have hduty : writeDuty .screwSpeedOut (dutyOf nOut v.cfg.screwFullScale)
        { v with muck := { n' with evalTimer := s.timer s.cfg.evalScrew } } =
        writeDuty .screwSpeedOut (dutyOf nOut s.cfg.screwFullScale)
          { s with muck := { n' with evalTimer := s.timer s.cfg.evalScrew } } := by
      rcases hv with rfl | rfl
      · rfl
      · rw [writeDuty_muck, writeDuty_writeDuty]
        simp
    simp only [frame_writeDuty] at hexec
    rw [hduty] at hexec
    rw [if_neg hfault]
    refine gives_of_events hexec ?_ (by simp [after])
    rw [kept_writeDuty, kept_writeDuty, kept_of_watched hafter]

end

section
/-! Channels, writes and timers at rest (O56, O58, O60). -/
namespace Sys2Proof.Machine
open Sys2Proof

variable {s t u v e : State} {c : Instr}

/-- A channel's record is published by no kind, and its gate is all that its guard is judged by. -/
theorem AtRest.withChannel (h : AtRest s) {i : Fin 8} {r : ChannelRec} (hg : r.gate = (s.ch i).gate) : AtRest (putChannel i r s) := by
  refine h.congr rfl rfl rfl (fun k _ => ?_) (fun j => ?_) h.alarm
  · cases k <;> rfl
  · have hdue : (putChannel i r s).gateDue j = s.gateDue j := rfl
    rw [hdue, ← h.gates j, ch_putChannel]
    split
    · rename_i hij
      rw [← hij, hg]
    · rfl

/-- Pulses are published by no kind. -/
theorem AtRest.withPulse (h : AtRest s) (p : PulseState) (x : Timer) :
    AtRest { s with grout := { s.grout with pulse := p, pulseTimer := x } } := by
  refine h.congr rfl rfl rfl (fun k _ => ?_) (fun i => (h.gates i).trans rfl) h.alarm
  cases k <;> rfl

theorem AtRest.withPulseFlag (h : AtRest s) (on : Bool) : AtRest (setPulseFlag on s) := by
  unfold setPulseFlag
  split
  · exact h.withChannel rfl
  · exact h

/-- A flag set stays set at the end of an event. -/
theorem Grows.mask {m : Word16} (h : Grows s t) (hm : s.events.flags &&& m = m) : t.events.flags &&& m = m := by
  obtain ⟨x, hx⟩ := h
  rw [hx]
  grind

theorem raised_mask (f : EventFlag) (s : State) : (raiseEvent f s).events.flags &&& f.mask = f.mask := by
  simp only [raiseEvent]
  grind

/-! ## Speeds of the drive (R56, R69) -/

/-- A speed that does not make the drive overspeed anew (R69). -/
theorem takeDriveSpeed_of_calm {n : Nat}
    (h : decide (s.cfg.speedMax + s.cfg.overspeedMargin < n) = false ∨ s.drive.overspeed = true) :
    ∃ present timer, takeDriveSpeed n s = { s with drive := { s.drive with
      nFb := n, overspeed := decide (s.cfg.speedMax + s.cfg.overspeedMargin < n)
      stallPresent := present, stallTimer := timer } } := by
  unfold takeDriveSpeed examineOverspeed examineStall
  dsimp only
  rw [if_neg]
  · exact ⟨_, _, rfl⟩
  · rcases h with h | h
    · simp [h]
    · simp [h]

/-! ## Writes completed (R173) -/

/-- What is pending starts as the write in flight ends: the bytes are the record of the moment. -/
theorem startPendingWrite_eq {bytes : Nat → List Byte} (hfree : s.mem.inFlight = none) (hb : ∀ n, s.recordBytes n = bytes n) :
    startPendingWrite s = { s with mem :=
      if s.mem.faultPending then { s.mem with inFlight := some (.faultArea s.faults), faultPending := false }
      else if s.mem.recordPending then
        { s.mem with
          inFlight := some (.record (bytes ((s.mem.seq + 1) % 65536)))
          recordPending := false
          seq := (s.mem.seq + 1) % 65536 }
      else s.mem } := by
  unfold startPendingWrite
  rw [hfree]
  dsimp only [Option.isNone_none]
  rw [if_pos rfl]
  by_cases hf : s.mem.faultPending = true
  · rw [if_pos hf, if_pos hf]
    rfl
  · rw [if_neg hf, if_neg hf]
    by_cases hr : s.mem.recordPending = true
    · rw [if_pos hr, if_pos hr, startRecordWrite, hb]
    · rw [if_neg hr, if_neg hr]

/-- The phase of a start after a write has ended (R168). -/
def phaseAfter (p : BootPhase) : BootPhase := if p = .waitingWrite then .readingRecord else p

theorem continueStart_eq (s : State) : continueStart s = { s with boot := { s.boot with phase := phaseAfter s.boot.phase } } := by
  unfold continueStart phaseAfter
  split
  · rfl
  · rfl

/-- The state that the end of a write leaves, the memory port as `m` (R168, R173). -/
def State.writeEnded (s : State) (m : MemPort) : State :=
  { s with mem := s.pendingStarted m, boot := { s.boot with phase := phaseAfter s.boot.phase } }

theorem startPendingWrite_ended {m : MemPort} (hfree : m.inFlight = none) (hf : m.faultPending = s.mem.faultPending)
    (hr : m.recordPending = s.mem.recordPending) (hs : m.seq = s.mem.seq) :
    startPendingWrite (continueStart { s with mem := m }) = s.writeEnded m := by
  have hstart := startPendingWrite_eq (s := { s with mem := m, boot := { s.boot with phase := phaseAfter s.boot.phase } })
    (bytes := s.recordBytes) hfree fun _ => rfl
  rw [continueStart_eq]
  unfold State.writeEnded State.pendingStarted
  rw [← hf, ← hr, ← hs]
  exact hstart

theorem pendingStarted_raiseEvent (f : EventFlag) (s : State) (m : MemPort) :
    (raiseEvent f s).pendingStarted m = s.pendingStarted m := by
  have hbytes (n : Nat) : (raiseEvent f s).recordBytes n = s.recordBytes n := rfl
  unfold State.pendingStarted
  rw [hbytes]
  rfl

/-- What a pending write started leaves of the stores. -/
theorem pendingStarted_stores (s : State) (m : MemPort) :
    (s.pendingStarted m).record = m.record ∧ (s.pendingStarted m).faultCopy = m.faultCopy ∧
      (s.pendingStarted m).recordTorn = m.recordTorn ∧ (s.pendingStarted m).image = m.image := by
  unfold State.pendingStarted
  split
  · simp
  · split <;> simp

/-- With a write pending one is in flight afterwards. -/
theorem inFlight_pendingStarted (m : MemPort) (h : s.mem.faultPending = true ∨ s.mem.recordPending = true) :
    (s.pendingStarted m).inFlight ≠ none := by
  unfold State.pendingStarted
  rcases h with h | h
  · rw [if_pos h]
    simp
  · split
    · simp
    · simp

theorem unanswered_free (m : MemPort) (w : MemWrite) : (m.unanswered w).inFlight = none := by
  cases w <;> rfl

theorem exec_memoryWriteComplete {w : MemWrite} {answered : Bool} (hw : s.mem.inFlight = some w) :
    exec (.memoryWriteComplete answered) s = answer (startPendingWrite (continueStart (completeWrite w answered s))) := by
  change execMemoryWriteComplete answered s = _
  unfold execMemoryWriteComplete
  rw [hw]

end Sys2Proof.Machine

open Sys2Proof Sys2Proof.Machine

/-- Settles O56: at rest the channel's new record is all that moves. -/
theorem dutyPeriodsRun : Obligations.DutyPeriodsRun := by
  refine fun s i hr => ⟨fun hon => ?_, fun hon => ?_⟩
  · intro width
    have hexec : exec (.periodBoundary i) s = answer (putChannel i ((s.ch i).startPeriod (s.chCfg i) s.now (s.ch i).pending) s) := by
      change execPeriodBoundary i s = _
      unfold execPeriodBoundary
      rw [if_pos hon]
    exact next_of_atRest hexec (hr.withChannel rfl)
  · have hexec : exec (.activeTimeEnd i) s =
        answer (putChannel i { s.ch i with activeTimer := .stopped, high := (s.chCfg i).safeHigh } s) := by
      change execActiveTimeEnd i s = _
      unfold execActiveTimeEnd
      rw [if_pos hon]
    exact next_of_atRest hexec (hr.withChannel rfl)

/-- Settles O60: what is pending starts as the write ends, and the end of the event finds it in flight. -/
theorem memoryWriteCompletes : Obligations.MemoryWriteCompletes := by
  refine ⟨fun s w hr hw => ?_, fun s w hw => ?_⟩
  · have hexec := exec_memoryWriteComplete (answered := true) hw
    rw [completeWrite, if_pos rfl] at hexec
    have hended : startPendingWrite (continueStart { s with mem := s.mem.written w }) = s.writeEnded (s.mem.written w) := by
      cases w <;> exact startPendingWrite_ended rfl rfl rfl rfl
    rw [hended] at hexec
    cases w <;> exact next_of_atRest hexec (hr.withMemory _ _)
  · intro m
    have hexec := exec_memoryWriteComplete (answered := false) hw
    have hm : s.mem.unanswered w = m := by cases w <;> rfl
    rw [completeWrite, if_neg (by simp), hm] at hexec
    have hended : startPendingWrite (continueStart (raiseEvent .recordWriteFailed { s with mem := m })) =
        (raiseEvent .recordWriteFailed s).writeEnded m :=
      startPendingWrite_ended (s := raiseEvent .recordWriteFailed s) (hm ▸ unanswered_free s.mem w) (by cases w <;> rfl)
        (by cases w <;> rfl) (by cases w <;> rfl)
    rw [hended, answer_eq] at hexec
    obtain ⟨u, hu⟩ : ∃ u : State, u = (raiseEvent .recordWriteFailed s).writeEnded m := ⟨_, rfl⟩
    rw [← hu] at hexec
    have humem : u.mem = s.pendingStarted m := by rw [hu, State.writeEnded, pendingStarted_raiseEvent]
    have huboot : u.boot = { s.boot with phase := phaseAfter s.boot.phase } := by rw [hu]; rfl
    have humode : u.table.mode = s.table.mode := by rw [hu]; rfl
    have huflags : u.events.flags &&& EventFlag.recordWriteFailed.mask = EventFlag.recordWriteFailed.mask := by
      rw [hu]
      exact raised_mask _ s
    have hmem := memFollows_finish u
    have hgrows := grows_finish u
    have hkept := kept_finish u
    obtain ⟨hrecord, hcopy, htorn, himage⟩ := pendingStarted_stores s m
    generalize finish u = t at *
    refine ⟨t, hexec, hgrows.mask huflags, ?_, fun hmode => ?_, fun hbusy => ?_, ?_, ?_, ?_, ?_, ?_, ?_, ?_, ?_, ?_, ?_⟩
    · rw [boot_of_kept hkept, huboot]
      rfl
    · rw [hmem.still (by rw [humode]; exact hmode), humem]
    · rw [← humem]
      refine hmem.busy ?_
      rcases hbusy with h | h
      · left
        rw [huboot]
        dsimp only [phaseAfter]
        split
        · decide
        · exact h
      · right
        rw [humem]
        exact inFlight_pendingStarted m h
    · rw [record_of_kept hkept, humem, hrecord]
    · rw [faultCopy_of_kept hkept, humem, hcopy]
    · rw [recordTorn_of_kept hkept, humem, htorn]
      cases w <;> rfl
    · rw [image_of_kept hkept, humem, himage]
      cases w <;> rfl
    · rw [drive_of_kept hkept, hu]
      rfl
    · rw [ring_of_kept hkept, hu]
      rfl
    · rw [faults_of_kept hkept, hu]
      rfl
    · rw [stopped_of_kept hkept, hu]
      rfl
    · rw [rx_of_kept hkept, hu]
      rfl
    · rw [cfg_of_kept hkept, hu]
      rfl

/-- Settles O58: the speed reads 0, and a pulse ends or is repeated. -/
theorem timeoutsAndPulsesEnd : Obligations.TimeoutsAndPulsesEnd := by
  have hexec (s : State) (i : Fin 8) (hon : (s.ch i).timeoutTimer.on = true) : exec (.channelTimeoutExpiry i) s =
      answer (deliverNoEdge (s.chCfg i).function (putChannel i { s.ch i with capture := none, timeoutTimer := .stopped } s)) := by
    change execChannelTimeoutExpiry i s = _
    unfold execChannelTimeoutExpiry
    rw [if_pos hon]
  refine ⟨fun s i hon hf => ?_, fun s i hon hf => ?_, fun s hr hon => ?_⟩
  · have hnext := hexec s i hon
    obtain ⟨present, timer, hspeed⟩ := takeDriveSpeed_of_calm (n := 0)
      (s := putChannel i { s.ch i with capture := none, timeoutTimer := .stopped } s) (.inl (by simp))
    rw [hf, deliverNoEdge, hspeed, answer_eq] at hnext
    obtain ⟨x, hx⟩ : ∃ x : Drive, x = { s.drive with nFb := 0, overspeed := false, stallPresent := present, stallTimer := timer } := ⟨_, rfl⟩
    obtain ⟨u, hu⟩ : ∃ u : State, u = { s with
      channels := s.channels.set i { s.ch i with capture := none, timeoutTimer := .stopped }
      drive := x } := ⟨_, rfl⟩
    have hnext : exec (.channelTimeoutExpiry i) s = .next (finish u) := by
      rw [hnext, hu, hx]
      simp
    have hdrive := drive_of_kept (kept_finish u)
    have hsettled := settled_finish u
    generalize finish u = t at *
    have ht : t.drive = x := by rw [hdrive, hu]
    refine ⟨t, hnext, ?_, ?_⟩
    · rw [ht, hx]
    · rw [ht, ← hu]
      exact hsettled
  · have hnext := hexec s i hon
    rw [hf] at hnext
    exact gives_of_events hnext ((kept_examineScrew _).trans rfl) (by simp [deliverNoEdge, takeScrewSpeed])
  · have hnext : exec .pulseWidthExpiry s = answer (endPulse s) := by
      change execPulseWidthExpiry s = _
      unfold execPulseWidthExpiry
      rw [if_pos hon]
    unfold endPulse at hnext
    refine ⟨fun hp => ?_, fun hp => ?_⟩
    · rw [hp] at hnext
      exact next_of_atRest hnext ((hr.withPulse _ _).withPulseFlag _)
    · rw [hp] at hnext
      exact next_of_atRest hnext ((hr.withPulse _ _).withPulseFlag _)

end

section
/-! The effective mode changed (O33, O36) and the rate window (O45). -/
namespace Sys2Proof.Machine
open Sys2Proof

variable {s t u v e : State} {c : Instr}

/-! ## The screw's decision and the shoe's abort, as `Kept` sees them -/

/-- A screw decision moves the state, the commands and a duty. -/
theorem kept_decideScrew (s : State) : ∃ st cmd out l,
    (decideScrew s).kept = { s.kept with screw := st, nCmd := cmd, nOut := out, duties := l } := by
  unfold decideScrew setScrew
  split
  · split
    · exact ⟨_, _, _, _, rfl⟩
    · split
      · rw [kept_examineScrew, kept_writeDuty]
        obtain ⟨l, hl⟩ := Kept.withDuty_keeps
          ({ s with muck := { s.muck with state := .off, nCmd := 0, nOut := 0 } } : State).kept .screwSpeedOut 0
        exact ⟨_, _, _, l, hl⟩
      · rw [kept_examineScrew]
        exact ⟨_, _, _, _, rfl⟩
  · exact ⟨_, _, _, _, rfl⟩

/-- An extension begun moves the shoe and duties. -/
theorem kept_enterExtending_moves (s : State) : ∃ sh l, (enterExtending s).kept = { s.kept with shoe := sh, duties := l } := by
  rw [kept_enterExtending]
  obtain ⟨l, hl⟩ := Kept.withDuty_keeps ({ s with shoe := { s.shoe with
    state := .extending, retract := .stopped, extend := s.timer s.cfg.extendTimeout } } : State).kept .thrustExtend
      (dutyOf s.cfg.pShoe s.cfg.pFull)
  rw [hl]
  obtain ⟨l', hl'⟩ := Kept.withDuty_keeps { ({ s with shoe := { s.shoe with
    state := .extending, retract := .stopped, extend := s.timer s.cfg.extendTimeout } } : State).kept with duties := l }
      .thrustRetract 0
  exact ⟨_, l', hl'⟩

/-- An abort moves the shoe and duties. -/
theorem kept_abortByState (s : State) : ∃ sh l, (abortByState s).kept = { s.kept with shoe := sh, duties := l } := by
  unfold abortByState
  split
  · exact ⟨_, _, rfl⟩
  · exact ⟨_, _, rfl⟩
  · exact ⟨_, _, rfl⟩
  · exact kept_enterExtending_moves s
  · split
    · exact ⟨_, _, rfl⟩
    · exact kept_enterExtending_moves s

theorem kept_abortBuild (s : State) : ∃ sh l, (abortBuild s).kept = { s.kept with shoe := sh, duties := l } := by
  unfold abortBuild
  split
  · exact kept_abortByState s
  · exact ⟨_, _, rfl⟩

/-- A console's frame taken fills a slot and leaves the buffer, and no more of what an event's end keeps. -/
theorem kept_takePopped (b : Bulletin) (rest : List RxFrame) (s : State) :
    (takeContent 0 b { s with port := { s.port with rx := rest } }).kept =
      { s.kept with rx := rest, console := s.table.console.write (s.timer s.cfg.lapseTime) b } := by
  rw [kept_takeConsole]
  rfl

/-! ## A change of the mode (R24) -/

/-- The state that a change of mode finds its abort and its gates in (R24). -/
def State.modeTaken (s : State) (m : EffMode) : State :=
  regimeEvent (decideScrew (decideLine (updateARing { s with table := { s.table with mode := m } })))

theorem setMode_of_same {m : EffMode} (h : m = s.table.mode) : setMode m s = s := by
  unfold setMode
  rw [if_pos h]

theorem setMode_of_ne {m : EffMode} (h : m ≠ s.table.mode) :
    setMode m s = refreshGates (if m = .build then s.modeTaken m else abortBuild (s.modeTaken m)) := by
  unfold setMode
  rw [if_neg h]
  rfl

/-- The screw after a change of mode (R134). -/
def State.screwAt (s : State) (m : EffMode) : ScrewState := ({ s with table := { s.table with mode := m } } : State).screwTable

theorem kept_modeTaken (s : State) (m : EffMode) : ∃ st cmd out l,
    (s.modeTaken m).kept = { s.kept with mode := m, screw := st, nCmd := cmd, nOut := out, duties := l } ∧
      (s.holds .screw = true → st = s.screwAt m) := by
  unfold State.modeTaken
  rw [kept_regimeEvent]
  have hq : (decideLine (updateARing { s with table := { s.table with mode := m } })).kept = { s.kept with mode := m } := by
    rw [kept_decideLine, kept_updateARing]
    rfl
  generalize decideLine (updateARing { s with table := { s.table with mode := m } }) = q at *
  obtain ⟨st, cmd, out, l, hk⟩ := kept_decideScrew q
  refine ⟨st, cmd, out, l, by rw [hk, hq], fun hs => ?_⟩
  have hscrew : (decideScrew q).muck.state = st := congrArg Kept.screw hk
  have hqs : q.kept = ({ s with table := { s.table with mode := m } } : State).kept := hq
  rw [state_decideScrew, if_pos (by rw [holds_of_kept hqs]; exact hs)] at hscrew
  rw [← hscrew]
  unfold State.screwAt State.screwTable
  rw [faults_of_kept hqs, stopped_of_kept hqs, mode_of_kept hqs, blind_of_kept hqs]

/-- A change of the mode moves the mode, the screw, the shoe and duties. -/
theorem kept_setMode_ne {m : EffMode} (h : m ≠ s.table.mode) : ∃ sh st cmd out l,
    (setMode m s).kept = { s.kept with mode := m, shoe := sh, screw := st, nCmd := cmd, nOut := out, duties := l } ∧
      (s.holds .screw = true → st = s.screwAt m) ∧ (m = .build → sh = s.shoe) ∧
      (m ≠ .build → s.shoeMoves = true → s.faults.thrust = none → sh.state = abortedShoe s.shoe.state) := by
  rw [setMode_of_ne h, kept_refreshGates]
  obtain ⟨st, cmd, out, l, hk, hst⟩ := kept_modeTaken s m
  generalize s.modeTaken m = r at *
  by_cases hm : m = .build
  · rw [if_pos hm]
    exact ⟨_, st, cmd, out, l, hk, hst, fun _ => rfl, fun h => absurd hm h⟩
  · rw [if_neg hm]
    obtain ⟨sh, l', ha⟩ := kept_abortBuild r
    refine ⟨sh, st, cmd, out, l', by rw [ha, hk], hst, fun h => absurd h hm, fun _ hmoves hf => ?_⟩
    have hshoe : (abortBuild r).shoe = sh := congrArg Kept.shoe ha
    have hrmoves : r.shoeMoves = true := by
      have hcfg : r.cfg = s.cfg := congrArg Kept.cfg hk
      have hboot : r.boot = s.boot := congrArg Kept.boot hk
      have hback : r.port.backbone = s.port.backbone := congrArg Kept.backbone hk
      have hstop : r.events.stopped = s.events.stopped := congrArg Kept.stopped hk
      simpa only [State.shoeMoves, State.shoeActs, State.holds, State.effectiveRoles, State.jobsRun, hcfg, hboot, hback, hstop]
        using hmoves
    have hrfaults : r.faults.thrust = none := (congrArg (fun k => k.faults.thrust) hk).trans hf
    rw [← hshoe, state_abortBuild hrmoves hrfaults]
    exact congrArg (fun k => abortedShoe k.shoe.state) hk

/-- A mode taken, changed or not. -/
theorem kept_setMode (m : EffMode) (s : State) : ∃ sh st cmd out l,
    (setMode m s).kept = { s.kept with mode := m, shoe := sh, screw := st, nCmd := cmd, nOut := out, duties := l } ∧
      (m = s.table.mode → sh = s.shoe ∧ st = s.muck.state) ∧
      (m ≠ s.table.mode → s.holds .screw = true → st = s.screwAt m) ∧ (m = .build → sh = s.shoe) ∧
      (m ≠ s.table.mode → m ≠ .build → s.shoeMoves = true → s.faults.thrust = none → sh.state = abortedShoe s.shoe.state) := by
  by_cases h : m = s.table.mode
  · rw [setMode_of_same h, h]
    exact ⟨_, _, _, _, _, rfl, fun _ => ⟨rfl, rfl⟩, fun h => absurd rfl h, fun _ => rfl, fun h => absurd rfl h⟩
  · obtain ⟨sh, st, cmd, out, l, hk, hst, hsh, hab⟩ := kept_setMode_ne h
    exact ⟨sh, st, cmd, out, l, hk, fun h' => absurd h' h, fun _ => hst, hsh, fun _ => hab⟩

theorem screwAt_effective (s : State) (m : MachineMode) : s.screwAt m.effective =
    (if s.faults.screw.isSome then .fault else if s.events.stopped ∨ m = .standby then .off
      else if s.muck.blind then .blind else .running) := by
  unfold State.screwAt State.screwTable
  cases m <;> simp [MachineMode.effective]

end Sys2Proof.Machine

open Sys2Proof Sys2Proof.Machine

/-- Settles O33: the slot filled, and the mode of the first SETPOINT. -/
theorem setpointFillsSlot : Obligations.SetpointFillsSlot := by
  intro s b rest hrx
  have hexec : exec .bulletinTaken s = answer (handBulletin (.setpoint b) s.table.console.setpoint.content.isNone
      (takeContent 0 (.setpoint b) (popFrame s))) := by
    change execBulletinTaken s = _
    unfold execBulletinTaken
    rw [hrx]
  rw [popFrame_of_rx hrx] at hexec
  have hkept := kept_takePopped (.setpoint b) rest s
  have hgrows := grows_takeContent 0 (.setpoint b) { s with port := { s.port with rx := rest } }
  generalize takeContent 0 (.setpoint b) { s with port := { s.port with rx := rest } } = v at *
  have hconsole : v.table.console = { s.table.console with setpoint := ⟨some b, s.timer s.cfg.lapseTime⟩ } :=
    congrArg Kept.console hkept
  have hcurrent : v.consoleCurrent = s.consoleCurrent := by simp only [State.consoleCurrent, hconsole]
  unfold handBulletin at hexec
  refine ⟨fun hno => ?_, fun m hempty hcur hmode => ?_⟩
  · dsimp only at hexec
    rw [if_neg (by rw [hcurrent]; rcases hno with h | h <;> simp [h])] at hexec
    exact gives_of_kept hexec hkept hgrows
  · dsimp only at hexec
    have hasked : v.modeAsked = m.mode.effective := by
      have hnow : s.table.console.mode.now? = some m := by
        unfold State.consoleCurrent at hcur
        simp [Slot.now?, hcur, hmode]
      simp only [State.modeAsked, hconsole, hnow]
    rw [if_pos (by rw [hcurrent, hempty, hcur]; rfl), hasked, answer_eq] at hexec
    obtain ⟨sh, st, cmd, out, l, hk, -⟩ := kept_setMode m.mode.effective v
    have hfinish := (kept_finish (setMode m.mode.effective v)).trans hk
    rw [hkept] at hfinish
    generalize finish (setMode m.mode.effective v) = t at *
    exact ⟨t, hexec, congrArg Kept.mode hfinish, congrArg (fun k => k.console.setpoint) hfinish, congrArg Kept.rx hfinish,
      congrArg Kept.drive hfinish, congrArg Kept.ring hfinish, congrArg Kept.faults hfinish, congrArg Kept.stopped hfinish⟩

/-- Settles O36: the slot filled, and the mode taken with a SETPOINT held. -/
theorem modeTakesEffect : Obligations.ModeTakesEffect := by
  have hexec (s : State) (b : ModeBody) (rest : List RxFrame) (hrx : s.port.rx = ⟨0, .mode b⟩ :: rest) :
      exec .modeTaken s = answer (takeMode b.mode (takeRing b.ring (takeContent 0 (.mode b)
        { s with port := { s.port with rx := rest } }))) := by
    change execModeTaken s = _
    unfold execModeTaken
    rw [hrx, popFrame_of_rx hrx]
  refine ⟨fun s b rest hrx hring hempty => ?_, fun s b rest hrx hring hheld => ?_⟩
  · have hnext := hexec s b rest hrx
    have hkept := kept_takePopped (.mode b) rest s
    have hgrows := grows_takeContent 0 (.mode b) { s with port := { s.port with rx := rest } }
    generalize takeContent 0 (.mode b) { s with port := { s.port with rx := rest } } = v at *
    have hvring : v.adv.ring = s.adv.ring := congrArg Kept.ring hkept
    have hvset : v.table.console.setpoint = s.table.console.setpoint := congrArg (fun k => k.console.setpoint) hkept
    rw [takeRing, if_pos (by rw [hvring]; exact hring), takeMode, if_neg (by rw [hvset, hempty]; simp)] at hnext
    exact gives_of_kept hnext hkept hgrows
  · have hnext := hexec s b rest hrx
    have hkept := kept_takePopped (.mode b) rest s
    generalize takeContent 0 (.mode b) { s with port := { s.port with rx := rest } } = v at *
    have hvring : v.adv.ring = s.adv.ring := congrArg Kept.ring hkept
    have hvset : v.table.console.setpoint = s.table.console.setpoint := congrArg (fun k => k.console.setpoint) hkept
    have hvmode : v.table.mode = s.table.mode := congrArg Kept.mode hkept
    rw [takeRing, if_pos (by rw [hvring]; exact hring), takeMode,
      if_pos (by rw [hvset]; simpa [Option.isSome_iff_ne_none] using hheld), answer_eq] at hnext
    obtain ⟨sh, st, cmd, out, l, hk, hsame, hscrew, hbuild, habort⟩ := kept_setMode b.mode.effective v
    have hfinish := (kept_finish (setMode b.mode.effective v)).trans hk
    rw [hkept] at hfinish
    generalize finish (setMode b.mode.effective v) = t at *
    refine ⟨t, hnext, congrArg Kept.mode hfinish, congrArg Kept.console hfinish, congrArg Kept.rx hfinish,
      congrArg Kept.ring hfinish, congrArg Kept.base hfinish, congrArg Kept.drive hfinish, congrArg Kept.faults hfinish,
      congrArg Kept.boot hfinish, congrArg Kept.cfg hfinish, congrArg Kept.stopped hfinish, congrArg Kept.pSet hfinish,
      congrArg Kept.delivered hfinish, congrArg Kept.mMeas hfinish, ?_, ?_, ?_, ?_⟩
    · intro h
      obtain ⟨hsh, hst⟩ := hsame (h.trans hvmode.symm)
      exact ⟨(congrArg Kept.shoe hfinish).trans (hsh.trans (congrArg Kept.shoe hkept)),
        (congrArg Kept.screw hfinish).trans (hst.trans (congrArg Kept.screw hkept))⟩
    · intro h hs
      have hvs : v.holds .screw = true := by
        have hcfg : v.cfg = s.cfg := congrArg Kept.cfg hkept
        have hboot : v.boot = s.boot := congrArg Kept.boot hkept
        simpa only [State.holds, State.effectiveRoles, hcfg, hboot] using hs
      have hvf : v.faults = s.faults := congrArg Kept.faults hkept
      have hve : v.events.stopped = s.events.stopped := congrArg Kept.stopped hkept
      have hvb : v.muck.blind = s.muck.blind := congrArg Kept.blind hkept
      refine (congrArg Kept.screw hfinish).trans ((hscrew (fun h' => h (h'.trans hvmode)) hvs).trans ?_)
      rw [screwAt_effective, hvf, hve, hvb]
    · intro h hne hmoves hf
      have hvmoves : v.shoeMoves = true := by
        have hcfg : v.cfg = s.cfg := congrArg Kept.cfg hkept
        have hboot : v.boot = s.boot := congrArg Kept.boot hkept
        have hback : v.port.backbone = s.port.backbone := congrArg Kept.backbone hkept
        have hstop : v.events.stopped = s.events.stopped := congrArg Kept.stopped hkept
        simpa only [State.shoeMoves, State.shoeActs, State.holds, State.effectiveRoles, State.jobsRun, hcfg, hboot, hback, hstop]
          using hmoves
      have hab := habort (fun h' => h (h'.trans hvmode)) (by revert hne; cases b.mode <;> simp [MachineMode.effective]) hvmoves
        ((congrArg (fun k => k.faults.thrust) hkept).trans hf)
      have hvst : v.shoe.state = s.shoe.state := congrArg (fun k => k.shoe.state) hkept
      rw [hvst] at hab
      exact (congrArg (fun k => k.shoe.state) hfinish).trans hab
    · intro hb
      exact (congrArg Kept.shoe hfinish).trans ((hbuild (by rw [hb]; rfl)).trans (congrArg Kept.shoe hkept))

end

section
/-! What the end of an event makes of the transmit queue, the publication timers and the own entry (O46, O59). -/
namespace Sys2Proof.Machine
open Sys2Proof

variable {s t u v e : State} {c : Instr} {w : State → OwnKind → Prop}

/-! ## The queue -/

theorem mem_enqueueBody_other {b : Bulletin} {l : Option Nat} {q : List TxEntry} {x : TxEntry} (hx : x ∈ q)
    (hne : x.body.code ≠ b.code) : x ∈ enqueueBody b l q := by
  induction q with
  | nil => cases hx
  | cons y rest ih =>
    unfold enqueueBody
    split
    · exact List.mem_cons_of_mem _ hx
    · rcases List.mem_cons.mp hx with rfl | h
      · rw [if_neg (Ne.symm hne)]
        exact List.mem_cons_self
      · split
        · exact List.mem_cons_of_mem _ h
        · exact List.mem_cons_of_mem _ (ih h)

theorem mem_enqueueBody_self (b : Bulletin) (l : Option Nat) (q : List TxEntry) : ∃ x ∈ enqueueBody b l q, x.body = b := by
  induction q with
  | nil => exact ⟨_, List.mem_cons_self, rfl⟩
  | cons y rest ih =>
    unfold enqueueBody
    split
    · exact ⟨_, List.mem_cons_self, rfl⟩
    · split
      · exact ⟨_, List.mem_cons_self, rfl⟩
      · obtain ⟨x, hx, hb⟩ := ih
        exact ⟨x, List.mem_cons_of_mem _ hx, hb⟩

/-- An enqueued content takes no kind from the queue (R12). -/
theorem code_enqueueBody {b : Bulletin} {l : Option Nat} {q : List TxEntry} {n : Nat} (h : ∃ x ∈ q, x.body.code = n) :
    ∃ x ∈ enqueueBody b l q, x.body.code = n := by
  obtain ⟨x, hx, hcode⟩ := h
  by_cases hn : n = b.code
  · obtain ⟨y, hy, hb⟩ := mem_enqueueBody_self b l q
    exact ⟨y, hy, by rw [hb, hn]⟩
  · exact ⟨x, mem_enqueueBody_other hx (by rw [hcode]; exact hn), hcode⟩

/-- The end of an event enqueues contents of the states that it passes, restarting their timers, and no more of the queue and the
publication timers moves. -/
theorem EndMove.queue (h : EndMove w s t) : (t.port.queue = s.port.queue ∧ t.port.pubTimer = s.port.pubTimer) ∨
    ∃ k u, k ≠ .stop ∧ State.kept u = s.kept ∧ t = enqueueKind k (u.content k) s := by
  cases h with
  | queued k hk hb u hu => exact .inr ⟨k, u, hk, hu, rfl⟩
  | marked | own | reference | machineA | aRing | weight | causes | gate | alarm => left; simp [markSeen, refreshAlarm]

theorem EndMoves.stopQueued (h : EndMoves w s t) {b : StopBody} (hs : ∃ x ∈ s.port.queue, x.body = .stop b) :
    ∃ x ∈ t.port.queue, x.body = .stop b := by
  refine h.keeps (P := fun u => ∃ x ∈ u.port.queue, x.body = .stop b) (fun u v hm hu => ?_) hs
  rcases hm.queue with ⟨hq, -⟩ | ⟨k, y, hk, -, rfl⟩
  · rw [hq]
    exact hu
  · obtain ⟨x, hx, hb⟩ := hu
    refine ⟨x, mem_enqueueBody_other hx ?_, hb⟩
    rw [hb]
    exact (code_content_ne_zero hk y).symm

theorem EndMoves.kindQueued (h : EndMoves w s t) {n : Nat} (hs : ∃ x ∈ s.port.queue, x.body.code = n) :
    ∃ x ∈ t.port.queue, x.body.code = n := by
  refine h.keeps (P := fun u => ∃ x ∈ u.port.queue, x.body.code = n) (fun u v hm hu => ?_) hs
  rcases hm.queue with ⟨hq, -⟩ | ⟨k, y, -, -, rfl⟩
  · rw [hq]
    exact hu
  · exact code_enqueueBody hu

/-! ## Publication timers -/

/-- A publication timer that runs a full period of this moment goes on doing so. -/
theorem EndMoves.pubTimer_full (h : EndMoves w s t) {k : OwnKind}
    (hs : s.port.pubTimer.get k = s.timer (s.cfg.period k)) : t.port.pubTimer.get k = s.timer (s.cfg.period k) := by
  refine (h.keeps (P := fun u => u.kept = s.kept ∧ u.port.pubTimer.get k = s.timer (s.cfg.period k)) (fun u v hm hu => ?_)
    ⟨rfl, hs⟩).2
  obtain ⟨hkept, hu⟩ := hu
  refine ⟨hm.kept.trans hkept, ?_⟩
  rcases hm.queue with ⟨-, hq⟩ | ⟨j, y, -, -, rfl⟩
  · rw [hq]
    exact hu
  · change (u.port.pubTimer.put j _).get k = _
    by_cases hj : k = j
    · subst hj
      rw [PerKind.get_put_self, timer_of_kept hkept, cfg_of_kept hkept, hu, ite_self]
    · rw [PerKind.get_put_other _ (Ne.symm hj), hu]

/-- A publication timer that is stopped stays so. -/
theorem EndMoves.pubTimer_off (h : EndMoves w s t) {k : OwnKind} (hs : (s.port.pubTimer.get k).on = false) :
    t.port.pubTimer.get k = s.port.pubTimer.get k := by
  refine h.keeps (P := fun u => u.port.pubTimer.get k = s.port.pubTimer.get k) (fun u v hm hu => ?_) rfl
  rcases hm.queue with ⟨-, hq⟩ | ⟨j, y, -, -, rfl⟩
  · rw [hq]
    exact hu
  · change (u.port.pubTimer.put j _).get k = _
    by_cases hj : k = j
    · subst hj
      rw [PerKind.get_put_self, hu, hs]
      rfl
    · rw [PerKind.get_put_other _ (Ne.symm hj), hu]

/-! ## The own entry -/

theorem currency_write (e : StationEntry) (x : Timer) (k j : OwnKind) (s : State) :
    (e.write x (s.content k)).currency j = if k = j then x else e.currency j := by
  cases k <;> cases j <;> rfl

theorem stop_write (e : StationEntry) (x : Timer) {k : OwnKind} (hk : k ≠ .stop) (s : State) :
    (e.write x (s.content k)).stop = e.stop := by
  cases k with
  | stop => exact absurd rfl hk
  | claim | thrust | drive | screw | grout | status | id => rfl

/-- What the end of an event keeps of the own entry: a property that every own content written keeps. -/
theorem EndMoves.ownEntry (h : EndMoves w s t) (h1 : 1 ≤ s.boot.station) (h15 : s.boot.station ≤ 15) {P : StationEntry → Prop}
    (hp : ∀ (u : State) (k : OwnKind), k ≠ .stop → u.kept = s.kept →
      P u.ownEntry → P (u.ownEntry.write (s.timer s.cfg.lapseTime) (u.content k)))
    (hs : P s.ownEntry) : P t.ownEntry := by
  refine (h.keeps (P := fun u => u.kept = s.kept ∧ P u.ownEntry) (fun u v hm hu => ?_) ⟨rfl, hs⟩).2
  obtain ⟨hkept, hu⟩ := hu
  refine ⟨hm.kept.trans hkept, ?_⟩
  obtain ⟨-, -, ⟨k, hk, -, -, rfl⟩ | hstations⟩ := hm.table
  · have hboot := boot_of_kept hkept
    have hentry : (putOwnEntry (u.ownEntry.write (u.timer u.cfg.lapseTime) (u.content k)) u).ownEntry =
        u.ownEntry.write (u.timer u.cfg.lapseTime) (u.content k) :=
      putEntry_entry_self _ _ (by rw [hboot]; exact h1) (by rw [hboot]; exact h15)
    rw [hentry, timer_of_kept hkept, cfg_of_kept hkept]
    exact hp u k hk hkept hu
  · have hentry : v.ownEntry = u.ownEntry := by
      unfold State.ownEntry
      rw [boot_of_kept hm.kept, entry_congr hstations]
    rw [hentry]
    exact hu

/-- The currency of an own slot restarted at this moment stays full. -/
theorem EndMoves.currency_full (h : EndMoves w s t) (h1 : 1 ≤ s.boot.station) (h15 : s.boot.station ≤ 15) {k : OwnKind}
    (hs : s.ownEntry.currency k = s.timer s.cfg.lapseTime) : t.ownEntry.currency k = s.timer s.cfg.lapseTime :=
  h.ownEntry h1 h15 (P := fun e => e.currency k = s.timer s.cfg.lapseTime) (fun u j _ _ hu => by
    rw [currency_write]
    split
    · rfl
    · exact hu) hs

/-- An empty own STOP slot stays empty. -/
theorem EndMoves.stopSlot_empty (h : EndMoves w s t) (h1 : 1 ≤ s.boot.station) (h15 : s.boot.station ≤ 15)
    (hs : s.ownEntry.stop = ⟨none, .stopped⟩) : t.ownEntry.stop = ⟨none, .stopped⟩ :=
  h.ownEntry h1 h15 (P := fun e => e.stop = ⟨none, .stopped⟩) (fun u j hj _ hu => by
    rw [stop_write _ _ hj]
    exact hu) hs

/-! ## A kind published (R12, R23) -/

theorem gateDue_of_stopped (h : s.events.stopped = true) (i : Fin 8) : s.gateDue i = false := by
  unfold State.gateDue
  rw [h]
  split <;> simp

/-- The end of an event with the latch set leaves every gate shut (R157). -/
theorem gate_of_stopped (h : s.events.stopped = true) (i : Fin 8) : ((finish s).ch i).gate = false := by
  rw [gate_finish]
  exact gateDue_of_stopped ((stopped_of_kept (kept_finish s)).trans h) i

theorem writeOwn_of_ne {k : OwnKind} (hk : k ≠ .stop) (s : State) : writeOwn (s.content k) s =
    tableChanged (putOwnEntry (s.ownEntry.write (s.timer s.cfg.lapseTime) (s.content k)) s) := by
  cases k with
  | stop => exact absurd rfl hk
  | claim | thrust | drive | screw | grout | status | id => rfl

theorem writeOwn_stop (s : State) : writeOwn (s.content .stop) s =
    setStopped (tableChanged (putOwnEntry (s.ownEntry.write (s.timer s.cfg.lapseTime) (s.content .stop)) s)) := rfl

/-- What an own content written moves: the entry, what a change of the table gives, and the latch of a STOP. -/
theorem frame_writeOwn (k : OwnKind) (s : State) :
    (writeOwn (s.content k) s).table.stations =
        (s.table.putEntry s.boot.station (s.ownEntry.write (s.timer s.cfg.lapseTime) (s.content k))).stations ∧
      (writeOwn (s.content k) s).port.queue = s.port.queue ∧ (writeOwn (s.content k) s).port.onLine = s.port.onLine ∧
      (writeOwn (s.content k) s).port.rx = s.port.rx ∧ (writeOwn (s.content k) s).port.pubTimer = s.port.pubTimer ∧
      (writeOwn (s.content k) s).drive = s.drive ∧ (writeOwn (s.content k) s).faults = s.faults ∧
      (writeOwn (s.content k) s).adv.ring = s.adv.ring ∧ (writeOwn (s.content k) s).pins = s.pins ∧
      (writeOwn (s.content k) s).cfg = s.cfg ∧ (writeOwn (s.content k) s).now = s.now ∧
      (k = .stop → (writeOwn (s.content k) s).events.stopped = true) := by
  by_cases hk : k = .stop
  · subst hk
    rw [writeOwn_stop]
    generalize s.ownEntry.write (s.timer s.cfg.lapseTime) (s.content .stop) = x
    simp
  · rw [writeOwn_of_ne hk]
    generalize s.ownEntry.write (s.timer s.cfg.lapseTime) (s.content k) = x
    simp [hk]

end Sys2Proof.Machine

open Sys2Proof Sys2Proof.Machine

/-- Settles O46: the publication, and what the end of the event leaves of the queue, the timer and the own entry. -/
theorem publicationEnqueues : Obligations.PublicationEnqueues := by
  intro s k hon hb
  have hexec : exec (.publicationTimerExpiry k) s = .next (finish (publish k s)) := by
    change execPublicationTimerExpiry k s = _
    unfold execPublicationTimerExpiry
    rw [if_pos hon]
    rfl
  obtain ⟨hstations, hqueue, -, hrx, htimer, hdrive, hfaults, hring, -, hcfg, hnow, hstop⟩ := frame_writeOwn k s
  have hpublish : publish k s = enqueueKind k (s.content k) (writeOwn (s.content k) s) := by
    unfold publish
    rw [if_pos hb]
  have hboot : (publish k s).boot = s.boot := boot_publish k s
  have hkept : k ≠ .stop → (publish k s).kept = s.kept := fun hk => kept_publish hk s
  have hgrows : k ≠ .stop → Grows s (publish k s) := fun hk => grows_publish hk s
  obtain ⟨y, hy⟩ : ∃ y : State, y = writeOwn (s.content k) s := ⟨_, rfl⟩
  rw [← hy] at *
  have hqueued : ∃ e ∈ (publish k s).port.queue, e.body = s.content k := by
    rw [hpublish]
    exact mem_enqueueBody_self _ _ _
  have hpub : (publish k s).port.pubTimer.get k = s.timer (s.cfg.period k) := by
    rw [hpublish]
    simp only [enqueueKind, PerKind.get_put_self, htimer, hon, if_true, State.timer, hnow, hcfg]
  have hown : 1 ≤ s.boot.station → s.boot.station ≤ 15 →
      (publish k s).ownEntry = s.ownEntry.write (s.timer s.cfg.lapseTime) (s.content k) := fun h1 h15 => by
    unfold State.ownEntry
    rw [hboot, hpublish]
    exact (entry_congr hstations _).trans (putEntry_entry_self _ _ h1 h15)
  have hpnow : (publish k s).timer = s.timer := by
    funext ms
    rw [hpublish]
    simp only [enqueueKind, State.timer, hnow]
  have hpcfg : (publish k s).cfg = s.cfg := by
    rw [hpublish]
    exact hcfg
  have hmoves := endMoves_finish (publish k s)
  have hfinish := settled_finish (publish k s)
  refine ⟨_, hexec, rfl, hqueued, ?_, fun h1 h15 => ⟨hown h1 h15, ?_⟩, ?_, fun hk => ?_, fun hk => ?_⟩
  · obtain ⟨e, he, hbody⟩ := hqueued
    exact hmoves.kindQueued ⟨e, he, by rw [hbody, content_code]⟩
  · have := hmoves.currency_full (k := k) (by rw [hboot]; exact h1) (by rw [hboot]; exact h15) (by
      rw [hown h1 h15, currency_write, if_pos rfl, hpnow, hpcfg])
    rw [this, hpnow, hpcfg]
  · have := hmoves.pubTimer_full (k := k) (by rw [hpub, hpnow, hpcfg])
    rw [this, hpnow, hpcfg]
  · exact ⟨hfinish.kept.trans (hkept hk), ((hgrows hk).trans (grows_finish _)).and_eq⟩
  · have hfkept := hfinish.kept
    refine ⟨?_, ?_, ?_, ?_, ?_⟩
    · rw [stopped_of_kept hfkept, hpublish]
      exact hstop hk
    · rw [rx_of_kept hfkept, hpublish]
      exact hrx
    · rw [drive_of_kept hfkept, hpublish]
      exact hdrive
    · rw [faults_of_kept hfkept, hpublish]
      exact hfaults
    · rw [ring_of_kept hfkept, hpublish]
      exact hring

end

section
/-! The pins (O59). -/
namespace Sys2Proof.Machine
open Sys2Proof

variable {s t u v e : State} {c : Instr} {w : State → OwnKind → Prop}

/-! ## The publication timers after their conditions (R10) -/

theorem kept_refreshPubTimer (k : OwnKind) (s : State) : (refreshPubTimer k s).kept = s.kept := by
  unfold refreshPubTimer
  dsimp only
  split
  · rfl
  · split <;> rfl

theorem kept_refreshPubTimers (s : State) : (refreshPubTimers s).kept = s.kept := by
  simp only [refreshPubTimers, kept_refreshPubTimer]

theorem pubDue_of_kept (h : t.kept = s.kept) (k : OwnKind) : t.pubDue k = s.pubDue k := by
  cases k <;> simp only [State.pubDue, onBackbone_of_kept h, jobsRun_of_kept h, holds_of_kept h, pins_of_kept h]

theorem pubTimer_refreshPubTimer_self (k : OwnKind) (s : State) :
    ((refreshPubTimer k s).port.pubTimer.get k).on = s.pubDue k := by
  unfold refreshPubTimer
  dsimp only
  split
  · rename_i h
    exact h.symm
  · rename_i h
    split
    · rename_i hd
      simp only [PerKind.get_put_self]
      rw [hd]
      rfl
    · rename_i hd
      simp only [PerKind.get_put_self]
      simp only [Bool.not_eq_true] at hd
      rw [hd]
      rfl

theorem pubTimer_refreshPubTimer_other {k j : OwnKind} (h : k ≠ j) (s : State) :
    (refreshPubTimer k s).port.pubTimer.get j = s.port.pubTimer.get j := by
  unfold refreshPubTimer
  dsimp only
  split
  · rfl
  · split <;> exact PerKind.get_put_other _ h _

/-- Every publication timer runs exactly while its condition stands (R10). -/
theorem pubTimer_refreshPubTimers (k : OwnKind) (s : State) : ((refreshPubTimers s).port.pubTimer.get k).on = s.pubDue k := by
  have hself (j : OwnKind) (u : State) (hu : u.kept = s.kept) : ((refreshPubTimer j u).port.pubTimer.get j).on = s.pubDue j := by
    rw [pubTimer_refreshPubTimer_self, pubDue_of_kept hu]
  have hother := @pubTimer_refreshPubTimer_other
  unfold refreshPubTimers
  cases k with
  | stop =>
    iterate 7 rw [hother (by decide)]
    exact hself _ _ rfl
  | claim =>
    iterate 6 rw [hother (by decide)]
    exact hself _ _ (by simp only [kept_refreshPubTimer])
  | thrust =>
    iterate 5 rw [hother (by decide)]
    exact hself _ _ (by simp only [kept_refreshPubTimer])
  | drive =>
    iterate 4 rw [hother (by decide)]
    exact hself _ _ (by simp only [kept_refreshPubTimer])
  | screw =>
    iterate 3 rw [hother (by decide)]
    exact hself _ _ (by simp only [kept_refreshPubTimer])
  | grout =>
    iterate 2 rw [hother (by decide)]
    exact hself _ _ (by simp only [kept_refreshPubTimer])
  | status =>
    rw [hother (by decide)]
    exact hself _ _ (by simp only [kept_refreshPubTimer])
  | id => exact hself _ _ (by simp only [kept_refreshPubTimer])

theorem events_refreshPubTimers (s : State) : (refreshPubTimers s).events = s.events := by
  have hone (k : OwnKind) (u : State) : (refreshPubTimer k u).events = u.events := by
    unfold refreshPubTimer
    dsimp only
    split
    · rfl
    · split <;> rfl
  simp only [refreshPubTimers, hone]

/-- STOP published: its entry is queued and the stores beside the table stand. -/
theorem frame_publish_stop (s : State) :
    (publish .stop s).port.rx = s.port.rx ∧ (publish .stop s).drive = s.drive ∧ (publish .stop s).faults = s.faults ∧
      (publish .stop s).adv.ring = s.adv.ring ∧ (publish .stop s).pins = s.pins ∧ (publish .stop s).cfg = s.cfg ∧
      (s.onBackbone = true → ∃ x ∈ (publish .stop s).port.queue, x.body = .stop ⟨.localInput⟩) := by
  obtain ⟨-, -, -, hrx, -, hdrive, hfaults, hring, hpins, hcfg, -, -⟩ := frame_writeOwn .stop s
  unfold publish
  generalize writeOwn (s.content .stop) s = y at *
  split
  · exact ⟨hrx, hdrive, hfaults, hring, hpins, hcfg, fun _ => mem_enqueueBody_self _ _ _⟩
  · rename_i h
    exact ⟨rfl, rfl, rfl, rfl, rfl, rfl, fun h' => absurd h' h⟩

end Sys2Proof.Machine

open Sys2Proof Sys2Proof.Machine

/-- Settles O59: the latch and the gates after it, the own STOP slot, and the gates as their guards then stand. -/
theorem pinEventsAct : Obligations.PinEventsAct := by
  refine ⟨fun s hin hacc => ?_, fun s hin h1 h15 => ?_, fun s active => ?_⟩
  · obtain ⟨p, hp⟩ : ∃ p : State, p = refreshPubTimers { s with pins := { s.pins with stopInput := true } } := ⟨_, rfl⟩
    have hpkept : p.kept = ({ s with pins := { s.pins with stopInput := true } } : State).kept := by
      rw [hp]
      exact kept_refreshPubTimers _
    have hexec : exec .stopInputActive s = .next (finish (setStopped (publish .stop p))) := by
      change execStopInputActive s = _
      unfold execStopInputActive
      rw [if_neg (by simp [hin])]
      dsimp only
      rw [if_pos hacc, hp]
      rfl
    obtain ⟨hrx, hdrive, hfaults, hring, hpins, hcfg, hqueue⟩ := frame_publish_stop p
    have hboot := boot_publish .stop p
    generalize publish .stop p = y at *
    have hkept := kept_finish (setStopped y)
    have hmoves := endMoves_finish (setStopped y)
    have hgates := gate_of_stopped (s := setStopped y) (by simp)
    have hframe := frame_setStopped y
    generalize setStopped y = x at *
    generalize finish x = t at *
    obtain ⟨hxboot, hxcfg, hxpins, -, -, hxport, -, hxadv, hxdrive, -, -, -, hxfaults, hxevents⟩ := hframe
    refine ⟨t, hexec, ?_, ?_, hgates, fun hb => ?_, ?_, ?_, ?_, ?_, ?_, ?_⟩
    · rw [pins_of_kept hkept, hxpins, hpins, pins_of_kept hpkept]
    · rw [stopped_of_kept hkept, hxevents]
    · refine hmoves.stopQueued ?_
      rw [hxport]
      exact hqueue (by rw [onBackbone_of_kept hpkept]; exact hb)
    · rw [drive_of_kept hkept, hxdrive, hdrive, drive_of_kept hpkept]
    · rw [ring_of_kept hkept, hxadv, hring, ring_of_kept hpkept]
    · rw [faults_of_kept hkept, hxfaults, hfaults, faults_of_kept hpkept]
    · rw [rx_of_kept hkept, hxport, hrx, rx_of_kept hpkept]
    · rw [cfg_of_kept hkept, hxcfg, hcfg, cfg_of_kept hpkept]
    · rw [boot_of_kept hkept, hxboot, hboot, boot_of_kept hpkept]
  · obtain ⟨p, hp⟩ : ∃ p : State, p = refreshPubTimers { s with pins := { s.pins with stopInput := false } } := ⟨_, rfl⟩
    have hpkept : p.kept = ({ s with pins := { s.pins with stopInput := false } } : State).kept := by
      rw [hp]
      exact kept_refreshPubTimers _
    have hpboot : p.boot = s.boot := (boot_of_kept hpkept).trans rfl
    have hptimer : (p.port.pubTimer.get .stop).on = false := by
      rw [hp, pubTimer_refreshPubTimers]
      rfl
    have hpflags : Grows { s with pins := { s.pins with stopInput := false } } p := .of_eq (by rw [hp, events_refreshPubTimers])
    have hexec : exec .stopInputReleased s =
        .next (finish (tableChanged (putOwnEntry (p.ownEntry.emptySlot .stop) p))) := by
      change execStopInputReleased s = _
      unfold execStopInputReleased
      rw [if_pos hin, hp]
      rfl
    obtain ⟨q, hq⟩ : ∃ q : State, q = tableChanged (putOwnEntry (p.ownEntry.emptySlot .stop) p) := ⟨_, rfl⟩
    rw [← hq] at hexec
    have hqkept : q.kept = p.kept := by rw [hq, kept_tableChanged, kept_putOwnEntry]
    have hqown : q.ownEntry.stop = ⟨none, .stopped⟩ := by
      have hentry : q.ownEntry = p.ownEntry.emptySlot .stop := by
        have hstations : q.table.stations = (p.table.putEntry p.boot.station (p.ownEntry.emptySlot .stop)).stations := by
          rw [hq]
          exact (frame_tableChanged _).2.2.2.2.2.1
        change q.table.entry q.boot.station = _
        rw [boot_of_kept hqkept, entry_congr hstations]
        exact putEntry_entry_self _ _ (hpboot ▸ h1) (hpboot ▸ h15)
      rw [hentry]
      rfl
    have hqtimer : q.port.pubTimer = p.port.pubTimer := by
      rw [hq]
      generalize p.ownEntry.emptySlot .stop = x
      simp
    have hqgrows : Grows p q := by
      rw [hq]
      exact (grows_tableChanged (putOwnEntry (p.ownEntry.emptySlot .stop) p)).from rfl
    have hqboot : q.boot = s.boot := (boot_of_kept hqkept).trans hpboot
    have hmoves := endMoves_finish q
    refine ⟨finish q, hexec, hmoves.stopSlot_empty (by rw [hqboot]; exact h1) (by rw [hqboot]; exact h15) hqown, ?_,
      (kept_finish q).trans (hqkept.trans hpkept), (hpflags.trans (hqgrows.trans (grows_finish q))).and_eq⟩
    have := hmoves.pubTimer_off (k := .stop) (by rw [hqtimer]; exact hptimer)
    exact (congrArg Timer.on (this.trans (by rw [hqtimer]))).trans hptimer
  · have hexec : exec (.permitInputChange active) s =
        .next (finish (refreshGates { s with pins := { s.pins with permitInput := active } })) := rfl
    exact ⟨_, hexec, ⟨(kept_finish _).trans (kept_refreshGates _), ((Grows.of_eq (by simp)).trans (grows_finish _)).and_eq⟩,
      fun i => gate_finish i _⟩

end

section
/-! JOINING left (O26). -/
namespace Sys2Proof.Machine
open Sys2Proof

variable {s t u v e : State} {c : Instr}

/-- Leaving JOINING moves the backbone state, the shoe and duties; an EXTENDING shoe stands. -/
theorem kept_setBackbone_joining (b : Backbone) (h : s.port.backbone = .joining) : ∃ sh l,
    (setBackbone b s).kept = { s.kept with backbone := b, shoe := sh, duties := l } ∧
      (s.shoe.state = .extending → sh = s.shoe) := by
  unfold setBackbone
  dsimp only
  rw [if_neg (c := s.jobsRun = true) (by simp [State.jobsRun, h]), kept_refreshGates]
  split
  · obtain ⟨sh, l, hk⟩ := kept_abortBuild { s with port := { s.port with backbone := b } }
    refine ⟨sh, l, hk, fun hst => ?_⟩
    have hshoe : (abortBuild { s with port := { s.port with backbone := b } }).shoe = sh := congrArg Kept.shoe hk
    rw [← hshoe]
    unfold abortBuild abortByState
    split
    · simp [hst]
    · rfl
  · exact ⟨_, _, rfl, fun _ => rfl⟩

theorem frame_startPendingExtend (s : State) : ∃ tm, startPendingExtend s = { s with shoe := { s.shoe with extend := tm } } ∧
    (s.holds .thrust = true → s.shoe.state = .extending → s.shoe.decisionPending = false → s.events.stopped = false →
      tm = s.timer s.cfg.extendTimeout) := by
  unfold startPendingExtend
  split
  · exact ⟨_, rfl, fun _ _ _ _ => rfl⟩
  · rename_i h
    exact ⟨s.shoe.extend, rfl, fun h1 h2 h3 h4 => absurd (by simp [h1, h2, h3, h4]) h⟩

end Sys2Proof.Machine

open Sys2Proof Sys2Proof.Machine

/-- Settles O26: the backbone state first, then the timers that start with it. -/
theorem joinTimerLeavesJoining : Obligations.JoinTimerLeavesJoining := by
  intro s hon hj
  obtain ⟨s1, hs1⟩ : ∃ s1 : State, s1 = { s with port := { s.port with joinTimer := .stopped } } := ⟨_, rfl⟩
  obtain ⟨sh, l, hkept, hsh⟩ := kept_setBackbone_joining (s := s1) (if s.port.failures < 16 then .online else .isolated)
    (by rw [hs1]; exact hj)
  have hexec : exec .joinTimerExpiry s = .next (finish (startPendingExtend (refreshPubTimers (startEvaluations
      (setBackbone (if s.port.failures < 16 then .online else .isolated) s1))))) := by
    change execJoinTimerExpiry s = _
    unfold execJoinTimerExpiry
    rw [if_pos (by simp [hon, hj]), hs1]
    rfl
  have hframe := frame_setBackbone (if s.port.failures < 16 then .online else .isolated) s1
  generalize hb : (if s.port.failures < 16 then Backbone.online else .isolated) = b at *
  generalize setBackbone b s1 = v at *
  obtain ⟨hport, -, -, hdrive, hthrust, -, -, -, -, -⟩ := hframe
  have hwkept := kept_refreshPubTimers (startEvaluations v)
  generalize refreshPubTimers (startEvaluations v) = w at *
  obtain ⟨tm, hext, htm⟩ := frame_startPendingExtend w
  rw [hext] at hexec
  have hfinish := (kept_finish { w with shoe := { w.shoe with extend := tm } }).trans
    (show _ = { w.kept with shoe := { w.shoe with extend := tm } } from rfl)
  rw [hwkept] at hfinish
  generalize finish { w with shoe := { w.shoe with extend := tm } } = t at *
  have hholds (r : Role) : v.holds r = s.holds r := by
    have hcfg : v.cfg = s1.cfg := congrArg Kept.cfg hkept
    have hboot : v.boot = s1.boot := congrArg Kept.boot hkept
    simp only [State.holds, State.effectiveRoles, hcfg, hboot, hs1]
  have hnow : v.now = s.now := (congrArg Kept.now hkept).trans (by rw [hs1]; rfl)
  have hcfg : v.cfg = s.cfg := (congrArg Kept.cfg hkept).trans (by rw [hs1]; rfl)
  have hvshoe : v.shoe = sh := congrArg Kept.shoe hkept
  refine ⟨t, hexec, ?_, ?_, ?_, ?_, ?_, ?_, ?_, ?_, ?_, ?_, ?_, ?_, ?_, fun hst hpend hth hstop => ?_⟩
  · exact (congrArg Kept.backbone hfinish).trans (congrArg Kept.backbone hkept)
  · exact (congrArg Kept.joinTimer hfinish).trans ((congrArg Kept.joinTimer hkept).trans (by rw [hs1]; rfl))
  · refine (congrArg (fun k => k.drive.evalTimer) hfinish).trans ?_
    change (if v.holds .drive then v.timer v.cfg.evalDrive else v.drive.evalTimer) = _
    simp only [hholds, State.timer, hnow, hcfg, hdrive, hs1]
  · refine (congrArg Kept.thrustEval hfinish).trans ?_
    change (if v.holds .thrust then v.timer v.cfg.evalThrust else v.thrust.evalTimer) = _
    simp only [hholds, State.timer, hnow, hcfg, hthrust, hs1]
  · refine (congrArg Kept.groutEval hfinish).trans ?_
    change (if v.holds .grout then v.timer v.cfg.evalGrout else v.grout.evalTimer) = _
    have heval : v.grout.evalTimer = s.grout.evalTimer := (congrArg Kept.groutEval hkept).trans (by rw [hs1]; rfl)
    simp only [hholds, State.timer, hnow, hcfg, heval]
  · refine (congrArg Kept.screwEval hfinish).trans ?_
    change (if v.holds .screw then v.timer v.cfg.evalScrew else v.muck.evalTimer) = _
    have heval : v.muck.evalTimer = s.muck.evalTimer := (congrArg Kept.screwEval hkept).trans (by rw [hs1]; rfl)
    simp only [hholds, State.timer, hnow, hcfg, heval]
  · exact (congrArg (fun k => k.drive.state) hfinish).trans (congrArg (fun k => k.drive.state) hkept |>.trans (by rw [hs1]))
  · exact (congrArg Kept.ring hfinish).trans ((congrArg Kept.ring hkept).trans (by rw [hs1]; rfl))
  · exact (congrArg Kept.faults hfinish).trans ((congrArg Kept.faults hkept).trans (by rw [hs1]; rfl))
  · exact (congrArg Kept.cfg hfinish).trans hcfg
  · exact (congrArg Kept.failures hfinish).trans ((congrArg Kept.failures hkept).trans (by rw [hs1]; rfl))
  · exact (congrArg Kept.stopped hfinish).trans ((congrArg Kept.stopped hkept).trans (by rw [hs1]; rfl))
  · exact (congrArg Kept.pending hfinish).trans ((congrArg Kept.pending hkept).trans (by rw [hs1]; rfl))
  · have hs1shoe : s1.shoe = s.shoe := by rw [hs1]
    have hwshoe : w.shoe = s.shoe := (shoe_of_kept hwkept).trans (hvshoe.trans ((hsh (by rw [hs1shoe]; exact hst)).trans hs1shoe))
    have hwcfg : w.cfg = s.cfg := (cfg_of_kept hwkept).trans hcfg
    have hwnow : w.now = s.now := (now_of_kept hwkept).trans hnow
    have hwstop : w.events.stopped = s.events.stopped := (stopped_of_kept hwkept).trans
      ((congrArg Kept.stopped hkept).trans (by rw [hs1]; rfl))
    have hwholds : w.holds .thrust = s.holds .thrust := (holds_of_kept hwkept .thrust).trans (hholds .thrust)
    refine (congrArg (fun k => k.shoe.extend) hfinish).trans ((htm (by rw [hwholds]; exact hth) (by rw [hwshoe]; exact hst)
      (by rw [hwshoe]; exact hpend) (by rw [hwstop]; exact hstop)).trans ?_)
    simp only [State.timer, hwnow, hwcfg]

end

section
/-! A number clash (O31). -/
namespace Sys2Proof.Machine
open Sys2Proof

variable {s t u v e : State} {c : Instr}

/-- The station out of service on a number clash, before its fault is raised (R17). -/
def State.silenced (s : State) : State :=
  refreshGates (stopShoeTimers (silenceMuck (silenceGrout false { s with
    port := { s.port with
      backbone := .silent, queue := [], rx := [], onLine := none, joinTimer := .stopped, pubTimer := PerKind.all .stopped }
    adv := { s.adv with rateTimer := .stopped }
    drive := { s.drive with evalTimer := .stopped }
    thrust := { s.thrust with evalTimer := .stopped } })))

theorem frame_silenced (s : State) :
    s.silenced.boot = s.boot ∧ s.silenced.cfg = s.cfg ∧ s.silenced.faults = s.faults ∧ s.silenced.events = s.events ∧
      s.silenced.drive = { s.drive with evalTimer := .stopped } ∧ s.silenced.thrust.evalTimer = .stopped ∧
      s.silenced.grout.evalTimer = .stopped ∧ s.silenced.muck.evalTimer = .stopped ∧
      s.silenced.adv = { s.adv with rateTimer := .stopped } ∧ s.silenced.port = { s.port with
        backbone := .silent, queue := [], rx := [], onLine := none, joinTimer := .stopped, pubTimer := PerKind.all .stopped } := by
  unfold State.silenced
  refine ⟨?_, ?_, ?_, ?_, ?_, ?_, ?_, ?_, ?_, ?_⟩
  case refine_7 => rw [groutEval_of_kept (kept_refreshGates _)]; simp [stopShoeTimers, silenceMuck, silenceGrout, clearPulse]
  case refine_8 => rw [screwEval_of_kept (kept_refreshGates _)]; simp [stopShoeTimers, silenceMuck, silenceGrout, clearPulse]
  all_goals simp [stopShoeTimers, silenceMuck, silenceGrout, clearPulse]

theorem jobsRun_silenced (s : State) : s.silenced.jobsRun = false := by
  obtain ⟨-, -, -, -, -, -, -, -, -, hport⟩ := frame_silenced s
  simp [State.jobsRun, hport]

theorem gate_silenced (s : State) (i : Fin 8) : (s.silenced.ch i).gate = false :=
  (gate_refreshGates i _).trans (gateDue_of_off (jobsRun_silenced s) i)

/-- A number clash: silenced, with the STATION fault recorded (R17, R159). -/
theorem enterSilent_of_empty (h : s.faults.station = none) (code : Nat) : enterSilent code s =
    faultAreaChanged { s.silenced with faults := { s.faults with
      station := some ⟨.numberClash, code, s.adv.ring, s.silenced.faultStep .station, 0⟩ } } := by
  obtain ⟨-, -, hfaults, -, -, -, -, -, hadv, -⟩ := frame_silenced s
  change raiseFault .station .numberClash code s.silenced = _
  rw [raiseFault_of_none (j := .station) (by rw [hfaults]; exact h)]
  have hjobs := jobsRun_silenced s
  have hgates := gate_silenced s
  generalize s.silenced = z at *
  change refreshGates (faultAreaChanged _) = _
  rw [refreshGates_of_off (by simpa [State.jobsRun] using hjobs) (by simpa [State.ch] using hgates), hfaults,
    show z.adv.ring = s.adv.ring by rw [hadv]]
  rfl

end Sys2Proof.Machine

open Sys2Proof Sys2Proof.Machine

/-- Settles O31: silenced off the backbone, where the end of the event marks contents and sets the alarm alone. -/
theorem numberClashSilences : Obligations.NumberClashSilences := by
  intro s f hb hg hs hempty
  have hkept := kept_acknowledging s
  have hevents := events_leaveIsolated { s with port := { s.port with ackDriven := true } }
  have hexec := exec_frameArrives_of_good hb hg
  generalize leaveIsolated { s with port := { s.port with ackDriven := true } } = v at *
  have hboot : v.boot = s.boot := (boot_of_kept hkept).trans rfl
  have hcfg : v.cfg = s.cfg := (cfg_of_kept hkept).trans rfl
  have hdrive : v.drive = s.drive := (drive_of_kept hkept).trans rfl
  have hring : v.adv.ring = s.adv.ring := (ring_of_kept hkept).trans rfl
  have hfaults : v.faults = s.faults := (faults_of_kept hkept).trans rfl
  have hack : v.port.ackDriven = true := (ackDriven_of_kept hkept).trans rfl
  rw [judgeFrame, if_pos (by rw [hboot]; exact hs), enterSilent_of_empty (by rw [hfaults]; exact hempty)] at hexec
  obtain ⟨hzboot, hzcfg, -, hzevents, hzdrive, hzthrust, hzgrout, hzmuck, hzadv, hzport⟩ := frame_silenced v
  have hzjobs := jobsRun_silenced v
  have hzgates := gate_silenced v
  generalize v.silenced = z at *
  obtain ⟨q, hq⟩ : ∃ q : State, q = faultAreaChanged { z with faults := { v.faults with
    station := some ⟨.numberClash, f.kindCode, v.adv.ring, z.faultStep .station, 0⟩ } } := ⟨_, rfl⟩
  rw [← hq, answer_eq] at hexec
  have hqport : q.port = z.port := by rw [hq]; simp
  have hqevents : q.events = z.events := by rw [hq]; simp
  have hqfaults : q.faults = { v.faults with
    station := some ⟨.numberClash, f.kindCode, v.adv.ring, z.faultStep .station, 0⟩ } := by rw [hq]; simp
  have hqgates (i : Fin 8) : (q.ch i).gate = false := by
    rw [hq]
    simpa [State.ch] using hzgates i
  obtain ⟨seen, sd, cd, hfinish⟩ := finish_of_off (s := q) (by
    simp [State.onBackbone, State.jobsRun, hqport, hzport]) hqgates
  have halarm : q.alarmDue = true := by
    rw [alarmDue_iff, hqfaults]
    exact .inr (.inr ⟨.station, rfl⟩)
  rw [hfinish] at hexec
  refine ⟨_, hexec, ?_⟩
  have hqkept : q.drive = z.drive ∧ q.thrust = z.thrust ∧ q.grout = z.grout ∧ q.muck = z.muck ∧ q.adv = z.adv ∧ q.cfg = z.cfg := by
    rw [hq]
    simp
  obtain ⟨hqdrive, hqthrust, hqgrout, hqmuck, hqadv, hqcfg⟩ := hqkept
  dsimp only
  rw [hqport, hqdrive, hqthrust, hqgrout, hqmuck, hqadv, hqcfg, hqevents, hqfaults, hzport, hzdrive, hzadv, hzcfg, hzevents]
  exact ⟨rfl, rfl, rfl, rfl, hack, hqgates, rfl, hzthrust, hzgrout, hzmuck, rfl, ⟨_, by rw [hfaults], rfl, rfl, hring, rfl⟩,
    halarm, by rw [hdrive], by rw [hdrive], hring, hcfg, by rw [hevents]⟩

end

section
/-! The memory port at the end of an event, and STOP taken (O39). -/
namespace Sys2Proof.Machine
open Sys2Proof

variable {s t u v e : State} {c : Instr} {w : State → OwnKind → Prop}

theorem mem_setARing (x : Nat) (s : State) : (setARing x s).mem = s.mem ∨
    ∃ u : State, u.boot = s.boot ∧ u.mem = s.mem ∧ (setARing x s).mem = (triggerSave u).mem := by
  unfold setARing
  dsimp only
  generalize hu : issueGrease _ = u
  have hk : u.kept = s.kept := by rw [← hu, kept_issueGrease, kept_takeExpectedMass, kept_takeVoid]; rfl
  have hm : u.mem = s.mem := by rw [← hu, mem_issueGrease, mem_takeExpectedMass, mem_takeVoid]
  unfold countMilestone
  dsimp only
  split
  · refine .inr ⟨_, ?_, ?_, rfl⟩
    · exact boot_of_kept hk
    · exact hm
  · exact .inl hm

/-- The end of an event moves the memory port by saves alone (R52). -/
theorem EndMove.mem (h : EndMove w s t) : t.mem = s.mem ∨
    ∃ u : State, u.boot = s.boot ∧ u.mem = s.mem ∧ t.mem = (triggerSave u).mem := by
  cases h with
  | aRing => exact mem_setARing _ s
  | marked | own | queued | machineA | alarm => exact .inl rfl
  | reference => exact .inl (mem_refreshReference s)
  | weight => exact .inl (by rw [refreshWeight, mem_takeWeight])
  | causes => exact .inl (by simp)
  | gate => exact .inl (by simp)

/-- What every save keeps of the memory port, the end of an event keeps. -/
theorem EndMoves.memKeeps (h : EndMoves w s t) {P : MemPort → Prop}
    (hp : ∀ u : State, u.boot = s.boot → P u.mem → P (triggerSave u).mem) (hs : P s.mem) : P t.mem := by
  refine (h.keeps (P := fun u => u.boot = s.boot ∧ P u.mem) (fun u v hm hu => ?_) ⟨rfl, hs⟩).2
  obtain ⟨hboot, hpu⟩ := hu
  refine ⟨(boot_of_kept hm.kept).trans hboot, ?_⟩
  rcases hm.mem with hmem | ⟨x, hxboot, hxmem, hmem⟩
  · rw [hmem]
    exact hpu
  · rw [hmem]
    exact hp x (hxboot.trans hboot) (hxmem ▸ hpu)

/-- A write in flight is a record's, or there is none. -/
def MemPort.recordOnly (m : MemPort) : Prop := ∀ x, m.inFlight = some x → ∃ bytes, x = .record bytes

theorem recordOnly_triggerSave (h : s.mem.recordOnly) : (triggerSave s).mem.recordOnly := by
  unfold triggerSave
  split
  · split
    · rintro x ⟨⟩
      exact ⟨_, rfl⟩
    · exact h
  · exact h

/-- A record's write is in flight. -/
def MemPort.saving (m : MemPort) : Prop := ∃ bytes, m.inFlight = some (.record bytes)

theorem saving_triggerSave_of_saving (h : s.mem.saving) : (triggerSave s).mem.saving := by
  obtain ⟨bytes, hb⟩ := h
  unfold triggerSave
  rw [hb]
  split <;> exact ⟨bytes, hb⟩

theorem saving_triggerSave (ha : s.boot.accepted = true) (hp : s.boot.phase = .done) (h : s.mem.recordOnly) :
    (triggerSave s).mem.saving := by
  rcases hf : s.mem.inFlight with _ | x
  · unfold triggerSave
    rw [if_pos ha, hf, if_pos (by simp [State.restored, hp])]
    exact ⟨_, rfl⟩
  · obtain ⟨bytes, rfl⟩ := h x hf
    exact saving_triggerSave_of_saving ⟨bytes, hf⟩

/-- A record write waits, and cannot start before a write in flight ends or the restore. -/
def MemPort.waits (m : MemPort) (phase : BootPhase) : Prop := (m.inFlight ≠ none ∨ phase ≠ .done) ∧ m.recordPending = true

theorem triggerSave_of_busy (ha : s.boot.accepted = true) (hb : s.mem.inFlight ≠ none ∨ s.boot.phase ≠ .done) :
    (triggerSave s).mem = { s.mem with recordPending := true } := by
  unfold triggerSave
  rw [if_pos ha, if_neg ?_]
  simp only [Bool.and_eq_true, Option.isNone_iff_eq_none, State.restored, beq_iff_eq]
  rintro ⟨hi, hd⟩
  exact hb.elim (fun h => h hi) fun h => h hd

theorem waits_triggerSave (ha : s.boot.accepted = true) (hb : s.mem.inFlight ≠ none ∨ s.boot.phase ≠ .done) :
    (triggerSave s).mem.waits s.boot.phase := by
  rw [triggerSave_of_busy ha hb]
  exact ⟨hb, rfl⟩

/-! ## A content taken -/

/-- The table that a content taken leaves, before what the change of the table does (R19 to R21). -/
def State.tableTaken (s : State) (n : Nat) (b : Bulletin) : PeerTable :=
  if n = 0 then { s.table with console := s.table.console.write (s.timer s.cfg.lapseTime) b }
  else s.table.putEntry n (s.entryTaken n b)

/-- A content taken is a change of the table, with a flag where it differs for the first time (R19, R21). -/
theorem takeContent_eq (n : Nat) (b : Bulletin) (s : State) : ∃ fl due,
    takeContent n b s = tableChanged { s with
      table := s.tableTaken n b, events := { s.events with flags := fl }, port := { s.port with statusDue := due } } ∧
      (foreignAfter s.boot.digest (s.table.entry n).foreign b = (s.table.entry n).foreign → fl = s.events.flags) := by
  unfold takeContent takeConsole takeStation State.tableTaken
  split
  · exact ⟨s.events.flags, s.port.statusDue, congrArg tableChanged rfl, fun _ => rfl⟩
  · by_cases h : (foreignAfter s.boot.digest (s.table.entry n).foreign b && !(s.table.entry n).foreign) = true
    · refine ⟨s.events.flags ||| EventFlag.configMismatch.mask,
        s.port.statusDue || (s.cfg.evPublish &&& EventFlag.configMismatch.mask != 0#16), congrArg tableChanged ?_, fun hf => ?_⟩
      · exact (if_pos h).trans rfl
      · rw [hf] at h
        simp at h
    · exact ⟨s.events.flags, s.port.statusDue, congrArg tableChanged ((if_neg h).trans rfl), fun _ => rfl⟩

theorem putEntry_eq (n : Nat) (e : StationEntry) (p : PeerTable) :
    p.putEntry n e = { p with stations := (p.putEntry n e).stations } := by
  unfold PeerTable.putEntry
  split <;> rfl

/-- What taking a content keeps: all but the table's entries. -/
theorem kept_takeContent (n : Nat) (b : Bulletin) (s : State) : ∃ console others,
    (takeContent n b s).kept = { s.kept with console := console, others := others } := by
  by_cases h : n = 0
  · subst h
    exact ⟨_, _, kept_takeConsole b s⟩
  · rw [kept_takeStation h]
    rw [putEntry_eq]
    exact ⟨_, _, rfl⟩

/-! ## The latch set -/

/-- The latch set from clear (R165): before the save. -/
def State.halted (s : State) : State :=
  decideScrew (decideLine (freezeShoe { s with events := { s.events with stopped := true } }))

theorem setStopped_of_clear (h : s.events.stopped = false) : setStopped s = refreshGates (triggerSave s.halted) := by
  unfold setStopped
  rw [if_neg (by simp [h])]
  rfl

theorem setStopped_of_set (h : s.events.stopped = true) : setStopped s = s := by
  unfold setStopped
  rw [if_pos h]

/-- What the latch set from clear keeps: the shoe frozen, the screw off (R103, R134, R165). -/
theorem kept_halted (s : State) : ∃ st cmd out l,
    s.halted.kept = { s.kept with
      stopped := true
      shoe := { s.shoe with
        holdOff := .stopped, retract := .stopped, extend := .stopped, waitTimer := s.shoe.waitTimer.pausedAt s.now }
      screw := st, nCmd := cmd, nOut := out, duties := l } ∧
    (s.holds .screw = true → st = if s.faults.screw.isSome then .fault else .off) := by
  unfold State.halted
  obtain ⟨q, hq⟩ : ∃ q : State, q = decideLine (freezeShoe { s with events := { s.events with stopped := true } }) := ⟨_, rfl⟩
  rw [← hq]
  have hqk : q.kept = ({ (freezeShoe s) with events := { s.events with stopped := true } } : State).kept := by
    rw [hq, kept_decideLine]
    rfl
  obtain ⟨st, cmd, out, l, hk⟩ := kept_decideScrew q
  refine ⟨st, cmd, out, l, hk.trans (by rw [hqk]; rfl), fun hs => ?_⟩
  have hst : (decideScrew q).muck.state = st := congrArg Kept.screw hk
  have hqs : q.holds .screw = true := (holds_of_kept hqk .screw).trans hs
  have hqf : q.faults = s.faults := (faults_of_kept hqk).trans rfl
  have hqe : q.events.stopped = true := (stopped_of_kept hqk).trans rfl
  rw [← hst, state_decideScrew, if_pos hqs, State.screwTable, hqf, hqe]
  rfl

theorem mem_halted (s : State) : s.halted.mem = s.mem := by
  unfold State.halted
  simp

end Sys2Proof.Machine

open Sys2Proof Sys2Proof.Machine

/-- Settles O39: the content taken, the latch set, its save, and the gates and the memory port through the end of the event. -/
theorem stopTakenSetsLatch : Obligations.StopTakenSetsLatch := by
  intro s n b rest hrx h15 hn
  obtain ⟨p, hp⟩ : ∃ p : State, p = takeContent n (.stop b) { s with port := { s.port with rx := rest } } := ⟨_, rfl⟩
  have hexec : exec .stopTaken s = .next (finish (setStopped p)) := by
    change execStopTaken s = _
    unfold execStopTaken
    rw [hrx, popFrame_of_rx hrx, hp]
    rfl
  obtain ⟨console, others, hpkept⟩ := kept_takeContent n (.stop b) { s with port := { s.port with rx := rest } }
  obtain ⟨fl, due, hpeq, -⟩ := takeContent_eq n (.stop b) { s with port := { s.port with rx := rest } }
  rw [← hp] at hpkept hpeq
  have hpmoves := endMoves_tableChanged (w := anyKind) (s := { ({ s with port := { s.port with rx := rest } } : State) with
    table := ({ s with port := { s.port with rx := rest } } : State).tableTaken n (.stop b)
    events := { s.events with flags := fl }
    port := { s.port with rx := rest, statusDue := due } }) .refl
  rw [← hpeq] at hpmoves
  clear hpeq hp
  have hpboot : p.boot = s.boot := congrArg Kept.boot hpkept
  have hpstop : p.events.stopped = s.events.stopped := congrArg Kept.stopped hpkept
  have hmoves := endMoves_finish (setStopped p)
  have hgates := gate_of_stopped (s := setStopped p) (by simp)
  rcases hst : s.events.stopped with _ | _
  · rw [setStopped_of_clear (hpstop.trans hst)] at hexec hmoves hgates
    obtain ⟨st, cmd, out, l, hk, hscrew⟩ := kept_halted p
    have hmem := mem_halted p
    generalize p.halted = h at *
    have hkept := hmoves.kept.trans ((kept_refreshGates _).trans ((kept_triggerSave h).trans hk))
    rw [hpkept] at hkept
    have hhboot : h.boot = s.boot := (congrArg Kept.boot hk).trans hpboot
    have hqboot : (refreshGates (triggerSave h)).boot = s.boot := by simpa using hhboot
    have hqmem : (refreshGates (triggerSave h)).mem = (triggerSave h).mem := by simp
    generalize refreshGates (triggerSave h) = q at *
    generalize finish q = t at *
    refine ⟨t, hexec, congrArg Kept.stopped hkept, congrArg Kept.rx hkept, hgates, congrArg Kept.cfg hkept,
      congrArg Kept.boot hkept, congrArg Kept.faults hkept, congrArg Kept.drive hkept, congrArg Kept.ring hkept,
      congrArg Kept.pSet hkept, congrArg Kept.delivered hkept, fun hs => by simp at hs, fun _ =>
      ⟨(congrArg Kept.shoe hkept).trans ?_, fun hs => ?_, fun ha hb => ?_, fun ha hf hd => ?_⟩⟩
    · have hshoe : p.shoe = s.shoe := congrArg Kept.shoe hpkept
      have hnow : p.now = s.now := congrArg Kept.now hpkept
      rw [hshoe, hnow]
    · have hpholds : p.holds .screw = s.holds .screw := by
        have hcfg : p.cfg = s.cfg := congrArg Kept.cfg hpkept
        simp only [State.holds, State.effectiveRoles, hcfg, hpboot]
      have hpfaults : p.faults = s.faults := congrArg Kept.faults hpkept
      exact (congrArg Kept.screw hkept).trans (by rw [hscrew (hpholds.trans hs), hpfaults])
    · have hwaits : t.mem.waits s.boot.phase := by
        refine hmoves.memKeeps (P := fun m => m.waits s.boot.phase) (fun u hu hw => ?_) ?_
        · rw [hqboot] at hu
          rw [← hu]
          exact waits_triggerSave (by rw [hu]; exact ha) (by rw [hu]; exact hw.1)
        · rw [hqmem, ← hhboot]
          refine waits_triggerSave (by rw [hhboot]; exact ha) ?_
          rw [hmem, hhboot]
          refine hpmoves.memKeeps (P := fun m => m.inFlight ≠ none ∨ s.boot.phase ≠ .done) (fun u hu hw => ?_) hb
          have hu : u.boot = s.boot := hu
          rw [triggerSave_of_busy (by rw [hu]; exact ha) (by rw [hu]; exact hw)]
          exact hw
      exact hwaits.2
    · refine hmoves.memKeeps (P := MemPort.saving) (fun u _ => saving_triggerSave_of_saving) ?_
      rw [hqmem]
      refine saving_triggerSave (by rw [hhboot]; exact ha) (by rw [hhboot]; exact hd) ?_
      rw [hmem]
      refine hpmoves.memKeeps (P := MemPort.recordOnly) (fun u _ => recordOnly_triggerSave) fun x hx => ?_
      exact absurd (hf.symm.trans hx) (by simp)
  · rw [setStopped_of_set (hpstop.trans hst)] at hexec hmoves hgates
    have hkept := hmoves.kept.trans hpkept
    generalize finish p = t at *
    exact ⟨t, hexec, (congrArg Kept.stopped hkept).trans hst, congrArg Kept.rx hkept, hgates, congrArg Kept.cfg hkept,
      congrArg Kept.boot hkept, congrArg Kept.faults hkept, congrArg Kept.drive hkept, congrArg Kept.ring hkept,
      congrArg Kept.pSet hkept, congrArg Kept.delivered hkept, fun _ => ⟨congrArg Kept.shoe hkept, congrArg Kept.screw hkept⟩,
      fun h => by simp at h⟩

end

section
/-! Roles yielded (O35, R171). -/
namespace Sys2Proof.Machine
open Sys2Proof

variable {s t u v e : State} {c : Instr}

/-! ## What a yield moves -/

theorem stopRoleInputs_eq (r : Role) (s : State) : ∃ ins chs, stopRoleInputs r s = { s with inputs := ins, channels := chs } := by
  have hin (l : List (Fin 12)) : ∀ v : State, (∃ ins chs, v = { s with inputs := ins, channels := chs }) → ∃ ins chs,
      l.foldl (fun s i => if (s.inCfg i).function.role = some r then putInput i { s.inRec i with holdTimer := .stopped } s
        else s) v = { s with inputs := ins, channels := chs } := by
    induction l with
    | nil => exact fun v h => h
    | cons i l ih =>
      rintro v ⟨ins, chs, rfl⟩
      refine ih _ ?_
      beta_reduce
      split
      · exact ⟨_, _, rfl⟩
      · exact ⟨_, _, rfl⟩
  have hch (l : List (Fin 8)) : ∀ v : State, (∃ ins chs, v = { s with inputs := ins, channels := chs }) → ∃ ins chs,
      l.foldl (fun s i => if (s.chCfg i).function.role = some r then putChannel i { s.ch i with timeoutTimer := .stopped } s
        else s) v = { s with inputs := ins, channels := chs } := by
    induction l with
    | nil => exact fun v h => h
    | cons i l ih =>
      rintro v ⟨ins, chs, rfl⟩
      refine ih _ ?_
      beta_reduce
      split
      · exact ⟨_, _, rfl⟩
      · exact ⟨_, _, rfl⟩
  exact hch _ _ (hin _ _ ⟨_, _, rfl⟩)

theorem kept_stopRoleInputs (r : Role) (s : State) : ∃ ins caps l,
    (stopRoleInputs r s).kept = { s.kept with inputs := ins, captures := caps, duties := l } := by
  obtain ⟨ins, chs, h⟩ := stopRoleInputs_eq r s
  rw [h]
  exact ⟨_, _, _, rfl⟩

/-- The end of a yield changes the inputs and watched channels of the role and the own entry. -/
theorem kept_yieldRole (r : Role) (s : State) : ∃ ins caps l others, (yieldRole r s).kept =
    { (yieldUnit r { s with boot := { s.boot with yielded := s.boot.yielded.add r } }).kept with
      inputs := ins, captures := caps, duties := l, others := others } := by
  unfold yieldRole
  dsimp only
  generalize yieldUnit r { s with boot := { s.boot with yielded := s.boot.yielded.add r } } = q
  obtain ⟨ins, caps, l, h⟩ := kept_stopRoleInputs r q
  rw [kept_tableChanged, kept_putOwnEntry, kept_refreshPubTimers, h]
  exact ⟨_, _, _, _, rfl⟩

theorem kept_yieldRole_thrust (s : State) : ∃ sh ins caps l others, (yieldRole .thrust s).kept =
    { s.kept with
      boot := { s.boot with yielded := s.boot.yielded.add .thrust }
      shoe := sh, inputs := ins, captures := caps, duties := l, others := others
      stroke := 0, strokeValid := false, base := 0, advance := 0, thrustEval := .stopped } := by
  obtain ⟨ins, caps, l, others, h⟩ := kept_yieldRole .thrust s
  exact ⟨_, ins, caps, l, others, h⟩

theorem kept_yieldRole_grout (s : State) : ∃ ins caps l others, (yieldRole .grout s).kept =
    { s.kept with
      boot := { s.boot with yielded := s.boot.yielded.add .grout }
      inputs := ins, captures := caps, duties := l, others := others, groutEval := .stopped } := by
  obtain ⟨ins, caps, l, others, h⟩ := kept_yieldRole .grout s
  refine ⟨ins, caps, l, others, h.trans ?_⟩
  rw [yieldUnit, silenceGrout, kept_clearPulse, kept_writeDuty]
  dsimp only
  obtain ⟨l', hl⟩ := Kept.withDuty_keeps ({ s with
    boot := { s.boot with yielded := s.boot.yielded.add .grout }
    grout := { s.grout with
        line := if s.grout.line == .fault then .fault else .off
        rate := 0
        holdRequest := if s.grout.line == .fault && !true then s.grout.holdRequest else false
        blockedPresent := false
        blockedTimer := .stopped
        evalTimer := .stopped } } : State).kept .groutPump 0
  rw [hl]
  rfl

theorem kept_yieldRole_screw (s : State) : ∃ ins caps l others, (yieldRole .screw s).kept =
    { s.kept with
      boot := { s.boot with yielded := s.boot.yielded.add .screw }
      inputs := ins, captures := caps, duties := l, others := others
      screw := if s.muck.state == .fault then .fault else .off
      nCmd := 0, nOut := 0, screwEval := .stopped } := by
  obtain ⟨ins, caps, l, others, h⟩ := kept_yieldRole .screw s
  refine ⟨ins, caps, l, others, h.trans ?_⟩
  rw [yieldUnit, silenceMuck, kept_writeDuty]
  obtain ⟨l', hl⟩ := Kept.withDuty_keeps ({ s with
    boot := { s.boot with yielded := s.boot.yielded.add .screw }
    muck := { s.muck with
        state := if s.muck.state == .fault then .fault else .off
        nCmd := 0
        nOut := 0
        stallPresent := false
        stallTimer := .stopped
        fbPresent := decide (0 < s.muck.nS)
        fbTimer := .stopped
        evalTimer := .stopped } } : State).kept .screwSpeedOut 0
  rw [hl]
  rfl

theorem grows_yieldRole (r : Role) (s : State) : Grows s (yieldRole r s) := by
  unfold yieldRole
  dsimp only
  have hunit : (yieldUnit r { s with boot := { s.boot with yielded := s.boot.yielded.add r } }).events = s.events := by
    cases r <;> simp [yieldUnit, stopShoeTimers, silenceGrout, clearPulse, silenceMuck]
  generalize yieldUnit r { s with boot := { s.boot with yielded := s.boot.yielded.add r } } = q at *
  obtain ⟨ins, chs, h⟩ := stopRoleInputs_eq r q
  have hx : (refreshPubTimers (stopRoleInputs r q)).events = s.events := by rw [events_refreshPubTimers, h, ← hunit]
  generalize refreshPubTimers (stopRoleInputs r q) = x at *
  generalize x.ownEntry.emptyRole r = y
  exact (Grows.of_eq (s := s) (t := putOwnEntry y x) hx).trans (grows_tableChanged _)

/-- SCREW yielded or kept (the first row of R171). -/
theorem kept_yieldScrew (b : IdBody) (s : State) : ∃ ins caps l others st cmd out ev, (yieldScrew b s).kept =
    { s.kept with
      boot := { s.boot with yielded := { s.boot.yielded with
        screw := s.boot.yielded.screw || (s.holds .screw && b.roles.screw) } }
      inputs := ins, captures := caps, duties := l, others := others, screw := st, nCmd := cmd, nOut := out, screwEval := ev } ∧
    ((s.holds .screw && b.roles.screw) = true → (st = .off ∨ st = .fault) ∧ out = 0 ∧
      ∃ x, yieldScrew b s = raiseEvent .roleYielded x) ∧ Grows s (yieldScrew b s) := by
  by_cases h : (s.holds .screw && b.roles.screw) = true
  · obtain ⟨ins, caps, l, others, hk⟩ := kept_yieldRole_screw s
    have heq : yieldScrew b s = raiseEvent .roleYielded (yieldRole .screw s) := by
      unfold yieldScrew
      rw [if_pos h]
    rw [heq, kept_raiseEvent, hk, h, Bool.or_true]
    refine ⟨ins, caps, l, others, _, _, _, _, rfl, fun _ => ⟨?_, rfl, _, rfl⟩, (grows_yieldRole .screw s).trans (grows_raiseEvent _ _)⟩
    split
    · exact .inr rfl
    · exact .inl rfl
  · rw [yieldScrew_of_not (by simpa using h), Bool.eq_false_iff.mpr h, Bool.or_false]
    exact ⟨_, _, _, _, _, _, _, _, rfl, fun h => absurd h (by simp), .of_eq rfl⟩

/-- THRUST and GROUT yielded or kept (the second row of R171). -/
theorem kept_yieldSector (b : IdBody) (s : State) : ∃ sh ins caps l others stroke valid base advance te ge,
    (yieldSector b s).kept =
      { s.kept with
        boot := { s.boot with yielded := { s.boot.yielded with
          thrust := s.boot.yielded.thrust || (s.holds .thrust && b.roles.thrust && s.cfg.sector == some b.sector)
          grout := s.boot.yielded.grout ||
            (s.holds .thrust && b.roles.thrust && s.cfg.sector == some b.sector && s.holds .grout) } }
        shoe := sh, inputs := ins, captures := caps, duties := l, others := others
        stroke := stroke, strokeValid := valid, base := base, advance := advance, thrustEval := te, groutEval := ge } ∧
    ((s.holds .thrust && b.roles.thrust && s.cfg.sector == some b.sector) = true →
      stroke = 0 ∧ valid = false ∧ base = 0 ∧ advance = 0 ∧ ∃ x, yieldSector b s = raiseEvent .sectorClash x) ∧
    Grows s (yieldSector b s) := by
  by_cases h : (s.holds .thrust && b.roles.thrust && s.cfg.sector == some b.sector) = true
  · have heq : yieldSector b s = raiseEvent .sectorClash
        (if s.holds .grout then yieldRole .grout (yieldRole .thrust s) else yieldRole .thrust s) := by
      unfold yieldSector
      rw [if_pos h]
    obtain ⟨sh, ins, caps, l, others, hk⟩ := kept_yieldRole_thrust s
    have hgrows := grows_yieldRole .thrust s
    rw [heq, kept_raiseEvent, h, Bool.or_true, Bool.true_and]
    generalize yieldRole .thrust s = y at *
    by_cases hg : s.holds .grout = true
    · obtain ⟨ins', caps', l', others', hk'⟩ := kept_yieldRole_grout y
      have hboot : y.boot = { s.boot with yielded := s.boot.yielded.add .thrust } := congrArg Kept.boot hk
      rw [if_pos hg, hk', hk, hg, Bool.or_true, hboot]
      exact ⟨sh, ins', caps', l', others', _, _, _, _, _, _, rfl, fun _ => ⟨rfl, rfl, rfl, rfl, _, rfl⟩,
        hgrows.trans ((grows_yieldRole .grout y).trans (grows_raiseEvent _ _))⟩
    · rw [if_neg hg, hk, Bool.eq_false_iff.mpr hg, Bool.or_false]
      exact ⟨sh, ins, caps, l, others, _, _, _, _, _, _, rfl, fun _ => ⟨rfl, rfl, rfl, rfl, _, rfl⟩,
        hgrows.trans (grows_raiseEvent _ _)⟩
  · rw [yieldSector_of_not (by simpa using h), Bool.eq_false_iff.mpr h, Bool.or_false, Bool.false_and, Bool.or_false]
    exact ⟨_, _, _, _, _, _, _, _, _, _, _, rfl, fun h => absurd h (by simp), .of_eq rfl⟩

/-- A flag raised stands while flags only grow. -/
theorem raised_of_grows {f : EventFlag} (h : Grows (raiseEvent f s) t) : t.events.flags &&& f.mask = f.mask :=
  h.mask (raised_mask f s)

/-- The gate of a channel of a yielded role is shut (R157). -/
theorem gateDue_of_yielded {i : Fin 8} {r : Role} (hr : (s.chCfg i).function.role = some r) (hy : s.boot.yielded.has r = true) :
    s.gateDue i = false := by
  have hholds : s.holds r = false := by
    unfold State.holds State.effectiveRoles RoleMask.less
    cases r <;> simp_all [RoleMask.has]
  unfold State.gateDue
  rw [hr]
  simp [hholds]

end Sys2Proof.Machine

open Sys2Proof Sys2Proof.Machine

/-- Settles O35: the two rows of the yield one after the other, and the gates after them. -/
theorem lowerStationTakesRoles : Obligations.LowerStationTakesRoles := by
  intro s n b rest hrx h1 hlt h15 hdigest
  obtain ⟨p, hp⟩ : ∃ p : State, p = takeContent n (.id b) { s with port := { s.port with rx := rest } } := ⟨_, rfl⟩
  obtain ⟨console, others, hpkept⟩ := kept_takeContent n (.id b) { s with port := { s.port with rx := rest } }
  have hstations := stations_takeStation (s := { s with port := { s.port with rx := rest } }) (n := n) (by omega) (.id b)
  rw [← hp] at hpkept hstations
  have hpboot : p.boot = s.boot := congrArg Kept.boot hpkept
  have hpcfg : p.cfg = s.cfg := congrArg Kept.cfg hpkept
  have hpholds (r : Role) : p.holds r = s.holds r := by simp only [State.holds, State.effectiveRoles, hpcfg, hpboot]
  have hforeign : (p.table.entry n).foreign = false := by
    rw [entry_congr hstations, putEntry_entry_self _ _ h1 (by omega)]
    change (b.digest != s.boot.digest) = false
    simp [hdigest]
  have hexec : exec .idTaken s = .next (finish (yieldSector b (yieldScrew b p))) := by
    change execIdTaken s = _
    unfold execIdTaken
    rw [hrx, popFrame_of_rx hrx]
    change answer (checkYield n b (takeContent n (.id b) { s with port := { s.port with rx := rest } })) = _
    rw [← hp, checkYield, if_pos ⟨by rw [hpboot]; exact hlt, hforeign⟩]
    rfl
  clear hp hstations
  obtain ⟨ins, caps, l, others1, st, cmd, out, ev, hyk, hyscrew, hygrows⟩ := kept_yieldScrew b p
  generalize yieldScrew b p = y at *
  obtain ⟨sh, ins', caps', l', others2, stroke, valid, base, advance, te, ge, hzk, hzsector, hzgrows⟩ := kept_yieldSector b y
  have hgates := fun i => gate_finish i (yieldSector b y)
  have hgrows := grows_finish (yieldSector b y)
  have hfinish := (kept_finish (yieldSector b y)).trans hzk
  have hyboot : y.boot = _ := congrArg Kept.boot hyk
  have hycfg : y.cfg = s.cfg := (congrArg Kept.cfg hyk).trans hpcfg
  have hyholds (r : Role) (hr : r ≠ .screw) : y.holds r = s.holds r := by
    unfold State.holds State.effectiveRoles RoleMask.less
    rw [hycfg, hyboot, hpboot]
    cases r with
    | screw => exact absurd rfl hr
    | thrust | grout | drive => rfl
  rw [hyholds .thrust (by decide), hyholds .grout (by decide), hycfg] at hfinish
  rw [hyholds .thrust (by decide), hycfg] at hzsector
  generalize yieldSector b y = z at *
  generalize finish z = t at *
  have htboot : t.boot = _ := congrArg Kept.boot hfinish
  rw [hyk, hpkept] at hfinish
  refine ⟨t, hexec, congrArg Kept.rx hfinish, congrArg Kept.cfg hfinish, congrArg Kept.drive hfinish,
    congrArg Kept.faults hfinish, congrArg Kept.stopped hfinish, congrArg Kept.ring hfinish, ?_, fun i r hr hy => ?_,
    fun h => ?_, fun h => ?_⟩
  · rw [htboot, hyboot, hpboot, hpholds]
  · have hcfg : t.cfg = s.cfg := congrArg Kept.cfg hfinish
    rw [hgates i]
    exact gateDue_of_yielded (by unfold State.chCfg; rw [hcfg]; exact hr) hy
  · obtain ⟨hst, hout, x, hx⟩ := hyscrew (by rw [hpholds]; exact h)
    refine ⟨raised_of_grows (s := x) (hx ▸ hzgrows.trans hgrows), ?_, (congrArg Kept.nOut hfinish).trans hout⟩
    rw [show t.muck.state = st from congrArg Kept.screw hfinish]
    exact hst
  · obtain ⟨hstroke, hvalid, hbase, hadvance, x, hx⟩ := hzsector h
    exact ⟨raised_of_grows (s := x) (hx ▸ hgrows), (congrArg Kept.stroke hfinish).trans hstroke,
      (congrArg Kept.base hfinish).trans hbase, (congrArg Kept.advance hfinish).trans hadvance,
      (congrArg Kept.strokeValid hfinish).trans hvalid⟩

end

section
/-! What the grout unit's operations leave of it, and what the end of an event leaves alone outside EXCAVATE, where A_ring does not
move (R41). -/
namespace Sys2Proof.Machine
open Sys2Proof

variable {s t u v e : State} {c : Instr} {w : State → OwnKind → Prop}

/-! ## What the grout unit's operations leave of it -/

@[simp] theorem grout_setLine (l : LineState) (s : State) :
    (setLine l s).grout.phi = s.grout.phi ∧ (setLine l s).grout.target = s.grout.target ∧
      (setLine l s).grout.delivered = s.grout.delivered ∧ (setLine l s).grout.carry = s.grout.carry ∧
      (setLine l s).grout.deficit = s.grout.deficit ∧ (setLine l s).grout.holdRequest = s.grout.holdRequest ∧
      (setLine l s).grout.void = s.grout.void ∧ (setLine l s).grout.weight = s.grout.weight ∧
      (setLine l s).grout.pressure = s.grout.pressure ∧ (setLine l s).grout.pressureValid = s.grout.pressureValid ∧
      (setLine l s).grout.capLo = s.grout.capLo ∧ (setLine l s).grout.capHi = s.grout.capHi ∧
      (setLine l s).grout.derate = s.grout.derate ∧ (setLine l s).grout.opPresent = s.grout.opPresent ∧
      (setLine l s).grout.opTimer = s.grout.opTimer ∧ (setLine l s).grout.pulse = s.grout.pulse ∧
      (setLine l s).grout.pulseTimer = s.grout.pulseTimer ∧ (setLine l s).grout.evalTimer = s.grout.evalTimer := by
  unfold setLine
  split
  · simp
  · split <;> simp [examineBlocked]

@[simp] theorem grout_decideLine (s : State) :
    (decideLine s).grout.phi = s.grout.phi ∧ (decideLine s).grout.target = s.grout.target ∧
      (decideLine s).grout.delivered = s.grout.delivered ∧ (decideLine s).grout.carry = s.grout.carry ∧
      (decideLine s).grout.deficit = s.grout.deficit ∧ (decideLine s).grout.holdRequest = s.grout.holdRequest ∧
      (decideLine s).grout.void = s.grout.void ∧ (decideLine s).grout.weight = s.grout.weight ∧
      (decideLine s).grout.pressure = s.grout.pressure ∧ (decideLine s).grout.pressureValid = s.grout.pressureValid ∧
      (decideLine s).grout.capLo = s.grout.capLo ∧ (decideLine s).grout.capHi = s.grout.capHi ∧
      (decideLine s).grout.derate = s.grout.derate ∧ (decideLine s).grout.opPresent = s.grout.opPresent ∧
      (decideLine s).grout.opTimer = s.grout.opTimer ∧ (decideLine s).grout.pulse = s.grout.pulse ∧
      (decideLine s).grout.pulseTimer = s.grout.pulseTimer ∧ (decideLine s).grout.evalTimer = s.grout.evalTimer := by
  unfold decideLine
  split <;> simp

@[simp] theorem grout_recomputeDeficit (s : State) :
    (recomputeDeficit s).grout.phi = s.grout.phi ∧ (recomputeDeficit s).grout.target = s.grout.target ∧
      (recomputeDeficit s).grout.delivered = s.grout.delivered ∧ (recomputeDeficit s).grout.carry = s.grout.carry ∧
      (recomputeDeficit s).grout.void = s.grout.void ∧ (recomputeDeficit s).grout.weight = s.grout.weight ∧
      (recomputeDeficit s).grout.pressure = s.grout.pressure ∧
      (recomputeDeficit s).grout.pressureValid = s.grout.pressureValid ∧
      (recomputeDeficit s).grout.capLo = s.grout.capLo ∧ (recomputeDeficit s).grout.capHi = s.grout.capHi ∧
      (recomputeDeficit s).grout.derate = s.grout.derate ∧ (recomputeDeficit s).grout.opPresent = s.grout.opPresent ∧
      (recomputeDeficit s).grout.opTimer = s.grout.opTimer ∧ (recomputeDeficit s).grout.pulse = s.grout.pulse ∧
      (recomputeDeficit s).grout.pulseTimer = s.grout.pulseTimer ∧
      (recomputeDeficit s).grout.evalTimer = s.grout.evalTimer := by
  unfold recomputeDeficit
  dsimp only
  split <;> simp [decideHoldRequest]

@[simp] theorem grout_recomputeTarget (s : State) :
    (recomputeTarget s).grout.phi = s.grout.phi ∧ (recomputeTarget s).grout.delivered = s.grout.delivered ∧
      (recomputeTarget s).grout.carry = s.grout.carry ∧ (recomputeTarget s).grout.void = s.grout.void ∧
      (recomputeTarget s).grout.weight = s.grout.weight ∧ (recomputeTarget s).grout.pressure = s.grout.pressure ∧
      (recomputeTarget s).grout.pressureValid = s.grout.pressureValid ∧
      (recomputeTarget s).grout.capLo = s.grout.capLo ∧ (recomputeTarget s).grout.capHi = s.grout.capHi ∧
      (recomputeTarget s).grout.derate = s.grout.derate ∧ (recomputeTarget s).grout.opPresent = s.grout.opPresent ∧
      (recomputeTarget s).grout.opTimer = s.grout.opTimer ∧ (recomputeTarget s).grout.pulse = s.grout.pulse ∧
      (recomputeTarget s).grout.pulseTimer = s.grout.pulseTimer ∧
      (recomputeTarget s).grout.evalTimer = s.grout.evalTimer := by
  unfold recomputeTarget
  split <;> simp

@[simp] theorem grout_takeVoid (v : Nat) (s : State) :
    (takeVoid v s).grout.phi = s.grout.phi ∧ (takeVoid v s).grout.delivered = s.grout.delivered ∧
      (takeVoid v s).grout.carry = s.grout.carry ∧ (takeVoid v s).grout.weight = s.grout.weight ∧
      (takeVoid v s).grout.pressure = s.grout.pressure ∧ (takeVoid v s).grout.pressureValid = s.grout.pressureValid ∧
      (takeVoid v s).grout.capLo = s.grout.capLo ∧ (takeVoid v s).grout.capHi = s.grout.capHi ∧
      (takeVoid v s).grout.derate = s.grout.derate ∧ (takeVoid v s).grout.opPresent = s.grout.opPresent ∧
      (takeVoid v s).grout.opTimer = s.grout.opTimer ∧ (takeVoid v s).grout.pulse = s.grout.pulse ∧
      (takeVoid v s).grout.pulseTimer = s.grout.pulseTimer ∧ (takeVoid v s).grout.evalTimer = s.grout.evalTimer := by
  unfold takeVoid
  split <;> simp

@[simp] theorem grout_takeWeight (w : Nat) (s : State) :
    (takeWeight w s).grout.phi = s.grout.phi ∧ (takeWeight w s).grout.delivered = s.grout.delivered ∧
      (takeWeight w s).grout.carry = s.grout.carry ∧ (takeWeight w s).grout.void = s.grout.void ∧
      (takeWeight w s).grout.pressure = s.grout.pressure ∧
      (takeWeight w s).grout.pressureValid = s.grout.pressureValid ∧ (takeWeight w s).grout.capLo = s.grout.capLo ∧
      (takeWeight w s).grout.capHi = s.grout.capHi ∧ (takeWeight w s).grout.derate = s.grout.derate ∧
      (takeWeight w s).grout.opPresent = s.grout.opPresent ∧ (takeWeight w s).grout.opTimer = s.grout.opTimer ∧
      (takeWeight w s).grout.pulse = s.grout.pulse ∧ (takeWeight w s).grout.pulseTimer = s.grout.pulseTimer ∧
      (takeWeight w s).grout.evalTimer = s.grout.evalTimer := by
  unfold takeWeight
  split <;> simp

@[simp] theorem grout_refreshWeight (s : State) :
    (refreshWeight s).grout.phi = s.grout.phi ∧ (refreshWeight s).grout.delivered = s.grout.delivered ∧
      (refreshWeight s).grout.carry = s.grout.carry ∧ (refreshWeight s).grout.void = s.grout.void ∧
      (refreshWeight s).grout.pressure = s.grout.pressure ∧
      (refreshWeight s).grout.pressureValid = s.grout.pressureValid ∧ (refreshWeight s).grout.capLo = s.grout.capLo ∧
      (refreshWeight s).grout.capHi = s.grout.capHi ∧ (refreshWeight s).grout.derate = s.grout.derate ∧
      (refreshWeight s).grout.opPresent = s.grout.opPresent ∧ (refreshWeight s).grout.opTimer = s.grout.opTimer ∧
      (refreshWeight s).grout.pulse = s.grout.pulse ∧ (refreshWeight s).grout.pulseTimer = s.grout.pulseTimer ∧
      (refreshWeight s).grout.evalTimer = s.grout.evalTimer := by
  simp [refreshWeight]

@[simp] theorem grout_examineDerate (s : State) :
    (examineDerate s).grout.phi = s.grout.phi ∧ (examineDerate s).grout.target = s.grout.target ∧
      (examineDerate s).grout.delivered = s.grout.delivered ∧ (examineDerate s).grout.carry = s.grout.carry ∧
      (examineDerate s).grout.deficit = s.grout.deficit ∧ (examineDerate s).grout.holdRequest = s.grout.holdRequest ∧
      (examineDerate s).grout.void = s.grout.void ∧ (examineDerate s).grout.weight = s.grout.weight ∧
      (examineDerate s).grout.pressure = s.grout.pressure ∧
      (examineDerate s).grout.pressureValid = s.grout.pressureValid ∧ (examineDerate s).grout.capLo = s.grout.capLo ∧
      (examineDerate s).grout.capHi = s.grout.capHi ∧ (examineDerate s).grout.opPresent = s.grout.opPresent ∧
      (examineDerate s).grout.opTimer = s.grout.opTimer ∧ (examineDerate s).grout.pulse = s.grout.pulse ∧
      (examineDerate s).grout.pulseTimer = s.grout.pulseTimer ∧
      (examineDerate s).grout.evalTimer = s.grout.evalTimer := by
  unfold examineDerate
  dsimp only
  split <;> simp

@[simp] theorem grout_recomputeBand (s : State) :
    (recomputeBand s).grout.phi = s.grout.phi ∧ (recomputeBand s).grout.target = s.grout.target ∧
      (recomputeBand s).grout.delivered = s.grout.delivered ∧ (recomputeBand s).grout.carry = s.grout.carry ∧
      (recomputeBand s).grout.deficit = s.grout.deficit ∧ (recomputeBand s).grout.holdRequest = s.grout.holdRequest ∧
      (recomputeBand s).grout.void = s.grout.void ∧ (recomputeBand s).grout.weight = s.grout.weight ∧
      (recomputeBand s).grout.pressure = s.grout.pressure ∧
      (recomputeBand s).grout.pressureValid = s.grout.pressureValid ∧ (recomputeBand s).grout.pulse = s.grout.pulse ∧
      (recomputeBand s).grout.pulseTimer = s.grout.pulseTimer ∧
      (recomputeBand s).grout.evalTimer = s.grout.evalTimer := by
  simp [recomputeBand, examineGroutPressure]

@[simp] theorem grout_setReference (st : RefState) (p : Nat) (x : Timer) (s : State) :
    (setReference st p x s).grout.phi = s.grout.phi ∧ (setReference st p x s).grout.target = s.grout.target ∧
      (setReference st p x s).grout.delivered = s.grout.delivered ∧
      (setReference st p x s).grout.carry = s.grout.carry ∧ (setReference st p x s).grout.deficit = s.grout.deficit ∧
      (setReference st p x s).grout.holdRequest = s.grout.holdRequest ∧
      (setReference st p x s).grout.void = s.grout.void ∧ (setReference st p x s).grout.weight = s.grout.weight ∧
      (setReference st p x s).grout.pressure = s.grout.pressure ∧
      (setReference st p x s).grout.pressureValid = s.grout.pressureValid ∧
      (setReference st p x s).grout.pulse = s.grout.pulse ∧
      (setReference st p x s).grout.pulseTimer = s.grout.pulseTimer ∧
      (setReference st p x s).grout.evalTimer = s.grout.evalTimer := by
  unfold setReference
  dsimp only
  split <;> simp

@[simp] theorem grout_refreshReference (s : State) :
    (refreshReference s).grout.phi = s.grout.phi ∧ (refreshReference s).grout.target = s.grout.target ∧
      (refreshReference s).grout.delivered = s.grout.delivered ∧ (refreshReference s).grout.carry = s.grout.carry ∧
      (refreshReference s).grout.deficit = s.grout.deficit ∧
      (refreshReference s).grout.holdRequest = s.grout.holdRequest ∧ (refreshReference s).grout.void = s.grout.void ∧
      (refreshReference s).grout.weight = s.grout.weight ∧ (refreshReference s).grout.pressure = s.grout.pressure ∧
      (refreshReference s).grout.pressureValid = s.grout.pressureValid ∧
      (refreshReference s).grout.pulse = s.grout.pulse ∧ (refreshReference s).grout.pulseTimer = s.grout.pulseTimer ∧
      (refreshReference s).grout.evalTimer = s.grout.evalTimer := by
  unfold refreshReference
  split
  · simp
  · split <;> simp

@[simp] theorem grout_setARing (x : Nat) (s : State) :
    (setARing x s).grout.phi = s.grout.phi ∧ (setARing x s).grout.delivered = s.grout.delivered ∧
      (setARing x s).grout.carry = s.grout.carry ∧ (setARing x s).grout.weight = s.grout.weight ∧
      (setARing x s).grout.pressure = s.grout.pressure ∧ (setARing x s).grout.pressureValid = s.grout.pressureValid ∧
      (setARing x s).grout.capLo = s.grout.capLo ∧ (setARing x s).grout.capHi = s.grout.capHi ∧
      (setARing x s).grout.derate = s.grout.derate ∧ (setARing x s).grout.opPresent = s.grout.opPresent ∧
      (setARing x s).grout.opTimer = s.grout.opTimer ∧ (setARing x s).grout.evalTimer = s.grout.evalTimer := by
  simp [setARing]

/-! ## A_ring at rest -/

/-- `t` is `s` but for what a change of the table moves while A_ring stands. -/
structure Quiet (s t : State) : Prop where
  kept     : t.kept = s.kept
  adv      : t.adv = { s.adv with machineA := t.adv.machineA }
  flags    : t.events.flags = s.events.flags
  mem      : t.mem = s.mem
  balance  : t.muck.balance = s.muck.balance
  overdig  : t.muck.overdig = s.muck.overdig
  underdig : t.muck.underdig = s.muck.underdig
  mExp     : t.muck.mExp = s.muck.mExp
  void     : t.grout.void = s.grout.void

theorem Quiet.refl (s : State) : Quiet s s := ⟨rfl, rfl, rfl, rfl, rfl, rfl, rfl, rfl, rfl⟩

theorem Quiet.trans (h : Quiet s t) (k : Quiet t u) : Quiet s u where
  kept := k.kept.trans h.kept
  adv := by rw [k.adv, h.adv]
  flags := k.flags.trans h.flags
  mem := k.mem.trans h.mem
  balance := k.balance.trans h.balance
  overdig := k.overdig.trans h.overdig
  underdig := k.underdig.trans h.underdig
  mExp := k.mExp.trans h.mExp
  void := k.void.trans h.void

/-- Outside EXCAVATE no part of the end of an event moves the accounts of the ring. -/
theorem EndMove.quiet (h : EndMove w s t) (hm : s.table.mode ≠ .excavate) : Quiet s t := by
  have hkept := h.kept
  cases h with
  | aRing hex _ => exact absurd hex hm
  | marked | own | queued | machineA | alarm => exact ⟨hkept, rfl, rfl, rfl, rfl, rfl, rfl, rfl, rfl⟩
  | reference => exact ⟨hkept, by simp, by simp, by simp, by simp, by simp, by simp, by simp, by simp⟩
  | weight => exact ⟨hkept, by simp, by simp, by simp, by simp, by simp, by simp, by simp, by simp⟩
  | causes => exact ⟨hkept, by simp, by simp, by simp, by simp, by simp, by simp, by simp, by simp⟩
  | gate i => exact ⟨hkept, by simp, by simp, by simp, by simp, by simp, by simp, by simp, by simp⟩

theorem EndMoves.quiet (h : EndMoves w s t) (hm : s.table.mode ≠ .excavate) : Quiet s t :=
  h.keeps (P := fun u => Quiet s u) (fun _ _ hmove hu => hu.trans (hmove.quiet (by rw [mode_of_kept hu.kept]; exact hm))) (.refl s)

theorem quiet_finish (hm : s.table.mode ≠ .excavate) : Quiet s (finish s) := (endMoves_finish s).quiet hm

theorem quiet_tableChanged (hm : s.table.mode ≠ .excavate) : Quiet s (tableChanged s) :=
  (endMoves_tableChanged (w := anyKind) .refl).quiet hm

end Sys2Proof.Machine
end

section
/-! What an own content of a kind leaves of the derived quantities of section 2.3, and CLEAR_EVENTS (O41). -/
namespace Sys2Proof.Machine
open Sys2Proof

variable {s t u v e : State} {c : Instr} {w : State → OwnKind → Prop}

/-! ## The own entry written -/

theorem entry_putOwnEntry (x : StationEntry) (s : State) (n : Nat) :
    (putOwnEntry x s).table.entry n = s.table.entry n ∨ n = s.boot.station ∧ (putOwnEntry x s).table.entry n = x := by
  rw [putOwnEntry_table]
  by_cases hn : s.boot.station = n
  · subst hn
    by_cases h1 : 1 ≤ s.boot.station
    · by_cases h15 : s.boot.station ≤ 15
      · exact .inr ⟨rfl, putEntry_entry_self _ _ h1 h15⟩
      · refine .inl ?_
        unfold PeerTable.putEntry
        rw [if_pos h1, Vector.setIfInBounds_eq_of_size_le (by omega)]
    · refine .inl ?_
      unfold PeerTable.putEntry
      rw [if_neg h1]
  · exact .inl (putEntry_entry_other _ _ hn)

section derived

variable {p q : PeerTable}

theorem map_numbered {β : Type} (F : Nat × StationEntry → β) (h : ∀ n, F (n, q.entry n) = F (n, p.entry n)) :
    q.numbered.map F = p.numbered.map F := by
  unfold PeerTable.numbered
  rw [List.map_map, List.map_map]
  exact List.map_congr_left fun n _ => h n

theorem filterMap_numbered {β : Type} (F : Nat × StationEntry → Option β) (h : ∀ n, F (n, q.entry n) = F (n, p.entry n)) :
    q.numbered.filterMap F = p.numbered.filterMap F := by
  unfold PeerTable.numbered
  rw [List.filterMap_map, List.filterMap_map]
  exact List.filterMap_congr fun n _ => h n

theorem any_numbered (F : Nat × StationEntry → Bool) (h : ∀ n, F (n, q.entry n) = F (n, p.entry n)) :
    q.numbered.any F = p.numbered.any F := by
  unfold PeerTable.numbered
  rw [List.any_map, List.any_map]
  exact congrArg (List.any stationNumbers) (funext fun n => h n)

end derived

/-- The state with an own content of the kind written. -/
def State.withOwn (s : State) (k : OwnKind) (u : State) : State :=
  putOwnEntry (s.ownEntry.write (s.timer s.cfg.lapseTime) (u.content k)) s

/-- What a content of the kind leaves of an entry stands when it is written into the own one. -/
theorem entry_withOwn {β : Type} {F : StationEntry → β} {k : OwnKind}
    (h : ∀ (e : StationEntry) (x : Timer) (u : State), F (e.write x (u.content k)) = F e) (n : Nat) :
    F ((s.withOwn k u).table.entry n) = F (s.table.entry n) := by
  unfold State.withOwn
  rcases entry_putOwnEntry (s.ownEntry.write (s.timer s.cfg.lapseTime) (u.content k)) s n with hn | ⟨hn, he⟩
  · rw [hn]
  · rw [he, h, hn]
    rfl

theorem counts_screw_withOwn {k : OwnKind} (hs : k ≠ .screw) (hi : k ≠ .id) (n : Nat) :
    ((s.withOwn k u).table.entry n).counts .screw ((s.withOwn k u).table.entry n).screw =
      (s.table.entry n).counts .screw (s.table.entry n).screw :=
  entry_withOwn (F := fun e => e.counts .screw e.screw) (fun e x u => by
    cases k with
    | screw => exact absurd rfl hs
    | id => exact absurd rfl hi
    | stop | claim | thrust | drive | grout | status => rfl) n

theorem counts_thrust_withOwn {k : OwnKind} (ht : k ≠ .thrust) (hi : k ≠ .id) (n : Nat) :
    ((s.withOwn k u).table.entry n).counts .thrust ((s.withOwn k u).table.entry n).thrust =
      (s.table.entry n).counts .thrust (s.table.entry n).thrust :=
  entry_withOwn (F := fun e => e.counts .thrust e.thrust) (fun e x u => by
    cases k with
    | thrust => exact absurd rfl ht
    | id => exact absurd rfl hi
    | stop | claim | screw | drive | grout | status => rfl) n

theorem counts_grout_withOwn {k : OwnKind} (hg : k ≠ .grout) (hi : k ≠ .id) (n : Nat) :
    ((s.withOwn k u).table.entry n).counts .grout ((s.withOwn k u).table.entry n).grout =
      (s.table.entry n).counts .grout (s.table.entry n).grout :=
  entry_withOwn (F := fun e => e.counts .grout e.grout) (fun e x u => by
    cases k with
    | grout => exact absurd rfl hg
    | id => exact absurd rfl hi
    | stop | claim | screw | drive | thrust | status => rfl) n

theorem counts_drive_withOwn {k : OwnKind} (hd : k ≠ .drive) (hi : k ≠ .id) (n : Nat) :
    ((s.withOwn k u).table.entry n).counts .drive ((s.withOwn k u).table.entry n).drive =
      (s.table.entry n).counts .drive (s.table.entry n).drive :=
  entry_withOwn (F := fun e => e.counts .drive e.drive) (fun e x u => by
    cases k with
    | drive => exact absurd rfl hd
    | id => exact absurd rfl hi
    | stop | claim | screw | grout | thrust | status => rfl) n

theorem lapsed_withOwn {k : OwnKind} (hi : k ≠ .id) (n : Nat) :
    ((s.withOwn k u).table.entry n).liveness = (s.table.entry n).liveness ∧
      ((s.withOwn k u).table.entry n).foreign = (s.table.entry n).foreign ∧
      ((s.withOwn k u).table.entry n).id = (s.table.entry n).id := by
  refine ⟨entry_withOwn (F := (·.liveness)) (fun e x u => ?_) n, entry_withOwn (F := (·.foreign)) (fun e x u => ?_) n,
    entry_withOwn (F := (·.id)) (fun e x u => ?_) n⟩
  · cases k <;> rfl
  · cases k <;> rfl
  · cases k with
    | id => exact absurd rfl hi
    | stop | claim | screw | grout | thrust | drive | status => rfl

theorem screwSource_withOwn {k : OwnKind} (hs : k ≠ .screw) (hi : k ≠ .id) : (s.withOwn k u).screwSource = s.screwSource :=
  congrArg List.head? (filterMap_numbered _ (counts_screw_withOwn hs hi))

theorem contributingThrust_withOwn {k : OwnKind} (ht : k ≠ .thrust) (hi : k ≠ .id) :
    (s.withOwn k u).contributingThrust = s.contributingThrust := by
  unfold State.contributingThrust
  rw [filterMap_numbered _ (counts_thrust_withOwn ht hi)]
  rfl

theorem liveWeight_withOwn {k : OwnKind} (hg : k ≠ .grout) (hi : k ≠ .id) : (s.withOwn k u).liveWeight = s.liveWeight := by
  unfold State.liveWeight
  refine congrArg List.sum (map_numbered _ fun n => ?_)
  unfold State.weightOf
  dsimp only
  rw [counts_grout_withOwn hg hi n]

theorem holdConditions_withOwn {k : OwnKind} (hk : k = .claim ∨ k = .thrust ∨ k = .status) :
    (s.withOwn k u).holdConditions = s.holdConditions := by
  have hkinds : k ≠ .grout ∧ k ≠ .screw ∧ k ≠ .drive ∧ k ≠ .id := by
    rcases hk with rfl | rfl | rfl <;> decide
  obtain ⟨hg, hs, hd, hi⟩ := hkinds
  unfold State.holdConditions
  congr 1
  · exact any_numbered _ fun n => by
      dsimp only
      rw [counts_grout_withOwn hg hi n]
  · exact any_numbered _ fun n => by
      dsimp only
      rw [counts_screw_withOwn hs hi n]
  · refine any_numbered _ fun n => ?_
    obtain ⟨hl, hf, hid⟩ := lapsed_withOwn (s := s) (u := u) hi n
    simp only [hl, hf, StationEntry.holdsRole, hid]
  · exact any_numbered _ fun n => by
      dsimp only
      rw [counts_drive_withOwn hd hi n]

/-! ## A table that every block has been handed (section 2.3) -/

/-- Every block has what the peer table gives it (R28, R33, R40, R41, R76). -/
structure Handed (s : State) : Prop where
  source  : ∀ b, s.screwSource = some b → s.table.refState = .fresh ∧ s.table.pRef = b.pCh ∧ s.table.staleTimer = .stopped
  sourceless : s.screwSource = none → s.table.refState ≠ .fresh
  advance : s.onBackbone = true → machineAdvanceOf s.contributingThrust s.adv.machineA = s.adv.machineA ∧
    ¬(s.table.mode = .excavate ∧ s.adv.aRing < s.adv.machineA)
  weight  : s.holds .grout = true → s.liveWeight = s.grout.weight
  causes  : s.holds .thrust = true → s.port.backbone ≠ .silent → s.holdConditions = s.thrust.causes

theorem table_setReference (st : RefState) (p : Nat) (x : Timer) (s : State) :
    (setReference st p x s).table = { s.table with refState := st, pRef := p, staleTimer := x } := by
  unfold setReference
  dsimp only
  split <;> simp

theorem setReference_of_same {st : RefState} {p : Nat} {x : Timer}
    (h : { s.table with refState := st, pRef := p, staleTimer := x } = s.table) : setReference st p x s = s := by
  unfold setReference
  rw [if_pos (show p = s.table.pRef by rw [← h])]
  rw [h]

/-- A_ring taken, with V, M_exp and the counts of its steps (R41, R43, R44, R51, R52). -/
theorem adv_setARing (x : Nat) (s : State) : (setARing x s).adv = { s.adv with
    aRing := x
    void := voidOf s.cfg x
    mExp := expectedMass s.cfg x
    grease := s.adv.grease + (x / s.cfg.greaseStep - s.adv.grease)
    milestones := if s.adv.milestones < x / s.cfg.recordStep then x / s.cfg.recordStep else s.adv.milestones } := by
  have hgrease (u : State) : (issueGrease u).adv =
      { u.adv with grease := u.adv.grease + (u.adv.aRing / u.cfg.greaseStep - u.adv.grease) } := by
    unfold issueGrease
    dsimp only
    split <;> simp
  have hmile (u : State) : (countMilestone u).adv = { u.adv with
      milestones := if u.adv.milestones < u.adv.aRing / u.cfg.recordStep then u.adv.aRing / u.cfg.recordStep else u.adv.milestones } := by
    unfold countMilestone
    dsimp only
    split <;> simp
  unfold setARing
  dsimp only
  rw [hmile, hgrease]
  simp

theorem refreshReference_of_handed
    (h : ∀ b, s.screwSource = some b → s.table.refState = .fresh ∧ s.table.pRef = b.pCh ∧ s.table.staleTimer = .stopped)
    (h' : s.screwSource = none → s.table.refState ≠ .fresh) : refreshReference s = s := by
  unfold refreshReference
  split
  · rename_i b hb
    obtain ⟨h1, h2, h3⟩ := h b hb
    refine setReference_of_same ?_
    rw [← h1, ← h2, ← h3]
  · rename_i hb
    rw [if_neg (h' hb)]

theorem recomputeAdvance_of_handed (h : s.onBackbone = true → machineAdvanceOf s.contributingThrust s.adv.machineA = s.adv.machineA ∧
    ¬(s.table.mode = .excavate ∧ s.adv.aRing < s.adv.machineA)) : recomputeAdvance s = s := by
  unfold recomputeAdvance
  split
  · rename_i hb
    obtain ⟨hmove, hring⟩ := h hb
    rw [hmove]
    unfold updateARing
    exact if_neg hring
  · rfl

theorem refreshWeight_of_handed (h : s.holds .grout = true → s.liveWeight = s.grout.weight) : refreshWeight s = s := by
  unfold refreshWeight takeWeight
  refine if_neg ?_
  simp only [Bool.and_eq_true, bne_iff_ne, not_and, not_not]
  exact h

theorem refreshCauses_of_handed
    (h : s.holds .thrust = true → s.port.backbone ≠ .silent → s.holdConditions = s.thrust.causes) : refreshCauses s = s := by
  unfold refreshCauses regimeEvent
  split
  · rfl
  · rename_i hne
    refine if_neg ?_
    simp only [Bool.and_eq_true, bne_iff_ne, not_and]
    exact fun ht hb => hne (h ht hb)

/-- With everything handed a change of the table leaves the gates to examine. -/
theorem Handed.tableChanged (h : Handed s) : tableChanged s = refreshGates s := by
  unfold Machine.tableChanged
  rw [refreshReference_of_handed h.source h.sourceless, recomputeAdvance_of_handed h.advance,
    refreshWeight_of_handed h.weight, refreshCauses_of_handed h.causes]

/-- A table whose change changes nothing has been handed. -/
theorem handed_of_tableChanged (h : tableChanged s = s) : Handed s := by
  have htable : (refreshReference s).table = s.table := by
    have := congrArg State.table h
    simpa [Machine.tableChanged] using this
  have hsource (b : ScrewBody) (hb : s.screwSource = some b) :
      s.table.refState = .fresh ∧ s.table.pRef = b.pCh ∧ s.table.staleTimer = .stopped := by
    unfold refreshReference at htable
    rw [hb] at htable
    have htable := (table_setReference _ _ _ _).symm.trans htable
    exact ⟨(congrArg PeerTable.refState htable).symm, (congrArg PeerTable.pRef htable).symm,
      (congrArg PeerTable.staleTimer htable).symm⟩
  have hsourceless (hb : s.screwSource = none) : s.table.refState ≠ .fresh := by
    intro hf
    unfold refreshReference at htable
    rw [hb] at htable
    dsimp only at htable
    rw [if_pos hf, table_setReference] at htable
    exact absurd (show RefState.stale = .fresh from (congrArg PeerTable.refState htable).trans hf) (by decide)
  unfold Machine.tableChanged at h
  rw [refreshReference_of_handed hsource hsourceless] at h
  have hadvance (hb : s.onBackbone = true) : machineAdvanceOf s.contributingThrust s.adv.machineA = s.adv.machineA ∧
      ¬(s.table.mode = .excavate ∧ s.adv.aRing < s.adv.machineA) := by
    have hadv : (recomputeAdvance s).adv = s.adv := by simpa using congrArg State.adv h
    unfold recomputeAdvance updateARing at hadv
    rw [if_pos hb] at hadv
    split at hadv
    · rename_i hup
      rw [adv_setARing] at hadv
      have hmove : machineAdvanceOf s.contributingThrust s.adv.machineA = s.adv.aRing := congrArg Advance.aRing hadv
      exact absurd hup.2 (by
        dsimp only
        omega)
    · rename_i hup
      have hmove : machineAdvanceOf s.contributingThrust s.adv.machineA = s.adv.machineA := congrArg Advance.machineA hadv
      dsimp only at hup
      rw [hmove] at hup
      exact ⟨hmove, hup⟩
  rw [recomputeAdvance_of_handed hadvance] at h
  have hweight (hg : s.holds .grout = true) : s.liveWeight = s.grout.weight := by
    have hw : (refreshWeight s).grout.weight = s.grout.weight := by simpa using congrArg (fun u => u.grout.weight) h
    unfold refreshWeight takeWeight at hw
    by_contra hne
    rw [if_pos (by simp [hg, hne])] at hw
    exact hne (by simpa using hw)
  rw [refreshWeight_of_handed hweight] at h
  refine ⟨hsource, hsourceless, hadvance, hweight, fun ht hb => ?_⟩
  have hthrust : (refreshCauses s).thrust = s.thrust := by simpa using congrArg State.thrust h
  unfold refreshCauses regimeEvent at hthrust
  by_contra hne
  rw [if_neg hne, if_pos (by simp [ht, hb])] at hthrust
  exact hne (congrArg Thrust.causes hthrust)

theorem handed_withOwn_status (h : Handed s) (u : State) : Handed (s.withOwn .status u) := by
  have htable : (s.withOwn .status u).table = { s.table with stations := (s.withOwn .status u).table.stations } := putEntry_eq _ _ _
  have href : (s.withOwn .status u).table.refState = s.table.refState := (congrArg PeerTable.refState htable).trans rfl
  have hp : (s.withOwn .status u).table.pRef = s.table.pRef := (congrArg PeerTable.pRef htable).trans rfl
  have htimer : (s.withOwn .status u).table.staleTimer = s.table.staleTimer := (congrArg PeerTable.staleTimer htable).trans rfl
  have hmode : (s.withOwn .status u).table.mode = s.table.mode := (congrArg PeerTable.mode htable).trans rfl
  have hsource := screwSource_withOwn (s := s) (u := u) (k := .status) (by decide) (by decide)
  refine ⟨fun b hb => ?_, fun hb => ?_, fun hb => ?_, fun hg => ?_, fun ht hb => ?_⟩
  · rw [href, hp, htimer]
    exact h.source b (hsource ▸ hb)
  · rw [href]
    exact h.sourceless (hsource ▸ hb)
  · rw [contributingThrust_withOwn (by decide) (by decide), hmode]
    exact h.advance hb
  · rw [liveWeight_withOwn (by decide) (by decide)]
    exact h.weight hg
  · rw [holdConditions_withOwn (.inr (.inr rfl))]
    exact h.causes ht hb

/-! ## A change of STATUS alone -/

/-- What a state publishes is read from these blocks (R6). -/
theorem content_congr (hboot : t.boot = s.boot) (hcfg : t.cfg = s.cfg) (hback : t.port.backbone = s.port.backbone)
    (hfail : t.port.failures = s.port.failures) (hrej : t.port.rejected = s.port.rejected) (hadv : t.adv = s.adv)
    (hdrive : t.drive = s.drive) (hthrust : t.thrust = s.thrust) (hshoe : t.shoe = s.shoe)
    (hgrout : t.groutBody = s.groutBody) (hscrew : t.screwBody = s.screwBody) (hline : t.grout.line = s.grout.line)
    (hstate : t.muck.state = s.muck.state) (hfaults : t.faults = s.faults) (hstop : t.events.stopped = s.events.stopped)
    (hflags : t.events.flags = s.events.flags) (k : OwnKind) : t.content k = s.content k := by
  have hsector : t.sectorCode = s.sectorCode := by unfold State.sectorCode; rw [hcfg]
  have hroles : t.effectiveRoles = s.effectiveRoles := by unfold State.effectiveRoles; rw [hcfg, hboot]
  have hholds (r : Role) : t.holds r = s.holds r := by unfold State.holds; rw [hroles]
  cases k with
  | stop => rfl
  | claim => simp only [State.content, State.claimBody, hsector, hshoe, hadv]
  | thrust => simp only [State.content, State.thrustBody, hadv, hthrust, hcfg]
  | drive => simp only [State.content, State.driveBody, hdrive]
  | screw => simp only [State.content, hscrew]
  | grout => simp only [State.content, hgrout]
  | status =>
    simp only [State.content, State.statusBody, hback, hfail, hrej, hadv, hdrive, hshoe, hline, hstate, hfaults, hstop, hflags,
      hholds]
  | id => simp only [State.content, State.idBody, hboot, hcfg, hroles, hholds, hsector]

theorem content_refreshGates (k : OwnKind) (s : State) : (refreshGates s).content k = s.content k := by
  have hk := kept_refreshGates s
  refine content_congr (boot_of_kept hk) (cfg_of_kept hk) (backbone_of_kept hk) (failures_of_kept hk) (rejected_of_kept hk)
    (by simp) (drive_of_kept hk) (by simp) (shoe_of_kept hk) ?_ ?_ (by simp) (screw_of_kept hk) (faults_of_kept hk)
    (stopped_of_kept hk) (by simp) k
  · simp [State.groutBody]
  · simp [State.screwBody, Muck.validCount, Muck.validValues]

theorem content_markSeen (j k : OwnKind) (s : State) : (markSeen j s).content k = s.content k := by cases k <;> rfl

theorem content_enqueueKind (j k : OwnKind) (b : Bulletin) (s : State) : (enqueueKind j b s).content k = s.content k := by
  cases k <;> rfl

theorem content_withOwn (j k : OwnKind) (s u : State) : (s.withOwn j u).content k = s.content k := by cases k <;> rfl

theorem handed_markSeen (k : OwnKind) (h : Handed s) : Handed (markSeen k s) :=
  ⟨h.source, h.sourceless, h.advance, h.weight, h.causes⟩

/-- A kind examined is not due (R11). -/
theorem changeDue_markSeen_self (k : OwnKind) (s : State) : (markSeen k s).changeDue k = false := by
  unfold State.changeDue
  rw [content_markSeen]
  simp only [markSeen, PerKind.get_put_self, bne_self_eq_false]
  cases k <;> rfl

theorem changeDue_markSeen_other {j k : OwnKind} (h : j ≠ k) (s : State) : (markSeen j s).changeDue k = s.changeDue k := by
  have hstatus : (k == .status && (markSeen j s).port.statusDue) = (k == .status && s.port.statusDue) := by
    cases k with
    | status => simp [markSeen, h]
    | stop | claim | thrust | drive | screw | grout | id => rfl
  have hclaim : (k == .claim && (markSeen j s).port.claimDue) = (k == .claim && s.port.claimDue) := by
    cases k with
    | claim => simp [markSeen, h]
    | stop | status | thrust | drive | screw | grout | id => rfl
  unfold State.changeDue
  rw [content_markSeen, hstatus, hclaim]
  simp only [markSeen, PerKind.get_put_other _ h]

/-- A content enqueued as it stands leaves what is due (R11). -/
theorem changeDue_enqueueKind {j : OwnKind} {s u : State} (hseen : s.port.seen.get j = some (changePart (s.content j)))
    (k : OwnKind) (hu : u.content j = s.content j) : (enqueueKind j (u.content j) s).changeDue k = s.changeDue k := by
  unfold State.changeDue
  rw [content_enqueueKind, hu]
  by_cases h : j = k
  · subst h
    simp only [enqueueKind, PerKind.get_put_self, hseen]
  · simp only [enqueueKind, PerKind.get_put_other _ h]

theorem publish_of_ne {k : OwnKind} (hk : k ≠ .stop) (s : State) : publish k s =
    if s.onBackbone then enqueueKind k (s.content k) (tableChanged (s.withOwn k s)) else s := by
  unfold publish
  rw [writeOwn_of_ne hk]
  rfl

theorem events_enqueueKind (k : OwnKind) (b : Bulletin) (s : State) : (enqueueKind k b s).events = s.events := rfl

/-- With everything handed a STATUS published as examined raises nothing and makes nothing due. -/
theorem publish_status_of_handed (h : Handed s)
    (hseen : s.port.seen.get .status = some (changePart (s.content .status))) :
    (publish .status s).events.flags = s.events.flags ∧ ∀ k, (publish .status s).changeDue k = s.changeDue k := by
  rw [publish_of_ne (by decide), (handed_withOwn_status h s).tableChanged]
  have hcontent (k : OwnKind) : (refreshGates (s.withOwn .status s)).content k = s.content k :=
    (content_refreshGates k _).trans (content_withOwn .status k s s)
  have hport : (refreshGates (s.withOwn .status s)).port = s.port := by
    rw [(frame_refreshGates _).1]
    rfl
  have hevents : (refreshGates (s.withOwn .status s)).events = s.events := by
    rw [(frame_refreshGates _).2.2.2.2.2.2.2.2.2.1]
    rfl
  generalize refreshGates (s.withOwn .status s) = x at *
  split
  · refine ⟨by rw [events_enqueueKind, hevents], fun k => ?_⟩
    rw [changeDue_enqueueKind (by rw [hport, hcontent, hseen]) k (hcontent .status).symm]
    unfold State.changeDue
    rw [hport, hcontent]
  · exact ⟨rfl, fun _ => rfl⟩

/-- With everything handed a STATUS that changes is published, and nothing follows from it. -/
theorem events_finish_of_handed (h : Handed s) (hr : ∀ k : OwnKind, k ≠ .stop → k ≠ .status → s.changeDue k = false) :
    (finish s).events.flags = s.events.flags := by
  obtain ⟨y, hy, hflags, hseen⟩ : ∃ y, publishIfChanged .status s = y ∧ y.events.flags = s.events.flags ∧
      ∀ k : OwnKind, k ≠ .stop → y.changeDue k = false := by
    refine ⟨_, rfl, ?_⟩
    by_cases hdue : s.changeDue .status = true
    · have hmarked : ∀ k : OwnKind, k ≠ .stop → (markSeen .status s).changeDue k = false := by
        intro k hk
        by_cases hks : k = .status
        · subst hks
          exact changeDue_markSeen_self _ _
        · rw [changeDue_markSeen_other (Ne.symm hks)]
          exact hr k hk hks
      unfold publishIfChanged
      rw [if_pos hdue]
      split
      · obtain ⟨hflags, hdue⟩ := publish_status_of_handed (handed_markSeen .status h) (by
          rw [content_markSeen]
          simp only [markSeen, PerKind.get_put_self])
        exact ⟨hflags, fun k hk => (hdue k).trans (hmarked k hk)⟩
      · exact ⟨rfl, hmarked⟩
    · rw [publishIfChanged_of_seen (by simpa using hdue)]
      refine ⟨rfl, fun k hk => ?_⟩
      by_cases hks : k = .status
      · subst hks
        simpa using hdue
      · exact hr k hk hks
  have hround : publishRound s = y := by
    unfold publishRound
    rw [publishIfChanged_of_seen (hr .claim (by decide) (by decide)), publishIfChanged_of_seen (hr .thrust (by decide) (by decide)),
      publishIfChanged_of_seen (hr .drive (by decide) (by decide)), publishIfChanged_of_seen (hr .screw (by decide) (by decide)),
      publishIfChanged_of_seen (hr .grout (by decide) (by decide)), hy, publishIfChanged_of_seen (hseen .id (by decide))]
  unfold finish settle
  rw [hround, publishRound_of_seen hseen, publishRound_of_seen hseen, publishRound_of_seen hseen]
  simpa using hflags

end Sys2Proof.Machine

open Sys2Proof Sys2Proof.Machine

/-- Settles O41: the flags cleared, and what the end of the event raises of them: nothing where A_ring stands. -/
theorem clearEventsClearsMask : Obligations.ClearEventsClearsMask := by
  intro s b rest hrx hact htarget
  have hexec : exec .clearEvents s = answer (clearFlags (BitVec.ofNat 16 b.arg) { s with port := { s.port with rx := rest } }) := by
    have hhead := serviceHead_of_rx hrx
    rw [hact] at hhead
    rw [exec_clearEvents hhead, takeService_of_targeted hrx htarget]
  refine ⟨gives_of_events hexec rfl rfl, fun hcase => ⟨_, hexec, ?_⟩⟩
  rcases hcase with hmode | ⟨hr, htable⟩
  · exact (quiet_finish (s := clearFlags (BitVec.ofNat 16 b.arg) { s with port := { s.port with rx := rest } }) hmode).flags
  · have h := handed_of_tableChanged htable
    refine events_finish_of_handed (s := clearFlags (BitVec.ofNat 16 b.arg) { s with port := { s.port with rx := rest } })
      ⟨h.source, h.sourceless, h.advance, h.weight, h.causes⟩ fun k hk hks => ?_
    have := hr.published k hk
    cases k with
    | stop => exact absurd rfl hk
    | status => exact absurd rfl hks
    | claim | thrust | drive | screw | grout | id => exact this

end

section
/-! The pump's part of a run: line state, rate, duty and the blocked watch through the end of an event (R118, R123). -/
namespace Sys2Proof.Machine
open Sys2Proof

variable {s t u v e : State} {c : Instr} {w : State → OwnKind → Prop}

/-- `t` is `s` in the line state, the rate, the blocked watch and the pending duties. -/
structure PumpLike (s t : State) : Prop where
  kept    : t.kept = s.kept
  line    : t.grout.line = s.grout.line
  rate    : t.grout.rate = s.grout.rate
  blocked : t.grout.blockedPresent = s.grout.blockedPresent
  timer   : t.grout.blockedTimer = s.grout.blockedTimer
  duties  : ∀ i, (t.ch i).pending = (s.ch i).pending

/-- A part of a run, as the pump sees it. -/
inductive PumpMove : State → State → Prop where
  | same {s t : State} (h : PumpLike s t) (hd : t.grout.deficit = s.grout.deficit) (hr : t.grout.derate = s.grout.derate) :
    PumpMove s t
  | decided {s v : State} (h : PumpLike s v) : PumpMove s (decideLine v)
  | blocked (s : State) : PumpMove s (examineBlocked s)

abbrev PumpMoves : State → State → Prop := Relation.ReflTransGen PumpMove

theorem PumpMove.of_eq (hk : t.kept = s.kept) (hg : t.grout = s.grout) (hc : ∀ i, (t.ch i).pending = (s.ch i).pending) :
    PumpMove s t :=
  .same ⟨hk, by rw [hg], by rw [hg], by rw [hg], by rw [hg], hc⟩ (by rw [hg]) (by rw [hg])

theorem PumpMoves.keeps {P : State → Prop} (h : PumpMoves s t) (step : ∀ u v, PumpMove u v → P u → P v) (hs : P s) : P t := by
  induction h with
  | refl => exact hs
  | tail _ hm ih => exact step _ _ hm ih

/-! ## The operations -/

theorem pump_recomputeDeficit (h : PumpMoves s u) : PumpMoves s (recomputeDeficit u) := by
  unfold recomputeDeficit
  dsimp only
  split
  · exact h
  · exact h.tail (.decided ⟨rfl, rfl, rfl, rfl, rfl, fun _ => rfl⟩)

theorem pump_recomputeTarget (h : PumpMoves s u) : PumpMoves s (recomputeTarget u) := by
  unfold recomputeTarget
  split
  · exact pump_recomputeDeficit (h.tail (.same ⟨rfl, rfl, rfl, rfl, rfl, fun _ => rfl⟩ rfl rfl))
  · exact h

theorem pump_takeVoid (x : Nat) (h : PumpMoves s u) : PumpMoves s (takeVoid x u) := by
  unfold takeVoid
  split
  · exact pump_recomputeTarget (h.tail (.same ⟨rfl, rfl, rfl, rfl, rfl, fun _ => rfl⟩ rfl rfl))
  · exact h

theorem pump_takeWeight (x : Nat) (h : PumpMoves s u) : PumpMoves s (takeWeight x u) := by
  unfold takeWeight
  split
  · exact pump_recomputeTarget (h.tail (.same ⟨rfl, rfl, rfl, rfl, rfl, fun _ => rfl⟩ rfl rfl))
  · exact h

theorem pump_examineDerate (h : PumpMoves s u) : PumpMoves s (examineDerate u) := by
  unfold examineDerate
  dsimp only
  split
  · exact h
  · exact h.tail (.decided ⟨rfl, rfl, rfl, rfl, rfl, fun _ => rfl⟩)

theorem pump_examineGroutPressure (h : PumpMoves s u) : PumpMoves s (examineGroutPressure u) :=
  h.tail (.same ⟨rfl, rfl, rfl, rfl, rfl, fun _ => rfl⟩ rfl rfl)

theorem pump_recomputeBand (h : PumpMoves s u) : PumpMoves s (recomputeBand u) :=
  pump_examineGroutPressure (pump_examineDerate (h.tail (.same ⟨rfl, rfl, rfl, rfl, rfl, fun _ => rfl⟩ rfl rfl)))

theorem pending_putChannel {i : Fin 8} {r : ChannelRec} (h : r.pending = (s.ch i).pending) (j : Fin 8) :
    ((putChannel i r s).ch j).pending = (s.ch j).pending := by
  rw [ch_putChannel]
  split
  · rename_i hij
    rw [h, hij]
  · rfl

theorem pending_setPulseFlag (on : Bool) (s : State) (j : Fin 8) : ((setPulseFlag on s).ch j).pending = (s.ch j).pending := by
  unfold setPulseFlag
  split
  · exact pending_putChannel (by rfl) j
  · rfl

theorem pending_greaseTrigger (s : State) (j : Fin 8) : ((greaseTrigger s).ch j).pending = (s.ch j).pending := by
  unfold greaseTrigger
  split
  · exact pending_setPulseFlag _ _ _
  · rfl
  · rfl

theorem pending_greaseTriggers (n : Nat) (s : State) (j : Fin 8) : ((greaseTriggers n s).ch j).pending = (s.ch j).pending := by
  induction n generalizing s with
  | zero => rfl
  | succ n ih => exact (ih _).trans (pending_greaseTrigger s j)

theorem pump_issueGrease (h : PumpMoves s u) : PumpMoves s (issueGrease u) := by
  refine h.tail (.same ⟨kept_issueGrease u, by simp, by simp, by simp, by simp, fun j => ?_⟩ (by simp) (by simp))
  unfold issueGrease
  dsimp only
  split
  · exact pending_greaseTriggers _ _ _
  · rfl

theorem pump_takeExpectedMass (m : Nat) (h : PumpMoves s u) : PumpMoves s (takeExpectedMass m u) :=
  h.tail (.of_eq (kept_takeExpectedMass m u) (by simp) fun j => by simp [State.ch])

theorem pump_countMilestone (h : PumpMoves s u) : PumpMoves s (countMilestone u) :=
  h.tail (.of_eq (kept_countMilestone u) (by simp) fun j => by simp [State.ch])

theorem pump_setARing (x : Nat) (h : PumpMoves s u) : PumpMoves s (setARing x u) :=
  pump_countMilestone (pump_issueGrease (pump_takeExpectedMass _ (pump_takeVoid _
    (h.tail (.same ⟨rfl, rfl, rfl, rfl, rfl, fun _ => rfl⟩ rfl rfl)))))

theorem pump_setReference (st : RefState) (p : Nat) (x : Timer) (h : PumpMoves s u) : PumpMoves s (setReference st p x u) := by
  have htable : PumpMoves s { u with table := { u.table with refState := st, pRef := p, staleTimer := x } } :=
    h.tail (.same ⟨rfl, rfl, rfl, rfl, rfl, fun _ => rfl⟩ rfl rfl)
  unfold setReference
  dsimp only
  split
  · exact htable
  · exact pump_recomputeBand htable

theorem pump_refreshReference (h : PumpMoves s u) : PumpMoves s (refreshReference u) := by
  unfold refreshReference
  split
  · exact pump_setReference _ _ _ h
  · split
    · exact pump_setReference _ _ _ h
    · exact h

theorem pending_opened (r : ChannelRec) (c : ChannelCfg) (now : Nat) : (r.opened c now).pending = r.pending := by
  unfold ChannelRec.opened
  split <;> rfl

theorem pump_gateChanged (f : ChFunction) (h : PumpMoves s u) : PumpMoves s (gateChanged f u) := by
  cases f with
  | groutPump => exact h.tail (.blocked u)
  | screwSpeedOut => exact h.tail (.of_eq (kept_examineScrew u) rfl fun _ => rfl)
  | unused | thrustExtend | thrustRetract | driveSpeedOut | driveSpeedIn | groutStroke | greasePulse | screwSpeedIn
  | scalePulse => exact h

theorem pump_refreshGate (i : Fin 8) (h : PumpMoves s u) : PumpMoves s (refreshGate i u) := by
  have hput {r : ChannelRec} (hr : r.pending = (u.ch i).pending) (hk : (putChannel i r u).kept = u.kept) :
      PumpMoves s (putChannel i r u) :=
    h.tail (.of_eq hk rfl (pending_putChannel hr))
  unfold refreshGate
  split
  · exact h
  · split
    · exact pump_gateChanged _ (hput (pending_opened _ _ _) (kept_opened i u _))
    · exact pump_gateChanged _ (hput rfl (kept_putChannel rfl rfl (.inl rfl)))

/-- The end of an event, as the pump sees it. -/
theorem EndMove.pump (h : EndMove w s t) : PumpMoves s t := by
  have hkept := h.kept
  cases h with
  | marked | own | queued | machineA | alarm =>
    exact .single (.same ⟨hkept, rfl, rfl, rfl, rfl, fun _ => rfl⟩ rfl rfl)
  | reference => exact pump_refreshReference .refl
  | aRing => exact pump_setARing _ .refl
  | weight => exact pump_takeWeight _ .refl
  | causes => exact .single (.of_eq hkept (by simp) fun i => by simp [State.ch])
  | gate i => exact pump_refreshGate i .refl

theorem EndMoves.pump (h : EndMoves w s t) : PumpMoves s t :=
  h.keeps (P := fun u => PumpMoves s u) (fun _ _ hm hu => hu.trans hm.pump) .refl

theorem pump_finish (s : State) : PumpMoves s (finish s) := (endMoves_finish s).pump

/-! ## What a run keeps of the pump -/

theorem decideLine_of_fault (h : s.grout.line = .fault) : decideLine s = s := by
  unfold decideLine
  rw [h]
  refine if_neg ?_
  simp

/-- A line in FAULT keeps its rate (R118). -/
theorem PumpMoves.fault (h : PumpMoves s t) (hl : s.grout.line = .fault) :
    t.grout.line = .fault ∧ t.grout.rate = s.grout.rate := by
  refine h.keeps (P := fun u => u.grout.line = .fault ∧ u.grout.rate = s.grout.rate) (fun u v hm hu => ?_) ⟨hl, rfl⟩
  obtain ⟨hline, hrate⟩ := hu
  cases hm with
  | same hk => exact ⟨hk.line.trans hline, hk.rate.trans hrate⟩
  | decided hk =>
    rw [decideLine_of_fault (hk.line.trans hline)]
    exact ⟨hk.line.trans hline, hk.rate.trans hrate⟩
  | blocked => exact ⟨hline, hrate⟩

/-- Outside INJECTING and LIMITED the pump rate and the pending pump duty are 0 (R118). -/
def PumpIdle (s : State) : Prop := s.grout.line ≠ .injecting → s.grout.line ≠ .limited →
  s.grout.rate = 0 ∧ ∀ i, s.channelOf .groutPump = some i → (s.ch i).pending = 0

theorem channelOf_of_cfg (h : t.cfg = s.cfg) (f : ChFunction) : t.channelOf f = s.channelOf f := by
  unfold State.channelOf State.chCfg
  rw [h]

theorem pending_writeDuty_self {f : ChFunction} {i : Fin 8} (h : s.channelOf f = some i) (d : Nat) :
    ((writeDuty f d s).ch i).pending = d := by
  unfold writeDuty
  rw [h, ch_putChannel, if_pos rfl]

theorem line_setLine (l : LineState) (s : State) : (setLine l s).grout.line = l := congrArg Ledger.line (ledger_setLine l s)

theorem pumpIdle_setLine {l : LineState} (hl : l ≠ .off ∧ l ≠ .fault) (h : PumpIdle s) : PumpIdle (setLine l s) := by
  intro h1 h2
  rw [line_setLine] at h1 h2
  have hstop : l = .idle ∨ l = .held := by
    obtain ⟨hoff, hfault⟩ := hl
    cases l <;> simp_all
  unfold setLine
  by_cases heq : l = s.grout.line
  · rw [if_pos heq]
    exact h (heq ▸ h1) (heq ▸ h2)
  · rw [if_neg heq, if_pos hstop]
    obtain ⟨u, hu⟩ : ∃ u : State, u = { s with grout := { s.grout with line := l, rate := 0 } } := ⟨_, rfl⟩
    have hrate : u.grout.rate = 0 := by rw [hu]
    rw [← hu]
    refine ⟨by simp [examineBlocked, hrate], fun i hi => ?_⟩
    change (writeDuty .groutPump 0 u).channelOf .groutPump = some i at hi
    rw [channelOf_of_cfg (s := u) (show (writeDuty .groutPump 0 u).cfg = u.cfg by simp)] at hi
    exact pending_writeDuty_self hi 0

theorem lineTable_ne (s : State) : s.lineTable ≠ .off ∧ s.lineTable ≠ .fault := by
  unfold State.lineTable
  split
  · decide
  · split
    · decide
    · split <;> decide

theorem pumpIdle_decideLine (h : PumpIdle s) : PumpIdle (decideLine s) := by
  unfold decideLine
  split
  · exact pumpIdle_setLine (lineTable_ne s) h
  · exact h

theorem PumpLike.idle (k : PumpLike s t) (h : PumpIdle s) : PumpIdle t := by
  intro h1 h2
  rw [k.line] at h1 h2
  obtain ⟨hrate, hduty⟩ := h h1 h2
  refine ⟨k.rate.trans hrate, fun i hi => (k.duties i).trans (hduty i ?_)⟩
  rwa [channelOf_of_cfg (cfg_of_kept k.kept)] at hi

theorem PumpMoves.idle (h : PumpMoves s t) (hs : PumpIdle s) : PumpIdle t :=
  h.keeps (P := PumpIdle) (fun u v hm hu => by
    cases hm with
    | same hk => exact hk.idle hu
    | decided hk => exact pumpIdle_decideLine (hk.idle hu)
    | blocked => exact hu) hs

/-- A blocked watch that stands runs to `x` (R123). -/
def BlockedUntil (x : Timer) (s : State) : Prop := s.grout.blockedPresent = true → s.grout.blockedTimer = x

theorem blockedUntil_examineBlocked (h : BlockedUntil (s.timer s.cfg.strokeTimeout) s) :
    BlockedUntil (s.timer s.cfg.strokeTimeout) (examineBlocked s) := by
  intro hp
  unfold examineBlocked conditionTimer at hp ⊢
  dsimp only at hp ⊢
  rw [if_pos hp]
  split
  · rename_i hb
    exact h hb
  · rfl

theorem blockedUntil_decideLine (h : BlockedUntil (s.timer s.cfg.strokeTimeout) s) :
    BlockedUntil (s.timer s.cfg.strokeTimeout) (decideLine s) := by
  unfold decideLine setLine
  split
  · split
    · exact h
    · split
      · obtain ⟨u, hu⟩ : ∃ u : State, u = { s with grout := { s.grout with line := s.lineTable, rate := 0 } } := ⟨_, rfl⟩
        have hduty : (writeDuty .groutPump 0 u).grout = u.grout ∧ (writeDuty .groutPump 0 u).now = u.now ∧
          (writeDuty .groutPump 0 u).cfg = u.cfg := by simp
        obtain ⟨hgrout, hnow, hcfg⟩ := hduty
        have htimer : (writeDuty .groutPump 0 u).timer (writeDuty .groutPump 0 u).cfg.strokeTimeout = s.timer s.cfg.strokeTimeout := by
          unfold State.timer
          rw [hnow, hcfg, hu]
        rw [← hu, ← htimer]
        refine blockedUntil_examineBlocked ?_
        rw [htimer]
        unfold BlockedUntil
        rw [hgrout, hu]
        exact h
      · exact blockedUntil_examineBlocked (s := { s with grout := { s.grout with line := s.lineTable } }) h
  · exact h

/-- A blocked watch restarted at this moment stays so (R123). -/
theorem PumpMoves.blocked (h : PumpMoves s t) (hs : BlockedUntil (s.timer s.cfg.strokeTimeout) s) :
    BlockedUntil (s.timer s.cfg.strokeTimeout) t := by
  refine (h.keeps (P := fun u => u.kept = s.kept ∧ BlockedUntil (s.timer s.cfg.strokeTimeout) u) (fun u v hm hu => ?_) ⟨rfl, hs⟩).2
  obtain ⟨hkept, hb⟩ := hu
  have htimer {x : State} (hx : x.kept = s.kept) : s.timer s.cfg.strokeTimeout = x.timer x.cfg.strokeTimeout := by
    rw [timer_of_kept hx, cfg_of_kept hx]
  cases hm with
  | same hk =>
    refine ⟨hk.kept.trans hkept, ?_⟩
    unfold BlockedUntil
    rw [hk.blocked, hk.timer]
    exact hb
  | @decided x hk =>
    have hx := hk.kept.trans hkept
    refine ⟨(kept_decideLine x).trans hx, ?_⟩
    rw [htimer hx]
    refine blockedUntil_decideLine ?_
    rw [← htimer hx]
    unfold BlockedUntil
    rw [hk.blocked, hk.timer]
    exact hb
  | blocked =>
    refine ⟨(kept_examineBlocked u).trans hkept, ?_⟩
    rw [htimer hkept]
    exact blockedUntil_examineBlocked (htimer hkept ▸ hb)

end Sys2Proof.Machine
end

section
/-! The grout evaluation (O54). -/
namespace Sys2Proof.Machine
open Sys2Proof

variable {s t u v e : State} {c : Instr} {w : State → OwnKind → Prop}

/-- The fill ratio of the moment and the band, of a line in FAULT (R117). -/
theorem fault_deriveFill (h : s.grout.line = .fault) :
    (recomputeBand (deriveFill s)).grout.line = .fault ∧ (recomputeBand (deriveFill s)).grout.rate = s.grout.rate := by
  unfold deriveFill
  split
  · exact (pump_recomputeBand .refl).fault h
  · exact (pump_recomputeBand (pump_recomputeTarget
      (s := { s with grout := { s.grout with phi := s.fillRatio } }) .refl)).fault h

/-- What the fill ratio and the band of an evaluation keep (R113, R119). -/
theorem kept_deriveFill (s : State) : (recomputeBand (deriveFill s)).kept = { s.kept with phi := s.fillRatio } := by
  rw [kept_recomputeBand]
  unfold deriveFill
  split
  · rename_i h
    rw [h]
    rfl
  · rw [kept_recomputeTarget]
    rfl

theorem kept_writeRate (s : State) : (writeRate s).kept = s.kept := by
  unfold writeRate
  rw [kept_examineBlocked, kept_writeDuty_groutPump]
  rfl

theorem kept_evaluateGrout (s : State) : (evaluateGrout s).kept = { s.kept with phi := s.fillRatio } := by
  unfold evaluateGrout
  dsimp only
  split
  · exact kept_deriveFill s
  · rw [kept_writeRate, evaluateLine, kept_setLine]
    exact kept_deriveFill s

theorem events_evaluateGrout (s : State) : (evaluateGrout s).events = s.events := by
  have hfill : (deriveFill s).events = s.events := by
    unfold deriveFill
    split <;> simp
  unfold evaluateGrout writeRate evaluateLine
  dsimp only
  split <;> simp [hfill]

/-- An evaluation decides the line of every job state but FAULT (R118). -/
theorem line_evaluateGrout (h : s.grout.line ≠ .fault) : (evaluateGrout s).grout.line = (evaluateGrout s).ledger.table := by
  have hledger (y : State) : (writeRate (evaluateLine y)).ledger = { y.ledger with line := y.lineTable } :=
    (ledger_writeRate _).trans (ledger_setLine _ y)
  unfold evaluateGrout
  rw [if_neg h]
  have := hledger (recomputeBand (deriveFill s))
  generalize writeRate (evaluateLine (recomputeBand (deriveFill s))) = x at *
  rw [this]
  exact congrArg Ledger.line this

theorem pumpIdle_writeRate (s : State) : PumpIdle (writeRate s) := by
  intro h1 h2
  have hline : (writeRate s).grout.line = s.grout.line := congrArg Ledger.line (ledger_writeRate s)
  rw [hline] at h1 h2
  have hdue : s.rateDue = 0 := by
    unfold State.rateDue
    split <;> simp_all
  obtain ⟨u, hu⟩ : ∃ u : State, u = { s with grout := { s.grout with rate := s.rateDue } } := ⟨_, rfl⟩
  have hrate : u.grout.rate = 0 := by rw [hu]; exact hdue
  unfold writeRate
  rw [← hu, hdue]
  refine ⟨by simp [examineBlocked, hrate], fun i hi => ?_⟩
  change (writeDuty .groutPump (dutyOf 0 s.cfg.rFull) u).channelOf .groutPump = some i at hi
  rw [channelOf_of_cfg (s := u) (show (writeDuty .groutPump (dutyOf 0 s.cfg.rFull) u).cfg = u.cfg by simp)] at hi
  refine (pending_writeDuty_self hi _).trans ?_
  have hzero : s.cfg.rFull / (2 * s.cfg.rFull) = 0 := by
    rcases Nat.eq_zero_or_pos s.cfg.rFull with h0 | h0
    · simp [h0]
    · exact Nat.div_eq_of_lt (by omega)
  simp [dutyOf, roundHalfUp, clampNat, hzero]

/-- A line in service stays in service through a run (R118). -/
theorem PumpMoves.inService (h : PumpMoves s t) (hs : s.grout.line ≠ .off ∧ s.grout.line ≠ .fault) :
    t.grout.line ≠ .off ∧ t.grout.line ≠ .fault :=
  h.keeps (P := fun u => u.grout.line ≠ .off ∧ u.grout.line ≠ .fault) (fun u v hm hu => by
    cases hm with
    | same hk =>
      rw [hk.line]
      exact hu
    | @decided x hk =>
      unfold decideLine
      split
      · rw [line_setLine]
        exact lineTable_ne x
      · rw [hk.line]
        exact hu
    | blocked => exact hu) hs

/-- A line in service that stands as its table says stays so through the end of the event (R118). -/
theorem line_finish (hr : s.holds .grout = true) (hs : s.grout.line ≠ .off ∧ s.grout.line ≠ .fault)
    (ht : s.grout.line = s.lineTable) : (finish s).grout.line = (finish s).lineTable := by
  have hplaced : (finish s).ledger.Placed ((finish s).grout.deficit + 1) :=
    (follows_finish s).placed _ (.inr (.inr (.inr (.inr ht))))
  obtain ⟨hoff, hfault⟩ := (pump_finish s).inService hs
  have hrole : (finish s).holds .grout = true := (holds_of_kept (kept_finish s) .grout).trans hr
  generalize finish s = t at *
  exact hplaced.decided (Int.ne_of_lt (Int.lt_succ _)) hrole hoff hfault

/-- An evaluation that finds fill ratio, band and line as they stand writes the rate (R120). -/
theorem evaluateGrout_of_steady (hphi : s.grout.phi = s.fillRatio) (hlo : s.grout.capLo = bandLow s.cfg s.table.pRef)
    (hhi : s.grout.capHi = bandHigh s.cfg s.table.pRef) (hd : s.grout.derate = decide (s.grout.capLo < s.grout.pressure))
    (hl : s.lineTable = s.grout.line) (hf : s.grout.line ≠ .fault) : evaluateGrout s = writeRate (examineGroutPressure s) := by
  have hfill : deriveFill s = s := by
    unfold deriveFill
    rw [if_pos hphi.symm]
  have hcaps : ({ s with grout := { s.grout with capLo := bandLow s.cfg s.table.pRef, capHi := bandHigh s.cfg s.table.pRef } } :
      State) = s := by
    rw [← hlo, ← hhi]
  have hderate : examineDerate s = s := by
    unfold examineDerate
    exact if_pos hd.symm
  have hline : setLine (examineGroutPressure s).lineTable (examineGroutPressure s) = examineGroutPressure s := by
    unfold setLine
    exact if_pos hl
  unfold evaluateGrout evaluateLine recomputeBand
  dsimp only
  rw [if_neg hf, hfill, hcaps, hderate, hline]

theorem writeDuty_eq (f : ChFunction) (d : Nat) (s : State) :
    ∃ chs, writeDuty f d s = { s with channels := chs } ∧ ∀ i, ∃ p, chs[i] = { s.ch i with pending := p } := by
  have hmoved := dutiesMoved_writeDuty f d s
  have heq : ∃ chs, writeDuty f d s = { s with channels := chs } := by
    unfold writeDuty
    split
    · exact ⟨_, rfl⟩
    · exact ⟨s.channels, rfl⟩
  obtain ⟨chs, h⟩ := heq
  rw [h] at hmoved
  exact ⟨chs, h, hmoved⟩

theorem carriesDuty_writeDuty (f g : ChFunction) (d : Nat) (s : State) : (writeDuty f d s).carriesDuty g = s.carriesDuty g := by
  obtain ⟨chs, h, hch⟩ := writeDuty_eq f d s
  rw [h]
  unfold State.carriesDuty State.channelOf State.chCfg
  dsimp only
  split
  · rename_i i _
    obtain ⟨p, hp⟩ := hch i
    unfold State.ch at hp ⊢
    dsimp only
    rw [hp]
  · rfl

/-- A rate written: the rate and the blocked watch, and the pending duty (R120, R123). -/
theorem writeRate_eq (s : State) : ∃ tm, writeRate s = { writeDuty .groutPump (dutyOf s.rateDue s.cfg.rFull) s with
    grout := { s.grout with
      rate := s.rateDue, blockedPresent := decide (0 < s.rateDue) && s.carriesDuty .groutPump, blockedTimer := tm } } := by
  unfold writeRate
  rw [← writeDuty_grout]
  have hcarries : ({ writeDuty .groutPump (dutyOf s.rateDue s.cfg.rFull) s with grout := { s.grout with rate := s.rateDue } } :
      State).carriesDuty .groutPump = s.carriesDuty .groutPump := carriesDuty_writeDuty _ _ _ s
  unfold examineBlocked
  dsimp only
  rw [hcarries]
  exact ⟨_, rfl⟩

end Sys2Proof.Machine

open Sys2Proof Sys2Proof.Machine

/-- Settles O54: the decision of step 3 through the end of the event, the rate of a line that goes on pumping, and what every
evaluation keeps. -/
theorem groutEvaluated : Obligations.GroutEvaluated := by
  have hexec (s : State) (hon : s.grout.evalTimer.on = true) : exec .groutEvaluation s = answer
      { evaluateGrout s with grout := { (evaluateGrout s).grout with evalTimer := s.timer s.cfg.evalGrout } } := by
    change execGroutEvaluation s = _
    unfold execGroutEvaluation
    rw [if_pos hon]
  refine ⟨fun s t hon hr ht => ?_, ?_, fun s hon => ?_⟩
  · rw [hexec s hon, answer_eq] at ht
    obtain rfl : finish _ = t := by injection ht
    have hkept := kept_evaluateGrout s
    have hholds : (evaluateGrout s).holds .grout = true := by
      have hcfg : (evaluateGrout s).cfg = s.cfg := congrArg Kept.cfg hkept
      have hboot : (evaluateGrout s).boot = s.boot := congrArg Kept.boot hkept
      simpa only [State.holds, State.effectiveRoles, hcfg, hboot] using hr
    obtain ⟨x, hx⟩ : ∃ x : State, x = { evaluateGrout s with grout := { (evaluateGrout s).grout with
      evalTimer := s.timer s.cfg.evalGrout } } := ⟨_, rfl⟩
    have hxcfg : x.cfg = s.cfg := by
      rw [hx]
      exact congrArg Kept.cfg hkept
    rw [← hx]
    refine ⟨fun hf => ?_, fun hf => ?_⟩
    · have hstep : evaluateGrout s = recomputeBand (deriveFill s) := by
        unfold evaluateGrout
        rw [if_pos hf]
      obtain ⟨hline, hrate⟩ := fault_deriveFill hf
      rw [← hstep] at hline hrate
      obtain ⟨hl, hr'⟩ := (pump_finish x).fault (by rw [hx]; exact hline)
      exact ⟨hl, hr'.trans (by rw [hx]; exact hrate)⟩
    · have hline := line_evaluateGrout hf
      have hservice : (evaluateGrout s).lineTable ≠ .off ∧ (evaluateGrout s).lineTable ≠ .fault := lineTable_ne _
      have hidle : PumpIdle (evaluateGrout s) := by
        unfold evaluateGrout
        rw [if_neg hf]
        exact pumpIdle_writeRate _
      rw [← lineTable_eq_table] at hline
      rw [← hline] at hservice
      have hfinish := line_finish (s := x) (by rw [hx]; exact hholds) (by rw [hx]; exact hservice) (by rw [hx]; exact hline)
      refine ⟨hfinish.trans (lineTable_eq _), fun h1 h2 => ?_⟩
      obtain ⟨hrate, hduty⟩ := (pump_finish x).idle (by rw [hx]; exact hidle) h1 h2
      refine ⟨hrate, fun i hi => hduty i ?_⟩
      rwa [channelOf_of_cfg ((cfg_of_kept (kept_finish x)).trans hxcfg)]
  · intro s hr hon hpump hl hphi hlo hhi hd strokes full rate
    have hrate : s.rateDue = rate := by
      unfold State.rateDue
      rcases hpump with h | h
      · rw [h]
        rfl
      · rw [h]
        rfl
    have hf : s.grout.line ≠ .fault := by rcases hpump with h | h <;> rw [h] <;> decide
    have hnext := hexec s hon
    obtain ⟨tm, heq⟩ := writeRate_eq (examineGroutPressure s)
    rw [evaluateGrout_of_steady hphi hlo hhi hd hl hf, heq, show (examineGroutPressure s).rateDue = rate from hrate] at hnext
    have hwatched : examineGroutPressure s = { s with grout := (examineGroutPressure s).grout } := rfl
    have hwritten : writeDuty .groutPump (dutyOf rate (examineGroutPressure s).cfg.rFull) (examineGroutPressure s) =
        { writeDuty .groutPump (dutyOf rate s.cfg.rFull) s with grout := (examineGroutPressure s).grout } :=
      (writeDuty_grout _ _ _ _).symm
    rw [hwritten] at hnext
    obtain ⟨x, hx⟩ : ∃ x : State, x = { writeDuty .groutPump (dutyOf rate s.cfg.rFull) s with grout := { s.grout with
      rate := rate, blockedPresent := decide (0 < rate) && s.carriesDuty .groutPump, blockedTimer := tm
      opPresent := (examineGroutPressure s).grout.opPresent, opTimer := (examineGroutPressure s).grout.opTimer
      evalTimer := s.timer s.cfg.evalGrout } } := ⟨_, rfl⟩
    have hnext : exec .groutEvaluation s = answer x := by
      rw [hnext, hx]
      rfl
    obtain ⟨chs, hduty, hch⟩ := writeDuty_eq .groutPump (dutyOf rate s.cfg.rFull) s
    have hxr : AtRest x := by
      rw [hduty] at hx
      rw [hx]
      refine hr.congr rfl rfl rfl (fun k hk => ?_) (fun i => ?_) hr.alarm
      · cases k <;> rfl
      · obtain ⟨p, hp⟩ := hch i
        refine (congrArg ChannelRec.gate hp).trans (hr.gates i)
    rw [hxr.answer] at hnext
    refine ⟨x, hnext, ?_⟩
    rw [hx]
  · refine gives_of_events (hexec s hon) ?_ (events_evaluateGrout s)
    have hkept := kept_evaluateGrout s
    generalize evaluateGrout s = y at *
    change ({ y.kept with groutEval := s.timer s.cfg.evalGrout } : Kept) = _
    rw [hkept]
    rfl

end

section
/-! Faults raised by the expiries (O50, R160). -/
namespace Sys2Proof.Machine
open Sys2Proof

variable {s t u v e : State} {c : Instr} {w : State → OwnKind → Prop} {j : Job} {cause : FaultCause} {value : Int}

/-! ## A job in FAULT through the end of the event -/

theorem inFault_finish (j : Job) (h : InFault s j) : InFault (finish s) j := by
  have hkept := kept_finish s
  cases j with
  | station => trivial
  | thrust =>
    obtain ⟨hset, hshoe⟩ := h
    exact ⟨(pSet_of_kept hkept).trans hset, (congrArg Shoe.state (shoe_of_kept hkept)).trans hshoe⟩
  | grout =>
    obtain ⟨hline, hrate⟩ := h
    obtain ⟨hl, hr⟩ := (pump_finish s).fault hline
    exact ⟨hl, hr.trans hrate⟩
  | drive =>
    obtain ⟨hstate, hset, hcmd⟩ := h
    have hdrive := drive_of_kept hkept
    exact ⟨(congrArg Drive.state hdrive).trans hstate, (congrArg Drive.nSet hdrive).trans hset,
      (congrArg Drive.cmd hdrive).trans hcmd⟩
  | screw =>
    obtain ⟨hstate, hcmd, hout⟩ := h
    exact ⟨(screw_of_kept hkept).trans hstate, (nCmd_of_kept hkept).trans hcmd, (nOut_of_kept hkept).trans hout⟩

theorem inFault_enterFault (j : Job) (s : State) : InFault (refreshGates (enterFault j s)) j := by
  cases j with
  | station => trivial
  | thrust => exact ⟨by simp [enterFault, faultShoe, faultThrust], by simp⟩
  | grout => exact ⟨by simp [enterFault, faultGrout], by simp [enterFault, faultGrout]⟩
  | drive => exact ⟨by simp, by simp, by simp⟩
  | screw => exact ⟨by simp [enterFault, faultScrew, examineScrew], by simp [enterFault, faultScrew, examineScrew],
      by simp [enterFault, faultScrew, examineScrew]⟩

/-- The gates of a job whose record is held are shut (R157). -/
theorem gateDue_of_held {i : Fin 8} {r : Role} (hr : (s.chCfg i).function.role = some r)
    (h : (s.faults.get r.job).isSome = true) : s.gateDue i = false := by
  unfold State.gateDue
  rw [hr]
  rcases hrecord : s.faults.get r.job with _ | x
  · simp [hrecord] at h
  · simp [hrecord]

/-! ## The CLAIM of a THRUST fault (R105) -/

/-- A CLAIM with CLEAR waits in the transmit queue. -/
def ClearClaimed (s : State) : Prop := ∃ e ∈ s.port.queue, ∃ b, e.body = .claim b ∧ b.shoe = .clear

theorem shoe_claimBody (s : State) : s.claimBody.shoe = s.shoe.state := by
  unfold State.claimBody
  split <;> rfl

theorem EndMoves.clearClaimed (h : EndMoves w s t) (hshoe : s.shoe.state = .clear) (hs : ClearClaimed s) : ClearClaimed t := by
  refine (h.keeps (P := fun u => u.kept = s.kept ∧ ClearClaimed u) (fun u v hm hu => ?_) ⟨rfl, hs⟩).2
  obtain ⟨hkept, x, hx, b, hb, hclear⟩ := hu
  refine ⟨hm.kept.trans hkept, ?_⟩
  rcases hm.queue with ⟨hqueue, -⟩ | ⟨k, y, hk, hy, rfl⟩
  · exact ⟨x, by rw [hqueue]; exact hx, b, hb, hclear⟩
  · by_cases hclaim : k = .claim
    · subst hclaim
      obtain ⟨z, hz, hbody⟩ := mem_enqueueBody_self (y.content .claim) u.port.onLineCode u.port.queue
      refine ⟨z, hz, y.claimBody, hbody, ?_⟩
      rw [shoe_claimBody, shoe_of_kept hy, shoe_of_kept hkept]
      exact hshoe
    · refine ⟨x, mem_enqueueBody_other hx ?_, b, hb, hclear⟩
      rw [hb, content_code]
      cases k with
      | claim => exact absurd rfl hclaim
      | stop | thrust | drive | screw | grout | status | id =>
        change (1 : Nat) ≠ _
        decide

theorem clearClaimed_finish (hb : s.onBackbone = true) (hon : (s.port.pubTimer.get .claim).on = true)
    (hdue : s.port.claimDue = true) (hshoe : s.shoe.state = .clear) : ClearClaimed (finish s) := by
  obtain ⟨y, hy⟩ : ∃ y : State, y = publishIfChanged .claim s := ⟨_, rfl⟩
  have hmoves : EndMoves forChange y (finish s) := by
    have hround : EndMoves forChange y (publishRound s) := by
      unfold publishRound
      iterate 6 refine endMoves_publishIfChanged (by decide) ?_
      rw [hy]
    unfold finish settle
    exact (endMoves_refreshGates (endMoves_publishRound (endMoves_publishRound (endMoves_publishRound hround)))).tail (.alarm _)
  have hclaimed : ClearClaimed y := by
    have hchange : s.changeDue .claim = true := by
      unfold State.changeDue
      rw [hdue]
      simp
    rw [hy]
    unfold publishIfChanged
    rw [if_pos hchange, if_pos hon]
    have hshoe : (markSeen .claim s).shoe.state = .clear := hshoe
    have hb : (markSeen .claim s).onBackbone = true := hb
    generalize markSeen .claim s = m at *
    rw [publish_of_ne (by decide), if_pos hb]
    generalize tableChanged (m.withOwn .claim m) = x
    obtain ⟨z, hz, hbody⟩ := mem_enqueueBody_self (m.content .claim) x.port.onLineCode x.port.queue
    exact ⟨z, hz, m.claimBody, hbody, (shoe_claimBody m).trans hshoe⟩
  refine hmoves.clearClaimed ?_ hclaimed
  have hkept : y.kept = s.kept := by rw [hy]; exact kept_publishIfChanged (by decide) s
  rw [shoe_of_kept hkept]
  exact hshoe

/-! ## A fault raised by a command -/

/-- `u` is `s` in what raising a fault of `j` reads and keeps. -/
structure FaultLike (j : Job) (s u : State) : Prop where
  faults  : u.faults = s.faults
  cfg     : u.cfg = s.cfg
  boot    : u.boot = s.boot
  ring    : u.adv.ring = s.adv.ring
  stopped : u.events.stopped = s.events.stopped
  step    : u.faultStep j = s.faultStep j
  back    : u.port.backbone = s.port.backbone
  timers  : u.port.pubTimer = s.port.pubTimer
  stays   : InFault s j → InFault u j

theorem claimDue_enterFault_thrust (s : State) : (refreshGates (enterFault .thrust s)).port.claimDue = true := by
  simp [enterFault, faultShoe]

theorem faults_of_raises (hu : FaultLike j s u) (h : exec c s = answer (raiseFault j cause value u))
    (hempty : s.faults.get j = none) : Faults c s j cause value := by
  have hnone : u.faults.get j = none := by rw [hu.faults, hempty]
  have hfaults := faults_raiseFault_of_empty hnone cause value
  obtain ⟨hcfg, -, -, -, -, hadv, -, -, hevents, hback, -, -, -, -, -, htimers, -⟩ := frame_raiseFault j cause value u
  have hboot := boot_raiseFault j cause value u
  have hin : InFault (raiseFault j cause value u) j := by
    rw [raiseFault_of_none hnone]
    exact inFault_enterFault _ _
  have hdue : j = .thrust → (raiseFault j cause value u).port.claimDue = true := by
    rintro rfl
    rw [raiseFault_of_none hnone]
    exact claimDue_enterFault_thrust _
  generalize raiseFault j cause value u = x at *
  have hkept := kept_finish x
  have htfaults : (finish x).faults = s.faults.put j (some ⟨cause, value, s.adv.ring, s.faultStep j, 0⟩) := by
    rw [faults_of_kept hkept, hfaults, hu.faults, hu.ring, hu.step]
  have htcfg : (finish x).cfg = s.cfg := by rw [cfg_of_kept hkept, hcfg, hu.cfg]
  refine ⟨finish x, h, htfaults, inFault_finish j hin, fun i r hr hj => ?_, fun hj hb hon => ?_, htcfg, ?_, ?_, ?_⟩
  · rw [gate_finish]
    refine gateDue_of_held (r := r) (by unfold State.chCfg; rw [htcfg]; exact hr) ?_
    rw [htfaults, hj, FaultRecords.get_put_self]
    rfl
  · subst hj
    refine clearClaimed_finish ?_ ?_ (hdue rfl) hin.2
    · simp only [State.onBackbone, State.jobsRun, hback, hu.back] at hb ⊢
      exact hb
    · rw [htimers, hu.timers]
      exact hon
  · rw [boot_of_kept hkept, hboot, hu.boot]
  · rw [ring_of_kept hkept, hadv, hu.ring]
  · rw [stopped_of_kept hkept, hevents, hu.stopped]

theorem inFault_of_jobs (hs : t.shoe = s.shoe) (ht : t.thrust = s.thrust) (hg : t.grout = s.grout) (hd : t.drive = s.drive)
    (hm : t.muck = s.muck) (h : InFault s j) : InFault t j := by
  cases j with
  | station => trivial
  | thrust | grout | drive | screw =>
    simp only [InFault, hs, ht, hg, hd, hm] at h ⊢
    exact h

theorem put_get_faults (f : FaultRecords) (j : Job) : f.put j (f.get j) = f := by cases j <;> rfl

theorem raises_of (hu : FaultLike j s u) (h : exec c s = answer (raiseFault j cause value u)) : Raises c s j cause value := by
  refine ⟨faults_of_raises hu h, fun r hr hlater => ?_⟩
  have hsome : u.faults.get j = some r := by rw [hu.faults, hr]
  obtain ⟨hcfg, -, -, -, -, hadv, -, -, hevents, -⟩ := frame_raiseFault j cause value u
  have hboot := boot_raiseFault j cause value u
  have hfaults : (raiseFault j cause value u).faults = s.faults.put j (some { r with later := min 255 (r.later + 1) }) := by
    rw [raiseFault_of_some hsome]
    split
    · rename_i hlt
      rw [Nat.min_eq_right (by omega)]
      simp [hu.faults]
    · rename_i hge
      have hfull : min 255 (r.later + 1) = r.later := by omega
      rw [hfull, ← hr, put_get_faults, hu.faults]
  have hin : InFault s j → InFault (raiseFault j cause value u) j := by
    intro hs
    rw [raiseFault_of_some hsome]
    split
    · exact inFault_of_jobs (by simp) (by simp) (by simp) (by simp) (by simp) (hu.stays hs)
    · exact hu.stays hs
  generalize raiseFault j cause value u = x at *
  have hkept := kept_finish x
  refine ⟨finish x, h, ?_, fun hs => inFault_finish j (hin hs), ?_, ?_, ?_, ?_⟩
  · rw [faults_of_kept hkept, hfaults]
  · rw [cfg_of_kept hkept, hcfg, hu.cfg]
  · rw [boot_of_kept hkept, hboot, hu.boot]
  · rw [ring_of_kept hkept, hadv, hu.ring]
  · rw [stopped_of_kept hkept, hevents, hu.stopped]

end Sys2Proof.Machine

open Sys2Proof Sys2Proof.Machine

/-- Settles O50: each expiry stops its timer and raises the fault of its job. -/
theorem expiriesRaiseFaults : Obligations.ExpiriesRaiseFaults := by
  intro s
  refine ⟨fun hon => ?_, fun hon => ?_, fun hon => ?_, fun hon => ?_, fun hon => ?_, fun hon => ?_, fun hon => ?_, fun hon => ?_,
    fun i hon => ?_⟩
  · refine raises_of (u := { s with drive := { s.drive with stallTimer := .stopped } })
      ⟨rfl, rfl, rfl, rfl, rfl, rfl, rfl, rfl, id⟩ ?_
    change execDriveStallTimerExpiry s = _
    exact if_pos hon
  · refine raises_of (u := { s with thrust := { s.thrust with opTimer := .stopped } })
      ⟨rfl, rfl, rfl, rfl, rfl, rfl, rfl, rfl, id⟩ ?_
    change execThrustOverpressureExpiry s = _
    exact if_pos hon
  · refine raises_of (u := { s with shoe := { s.shoe with retract := .stopped } })
      ⟨rfl, rfl, rfl, rfl, rfl, rfl, rfl, rfl, id⟩ ?_
    change execRetractTimerExpiry s = _
    exact if_pos hon
  · refine raises_of (u := { s with shoe := { s.shoe with extend := .stopped } })
      ⟨rfl, rfl, rfl, rfl, rfl, rfl, rfl, rfl, id⟩ ?_
    change execExtendTimerExpiry s = _
    exact if_pos hon
  · refine raises_of (u := { s with grout := { s.grout with blockedTimer := .stopped } })
      ⟨rfl, rfl, rfl, rfl, rfl, rfl, rfl, rfl, id⟩ ?_
    change execBlockedTimerExpiry s = _
    exact if_pos hon
  · refine raises_of (u := { s with grout := { s.grout with opTimer := .stopped } })
      ⟨rfl, rfl, rfl, rfl, rfl, rfl, rfl, rfl, id⟩ ?_
    change execGroutOverpressureExpiry s = _
    exact if_pos hon
  · refine raises_of (u := { s with muck := { s.muck with stallTimer := .stopped } })
      ⟨rfl, rfl, rfl, rfl, rfl, rfl, rfl, rfl, id⟩ ?_
    change execScrewStallTimerExpiry s = _
    exact if_pos hon
  · refine raises_of (u := { s with muck := { s.muck with fbTimer := .stopped } })
      ⟨rfl, rfl, rfl, rfl, rfl, rfl, rfl, rfl, id⟩ ?_
    change execFeedbackTimerExpiry s = _
    exact if_pos hon
  · have hexec : exec (.inputHoldExpiry i) s = answer (reportLost (s.inCfg i).function (s.inRec i).value
        (putInput i { s.inRec i with holdTimer := .stopped } s)) := by
      change execInputHoldExpiry i s = _
      exact if_pos hon
    have hlike (j : Job) : FaultLike j s (putInput i { s.inRec i with holdTimer := .stopped } s) :=
      ⟨rfl, rfl, rfl, rfl, rfl, by cases j <;> rfl, rfl, rfl, by cases j <;> exact id⟩
    refine ⟨fun hf => raises_of (hlike _) ?_, fun hf => raises_of (hlike _) ?_, fun hf => raises_of (hlike _) ?_⟩
    · rw [hexec]
      rcases hf with hf | hf <;> rw [hf] <;> rfl
    · rw [hexec, hf]
      rfl
    · rw [hexec]
      rcases hf with hf | hf <;> rw [hf] <;> rfl

end

section
/-! Edges (R153, R154): what a counted stroke, a counted scale pulse and a period leave behind after the end of the event. -/
namespace Sys2Proof.Machine
open Sys2Proof

variable {s t u v e : State} {c : Instr} {w : State → OwnKind → Prop} {i : Fin 8}

/-! ## The blocked watch at a stroke (R123) -/

/-- A blocked watch that stands has its timer running. -/
def BlockedRuns (s : State) : Prop := s.grout.blockedPresent = true → s.grout.blockedTimer.on = true

theorem blockedRuns_examineBlocked (h : BlockedRuns s) : BlockedRuns (examineBlocked s) := by
  intro hp
  unfold examineBlocked conditionTimer at hp ⊢
  dsimp only at hp ⊢
  rw [if_pos hp]
  split
  · rename_i hb
    exact h hb
  · rfl

theorem BlockedRuns.of_eq (h : BlockedRuns s) (hp : t.grout.blockedPresent = s.grout.blockedPresent)
    (ht : t.grout.blockedTimer = s.grout.blockedTimer) : BlockedRuns t := by
  unfold BlockedRuns
  rw [hp, ht]
  exact h

theorem blockedRuns_decideLine (h : BlockedRuns s) : BlockedRuns (decideLine s) := by
  unfold decideLine setLine
  split
  · split
    · exact h
    · split
      · exact blockedRuns_examineBlocked (h.of_eq (by simp) (by simp))
      · exact blockedRuns_examineBlocked (h.of_eq rfl rfl)
  · exact h

theorem PumpMoves.blockedRuns (h : PumpMoves s t) (hs : BlockedRuns s) : BlockedRuns t :=
  h.keeps (P := BlockedRuns) (fun u v hm hu => by
    cases hm with
    | same hk => exact hu.of_eq hk.blocked hk.timer
    | decided hk => exact blockedRuns_decideLine (hu.of_eq hk.blocked hk.timer)
    | blocked => exact blockedRuns_examineBlocked hu) hs

theorem kept_restartBlocked (s : State) : (restartBlocked s).kept = s.kept := by
  unfold restartBlocked
  split <;> rfl

theorem events_restartBlocked (s : State) : (restartBlocked s).events = s.events := by
  unfold restartBlocked
  split <;> rfl

theorem blockedUntil_restartBlocked (h : BlockedRuns s) :
    BlockedUntil ((restartBlocked s).timer (restartBlocked s).cfg.strokeTimeout) (restartBlocked s) := by
  unfold restartBlocked
  split
  · exact fun _ => rfl
  · rename_i hoff
    exact fun hp => absurd (h hp) hoff

/-! ## The balance (R141) -/

/-- From balance_min on the balance is its function, and the latches it calls for are set. -/
def BalanceFollows (s : State) : Prop := s.cfg.balanceMin ≤ s.adv.aRing → 0 < s.muck.mExp →
  s.muck.balance = balanceOf s.muck.mMeas s.muck.mExp ∧
    (s.cfg.overThreshold < s.muck.balance → s.muck.overdig = true) ∧
    (s.muck.balance < s.cfg.underThreshold → s.muck.underdig = true)

theorem BalanceFollows.of_eq (h : BalanceFollows s) (hc : t.cfg = s.cfg) (ha : t.adv.aRing = s.adv.aRing) (hm : t.muck.mMeas = s.muck.mMeas)
    (hx : t.muck.mExp = s.muck.mExp) (hb : t.muck.balance = s.muck.balance) (ho : t.muck.overdig = s.muck.overdig)
    (hu : t.muck.underdig = s.muck.underdig) : BalanceFollows t := by
  unfold BalanceFollows
  rw [hc, ha, hm, hx, hb, ho, hu]
  exact h

theorem examineOverdig_eq (s : State) : ∃ ev p o, examineOverdig s = { s with
    events := ev, port := p, muck := { s.muck with overdig := o } } ∧
      (s.cfg.overThreshold < s.muck.balance → o = true) := by
  unfold examineOverdig
  split
  · exact ⟨(raiseEvent .overdig s).events, (raiseEvent .overdig s).port, true, rfl, fun _ => rfl⟩
  · rename_i hn
    refine ⟨s.events, s.port, s.muck.overdig, rfl, fun hlt => ?_⟩
    by_contra ho
    simp [hlt, ho] at hn

theorem examineUnderdig_eq (s : State) : ∃ ev p o, examineUnderdig s = { s with
    events := ev, port := p, muck := { s.muck with underdig := o } } ∧
      (s.muck.balance < s.cfg.underThreshold → o = true) := by
  unfold examineUnderdig
  split
  · exact ⟨(raiseEvent .underdig s).events, (raiseEvent .underdig s).port, true, rfl, fun _ => rfl⟩
  · rename_i hn
    refine ⟨s.events, s.port, s.muck.underdig, rfl, fun hlt => ?_⟩
    by_contra ho
    simp [hlt, ho] at hn

theorem balanced_recomputeBalance (s : State) : BalanceFollows (recomputeBalance s) := by
  unfold recomputeBalance
  split
  · obtain ⟨fo, po, o, hover, ho⟩ :=
      examineOverdig_eq { s with muck := { s.muck with balance := balanceOf s.muck.mMeas s.muck.mExp } }
    rw [hover]
    obtain ⟨fu, pu, d, hunder, hd⟩ := examineUnderdig_eq { s with
      muck := { s.muck with balance := balanceOf s.muck.mMeas s.muck.mExp, overdig := o }, events := fo, port := po }
    rw [hunder]
    exact fun _ _ => ⟨rfl, ho, hd⟩
  · rename_i hn
    exact fun ha hm => absurd ⟨ha, hm⟩ hn

theorem balanced_setARing (hs : s.holds .screw = true) (a : Nat) : BalanceFollows (setARing a s) := by
  obtain ⟨u, hu, hkept⟩ : ∃ u : State, u = takeVoid (voidOf s.cfg a)
      { s with adv := { s.adv with aRing := a, void := voidOf s.cfg a, mExp := expectedMass s.cfg a } } ∧ u.kept = s.kept :=
    ⟨_, rfl, (kept_takeVoid _ _).trans rfl⟩
  have hset : setARing a s = countMilestone (issueGrease (takeExpectedMass (expectedMass s.cfg a) u)) := by
    rw [hu]
    rfl
  have hholds : u.holds .screw = true := (holds_of_kept hkept .screw).trans hs
  have hbal : BalanceFollows (takeExpectedMass (expectedMass s.cfg a) u) := by
    unfold takeExpectedMass
    rw [if_pos hholds]
    exact balanced_recomputeBalance _
  rw [hset]
  refine hbal.of_eq ?_ ?_ ?_ ?_ ?_ ?_ ?_
  all_goals simp

theorem EndMoves.balanced (h : EndMoves w s t) (hs : s.holds .screw = true) (hb : BalanceFollows s) : BalanceFollows t := by
  refine (h.keeps (P := fun u => u.kept = s.kept ∧ BalanceFollows u) (fun u v hm hu => ⟨hm.kept.trans hu.1, ?_⟩) ⟨rfl, hb⟩).2
  obtain ⟨hkept, hbal⟩ := hu
  cases hm with
  | aRing => exact balanced_setARing ((holds_of_kept hkept .screw).trans hs) _
  | marked | own | queued | machineA => exact hbal.of_eq rfl rfl rfl rfl rfl rfl rfl
  | reference | weight | causes | gate | alarm =>
    refine hbal.of_eq ?_ ?_ ?_ ?_ ?_ ?_ ?_
    all_goals simp

/-! ## The screw stall watch at a period (R144) -/

/-- A stall watch that stands runs to `x`. -/
def StallUntil (x : Timer) (s : State) : Prop := s.muck.stallPresent = true → s.muck.stallTimer = x

theorem StallUntil.of_eq {x : Timer} (h : StallUntil x s) (hp : t.muck.stallPresent = s.muck.stallPresent)
    (ht : t.muck.stallTimer = s.muck.stallTimer) : StallUntil x t := by
  unfold StallUntil
  rw [hp, ht]
  exact h

theorem stallUntil_examineScrew (h : StallUntil (s.timer s.cfg.screwStallTime) s) :
    StallUntil (s.timer s.cfg.screwStallTime) (examineScrew s) := by
  intro hp
  unfold examineScrew conditionTimer at hp ⊢
  dsimp only at hp ⊢
  rw [if_pos hp]
  split
  · rename_i hb
    exact h hb
  · rfl

theorem stallUntil_refreshGate (h : StallUntil (s.timer s.cfg.screwStallTime) s) (i : Fin 8) :
    StallUntil (s.timer s.cfg.screwStallTime) (refreshGate i s) := by
  have hchanged (f : ChFunction) (r : ChannelRec) :
      StallUntil (s.timer s.cfg.screwStallTime) (gateChanged f (putChannel i r s)) := by
    cases f with
    | screwSpeedOut => exact stallUntil_examineScrew (s := putChannel i r s) (h.of_eq rfl rfl)
    | groutPump | unused | thrustExtend | thrustRetract | driveSpeedOut | driveSpeedIn | groutStroke | greasePulse
    | screwSpeedIn | scalePulse => exact h.of_eq rfl rfl
  unfold refreshGate
  split
  · exact h
  · split <;> exact hchanged _ _

/-- A stall watch restarted at this moment stays so. -/
theorem EndMoves.stallUntil (h : EndMoves w s t) (hs : StallUntil (s.timer s.cfg.screwStallTime) s) :
    StallUntil (s.timer s.cfg.screwStallTime) t := by
  refine (h.keeps (P := fun u => u.kept = s.kept ∧ StallUntil (s.timer s.cfg.screwStallTime) u)
    (fun u v hm hu => ⟨hm.kept.trans hu.1, ?_⟩) ⟨rfl, hs⟩).2
  obtain ⟨hkept, hb⟩ := hu
  have htimer : s.timer s.cfg.screwStallTime = u.timer u.cfg.screwStallTime := by rw [timer_of_kept hkept, cfg_of_kept hkept]
  cases hm with
  | gate i =>
    rw [htimer] at hb ⊢
    exact stallUntil_refreshGate hb i
  | marked | own | queued | machineA => exact hb.of_eq rfl rfl
  | reference | weight | causes | alarm | aRing => exact hb.of_eq (by simp) (by simp)

theorem stallUntil_restartScrewStall (h : s.muck.stallTimer.on = true) :
    StallUntil ((restartScrewStall s).timer (restartScrewStall s).cfg.screwStallTime) (restartScrewStall s) := by
  unfold restartScrewStall
  rw [if_pos h]
  exact fun _ => rfl

/-! ## The command (R153) -/

/-- The moment and the level of an edge taken over. -/
def State.edged (s : State) (pin : Fin 4) (rising : Bool) (time : Nat) : State :=
  { s with now := max s.now time, pins := { s.pins with edge := s.pins.edge.set pin rising } }

/-- The edge is counted by the channel (R153). -/
def State.countsEdge (s : State) (i : Fin 8) (rising : Bool) : Bool :=
  (s.chCfg i).edge.qualifies rising && (s.ch i).counts (s.chCfg i) s.now

theorem exec_channelEdge {pin : Fin 4} {rising : Bool} {time : Nat} (hacc : s.boot.accepted = true)
    (hw : s.watcher pin = some i) : exec (.channelEdge pin rising time) s =
      answer (if (s.edged pin rising time).countsEdge i rising then countEdge i (s.edged pin rising time)
        else s.edged pin rising time) := by
  have hwatch : (s.edged pin rising time).watcher pin = some i := hw
  change answer (if s.boot.accepted = true then takeEdge pin rising (s.edged pin rising time) else _) = _
  rw [if_pos hacc]
  unfold takeEdge
  rw [hwatch]
  rfl

theorem holds_of_watcher {pin : Fin 4} {r : Role} (hw : s.watcher pin = some i) (hr : (s.chCfg i).function.role = some r) :
    s.holds r = true := by
  have hfound := List.find?_some hw
  rw [hr] at hfound
  simp only [Bool.and_eq_true] at hfound
  exact hfound.2

theorem counts_iff (r : ChannelRec) (c : ChannelCfg) (now : Nat) :
    r.counts c now = true ↔ (match r.capture with | none => True | some t0 => c.minInterval ≤ now - t0) := by
  unfold ChannelRec.counts
  cases r.capture with
  | none => simp
  | some t0 => simp

theorem countsEdge_iff (b : State) (rising : Bool) : b.countsEdge i rising = true ↔
    (b.chCfg i).edge.qualifies rising = true ∧
      (match (b.ch i).capture with | none => True | some t0 => (b.chCfg i).minInterval ≤ b.now - t0) := by
  unfold State.countsEdge
  rw [Bool.and_eq_true, counts_iff]

theorem countEdge_count (b : State) (hm : (b.chCfg i).function.mode = .count) :
    countEdge i b = deliverCount (b.chCfg i).function (putChannel i { b.ch i with capture := some b.now } b) := by
  unfold countEdge
  dsimp only
  rw [hm]

/-- The state of a counted edge of a period input, its capture and its timeout moved (R154). -/
def State.timed (b : State) (i : Fin 8) : State :=
  putChannel i { b.ch i with capture := some b.now, timeoutTimer := b.timer (b.chCfg i).timeout } b

theorem countEdge_first (b : State) (hm : (b.chCfg i).function.mode = .period) (hc : (b.ch i).capture = none) :
    countEdge i b = b.timed i := by
  unfold countEdge
  dsimp only
  rw [hm, hc]
  rfl

theorem countEdge_period (b : State) {t0 : Nat} (hm : (b.chCfg i).function.mode = .period) (hc : (b.ch i).capture = some t0) :
    countEdge i b = deliverPeriod (b.chCfg i).function (b.now - t0) (b.timed i) := by
  unfold countEdge
  dsimp only
  rw [hm, hc]
  rfl

/-! ## Deliveries (R112, R139, R141) -/

theorem kept_countStroke (s : State) : (countStroke s).kept =
    if s.restored then { s.kept with delivered := min 2000000000 (s.grout.delivered + s.cfg.effectiveStroke) } else s.kept := by
  unfold countStroke
  rw [kept_restartBlocked]
  split
  · rw [kept_recomputeDeficit]
    rfl
  · rfl

theorem events_countStroke (s : State) : (countStroke s).events = s.events := by
  unfold countStroke
  rw [events_restartBlocked]
  split
  · simp
  · rfl

/-- A blocked timer that ran at a stroke runs anew, while its condition stands (R123). -/
theorem blocked_countStroke (hon : s.grout.blockedTimer.on = true) :
    BlockedUntil (s.timer s.cfg.strokeTimeout) (finish (countStroke s)) := by
  have hruns : BlockedRuns (if s.restored then recomputeDeficit { s with grout := { s.grout with
      delivered := min 2000000000 (s.grout.delivered + s.cfg.effectiveStroke) } } else s) := by
    split
    · exact (pump_recomputeDeficit .refl).blockedRuns fun _ => hon
    · exact fun _ => hon
  have huntil : BlockedUntil ((countStroke s).timer (countStroke s).cfg.strokeTimeout) (countStroke s) :=
    blockedUntil_restartBlocked hruns
  have hkept := kept_countStroke s
  have htimer : (countStroke s).timer (countStroke s).cfg.strokeTimeout = s.timer s.cfg.strokeTimeout := by
    have hnow : (countStroke s).now = s.now := by
      refine (congrArg Kept.now hkept).trans ?_
      split <;> rfl
    have hcfg : (countStroke s).cfg = s.cfg := by
      refine (congrArg Kept.cfg hkept).trans ?_
      split <;> rfl
    unfold State.timer
    rw [hnow, hcfg]
  rw [← htimer]
  exact (pump_finish _).blocked huntil

theorem kept_countScale (s : State) : (countScale s).kept =
    if s.restored then { s.kept with mMeas := min 4000000000 (s.muck.mMeas + s.cfg.kgPerPulse) } else s.kept := by
  unfold countScale
  split
  · rw [kept_recomputeBalance]
    rfl
  · rfl

theorem grows_countScale (s : State) : Grows s (countScale s) := by
  unfold countScale
  split
  · exact (grows_recomputeBalance _).from rfl
  · exact .of_eq rfl

theorem balanced_countScale (h : s.restored = true) : BalanceFollows (countScale s) := by
  unfold countScale
  rw [if_pos h]
  exact balanced_recomputeBalance _

theorem events_takeScrewSpeed (n : Nat) (s : State) : (takeScrewSpeed n (restartScrewStall s)).events = s.events := by
  unfold restartScrewStall
  split <;> rfl

theorem kept_restartScrewStall (s : State) : (restartScrewStall s).kept = s.kept := by
  unfold restartScrewStall
  split <;> rfl

theorem kept_takeScrewSpeed (n : Nat) (s : State) : (takeScrewSpeed n (restartScrewStall s)).kept = { s.kept with nS := n } := by
  have hrestart := kept_restartScrewStall s
  generalize restartScrewStall s = u at *
  rw [← hrestart]
  exact (kept_examineScrew _).trans rfl

theorem stallUntil_takeScrewSpeed (n : Nat) (hon : s.muck.stallTimer.on = true) :
    StallUntil (s.timer s.cfg.screwStallTime) (finish (takeScrewSpeed n (restartScrewStall s))) := by
  have huntil := stallUntil_restartScrewStall hon
  have hkept := kept_restartScrewStall s
  generalize restartScrewStall s = u at *
  have htimer : s.timer s.cfg.screwStallTime = u.timer u.cfg.screwStallTime := by rw [timer_of_kept hkept, cfg_of_kept hkept]
  rw [htimer]
  have hx : StallUntil (u.timer u.cfg.screwStallTime) (takeScrewSpeed n u) :=
    stallUntil_examineScrew (s := { u with muck := { u.muck with nS := n } }) (huntil.of_eq rfl rfl)
  exact (endMoves_finish (takeScrewSpeed n u)).stallUntil hx

theorem capture_of_captures (h : t.kept.captures = s.kept.captures) (i : Fin 8) :
    (t.ch i).capture = (s.ch i).capture ∧ (t.ch i).timeoutTimer = (s.ch i).timeoutTimer := by
  have hi := congrArg (fun l => l[i.val]?) h
  simp only [State.kept, List.getElem?_map, Vector.getElem?_toList, Vector.getElem?_eq_getElem i.isLt, Option.map_some,
    Option.some.injEq, Prod.mk.injEq] at hi
  exact hi

/-! ## A drive speed that passes the limit (R69) -/

theorem drive_raiseFault_drive (cause : FaultCause) (value : Int) (s : State) :
    (raiseFault .drive cause value s).drive.nFb = s.drive.nFb ∧
      (raiseFault .drive cause value s).drive.overspeed = s.drive.overspeed ∧
      (raiseFault .drive cause value s).kept.captures = s.kept.captures := by
  cases hf : s.faults.get .drive with
  | none =>
    rw [raiseFault_of_none hf]
    obtain ⟨u, hu⟩ : ∃ u : State, u = faultAreaChanged { s with
      faults := s.faults.put .drive (some ⟨cause, value, s.adv.ring, s.faultStep .drive, 0⟩) } := ⟨_, rfl⟩
    have hdrive : u.drive = s.drive := by rw [hu]; simp
    have hchannels : u.channels = s.channels := by rw [hu]; simp
    rw [← hu, kept_refreshGates]
    refine ⟨?_, ?_, ?_⟩
    · simp [enterFault, faultDrive, hdrive]
    · simp [enterFault, faultDrive, hdrive]
    · change (writeDuty .driveSpeedOut 0 _).kept.captures = _
      rw [kept_writeDuty]
      have hwith (k : Kept) (f : ChFunction) (d : Nat) : (k.withDuty f d).captures = k.captures := by
        unfold Kept.withDuty Kept.setDuty
        split <;> rfl
      rw [hwith]
      simp only [State.kept, hchannels]
  | some r =>
    rw [raiseFault_of_some hf]
    split <;> simp [State.kept]

theorem takeDriveSpeed_of_passing {n : Nat} (hfast : decide (s.cfg.speedMax + s.cfg.overspeedMargin < n) = true)
    (hover : s.drive.overspeed = false) : ∃ present timer, takeDriveSpeed n s = raiseFault .drive .overspeed n { s with
      drive := { s.drive with nFb := n, overspeed := true, stallPresent := present, stallTimer := timer } } := by
  unfold takeDriveSpeed examineOverspeed examineStall
  dsimp only
  rw [if_pos (by rw [hfast, hover]; rfl), hfast]
  exact ⟨_, _, rfl⟩

end Sys2Proof.Machine
open Sys2Proof Sys2Proof.Machine

/-- Settles O57: a counted edge moves the capture and is delivered; the watches and the balance that a delivery sets stand through
the end of the event. -/
theorem edgesAreCounted : Obligations.EdgesAreCounted := by
  intro s pin rising time i hacc hw now f counted base counting timing
  have hexec := exec_channelEdge (rising := rising) (time := time) hacc hw
  have hcounts : (s.edged pin rising time).countsEdge i rising = true ↔ counted := countsEdge_iff _ rising
  obtain ⟨b, hb⟩ : ∃ b : State, b = s.edged pin rising time := ⟨_, rfl⟩
  have hf : (b.chCfg i).function = f := by rw [hb]; rfl
  have hphase : b.boot.phase = s.boot.phase := by rw [hb]; rfl
  have hcapture : (b.ch i).capture = (s.ch i).capture := by rw [hb]; rfl
  have hstroke : putChannel i { b.ch i with capture := some b.now } b = counting := by rw [hb]; rfl
  have htimed : b.timed i = timing := by rw [hb]; rfl
  rw [← hb] at hexec hcounts
  have hcounted (hc : counted) : exec (.channelEdge pin rising time) s = answer (countEdge i b) := by
    rw [hexec, if_pos (hcounts.mpr hc)]
  have hcount (hc : counted) (hm : f.mode = .count) :
      exec (.channelEdge pin rising time) s = answer (deliverCount f counting) := by
    rw [hcounted hc, countEdge_count b (by rw [hf]; exact hm), hf, hstroke]
  have hperiod (hc : counted) (hm : f.mode = .period) (t0 : Nat) (ht : (s.ch i).capture = some t0) :
      exec (.channelEdge pin rising time) s = answer (deliverPeriod f (now - t0) timing) := by
    rw [hcounted hc, countEdge_period b (by rw [hf]; exact hm) (hcapture.trans ht), hf, htimed, hb]
    rfl
  refine ⟨fun hc => ?_, fun hc hfun hdone => ⟨?_, fun t ht hon hp => ?_⟩, fun hc hfun hearly => ?_, fun hc hfun hdone => ?_,
    fun hc hfun hnone => ?_, fun t0 hc hfun ht0 => ?_, fun t0 hc hfun ht0 => ?_⟩
  · rw [if_neg fun h => hc (hcounts.mp h)] at hexec
    rw [hb] at hexec
    exact gives_of_events hexec rfl rfl
  · have hnext := hcount hc (by rw [hfun]; rfl)
    rw [hfun] at hnext
    refine gives_of_events hnext ((kept_countStroke counting).trans ?_) (events_countStroke counting)
    rw [if_pos (show counting.restored = true by simp [State.restored, counting, base, hdone])]
    rfl
  · have hnext := hcount hc (by rw [hfun]; rfl)
    rw [hfun, ht] at hnext
    have htf : t = finish (countStroke counting) := by
      injection hnext
    rw [htf] at hp ⊢
    exact blocked_countStroke (s := counting) hon hp
  · have hnot : ¬ counting.restored = true := by simp [State.restored, counting, base, hearly]
    rcases hfun with hfun | hfun
    · have hnext := hcount hc (by rw [hfun]; rfl)
      rw [hfun] at hnext
      exact gives_of_events hnext ((kept_countStroke counting).trans (if_neg hnot)) (events_countStroke counting)
    · have hnext := hcount hc (by rw [hfun]; rfl)
      rw [hfun] at hnext
      exact gives_of_events hnext ((kept_countScale counting).trans (if_neg hnot)) (congrArg State.events (if_neg hnot))
  · have hnext : exec (.channelEdge pin rising time) s = answer (countScale counting) := by
      rw [hcount hc (by rw [hfun]; rfl), hfun]
      rfl
    have hrestored : counting.restored = true := by simp [State.restored, counting, base, hdone]
    have hbal := balanced_countScale hrestored
    have hgrows := grows_countScale counting
    have hkept : (countScale counting).kept =
        { counting.kept with mMeas := min 4000000000 (s.muck.mMeas + s.cfg.kgPerPulse) } :=
      (kept_countScale counting).trans (if_pos hrestored)
    have hcfg : (countScale counting).cfg = s.cfg := (congrArg Kept.cfg hkept).trans rfl
    have hscrew : (countScale counting).holds .screw = true := by
      have hheld := holds_of_watcher (r := .screw) hw (by change f.role = _; rw [hfun]; rfl)
      have hboot : (countScale counting).boot = s.boot := (congrArg Kept.boot hkept).trans rfl
      unfold State.holds State.effectiveRoles at hheld ⊢
      rw [hcfg, hboot]
      exact hheld
    generalize countScale counting = x at *
    have hfin := (endMoves_finish x).balanced hscrew hbal
    have hsettled := settled_finish x
    have hgrows := hgrows.trans (grows_finish x)
    have hkeptx := kept_finish x
    refine ⟨finish x, hnext, ?_, hkeptx.trans hkept, hgrows.and_eq⟩
    unfold BalanceFollows at hfin
    rw [cfg_of_kept hkeptx, hcfg] at hfin
    exact hfin
  · have hm : f.mode = .period := by
      rcases hfun with h | h <;> rw [h] <;> rfl
    have hnext := hcounted hc
    rw [countEdge_first b (by rw [hf]; exact hm) (hcapture.trans hnone), htimed] at hnext
    exact gives_of_events hnext rfl rfl
  · intro speed fast
    have hnext := hperiod hc (by rw [hfun]; rfl) t0 ht0
    have hdeliver : deliverPeriod f (now - t0) timing = takeDriveSpeed speed timing := by rw [hfun]; rfl
    rw [hdeliver] at hnext
    refine ⟨fun hcalm => ?_, fun hfast hover => ?_⟩
    · obtain ⟨present, timer, hspeed⟩ := takeDriveSpeed_of_calm (s := timing) (n := speed) hcalm
      rw [hspeed] at hnext
      have hkept := kept_finish { timing with drive := { timing.drive with
        nFb := speed, overspeed := decide (timing.cfg.speedMax + timing.cfg.overspeedMargin < speed)
        stallPresent := present, stallTimer := timer } }
      have hsettled := settled_finish { timing with drive := { timing.drive with
        nFb := speed, overspeed := decide (timing.cfg.speedMax + timing.cfg.overspeedMargin < speed)
        stallPresent := present, stallTimer := timer } }
      have hdrive := drive_of_kept hkept
      refine ⟨_, hnext, ?_, ?_⟩
      · rw [hdrive]
      · rw [hdrive]
        exact hsettled
    · obtain ⟨present, timer, hspeed⟩ := takeDriveSpeed_of_passing (s := timing) (n := speed) hfast hover
      rw [hspeed] at hnext
      obtain ⟨hspeed, hovers, hcaptures⟩ := drive_raiseFault_drive .overspeed speed { timing with
        drive := { timing.drive with nFb := speed, overspeed := true, stallPresent := present, stallTimer := timer } }
      refine ⟨raises_of (u := { timing with
        drive := { timing.drive with nFb := speed, overspeed := true, stallPresent := present, stallTimer := timer } })
        ⟨rfl, rfl, rfl, rfl, rfl, rfl, rfl, rfl, id⟩ hnext, ?_⟩
      obtain ⟨x, hx⟩ : ∃ x : State, x = raiseFault .drive .overspeed speed { timing with
        drive := { timing.drive with nFb := speed, overspeed := true, stallPresent := present, stallTimer := timer } } := ⟨_, rfl⟩
      rw [← hx] at hspeed hovers hcaptures hnext
      have hdrive := drive_of_kept (kept_finish x)
      have hcap : (finish x).kept.captures = timing.kept.captures :=
        (congrArg Kept.captures (kept_finish x)).trans (hcaptures.trans rfl)
      obtain ⟨hc1, hc2⟩ := capture_of_captures hcap i
      refine ⟨finish x, hnext, by rw [hdrive, hspeed], by rw [hdrive, hovers], ?_, hc2⟩
      rw [hc1]
      change (((putChannel i _ base)).ch i).capture = _
      rw [ch_putChannel, if_pos rfl]
  · obtain ⟨n, hn⟩ : ∃ n, n = speedOf (now - t0) s.cfg.screwPpr := ⟨_, rfl⟩
    have hnext : exec (.channelEdge pin rising time) s = answer (takeScrewSpeed n (restartScrewStall timing)) := by
      rw [hperiod hc (by rw [hfun]; rfl) t0 ht0, hfun, hn]
      rfl
    have hkept := kept_takeScrewSpeed n timing
    have hevents := events_takeScrewSpeed n timing
    have hstall (hon : timing.muck.stallTimer.on = true) := stallUntil_takeScrewSpeed (s := timing) n hon
    have hclamp : clampNat 0 65535 (6000000000 / ((now - t0) * s.cfg.screwPpr)) = n := by rw [hn]; rfl
    rw [hclamp]
    generalize takeScrewSpeed n (restartScrewStall timing) = x at *
    exact ⟨finish x, hnext, fun hon hp => hstall hon hp, (kept_finish x).trans (hkept.trans rfl),
      ((Grows.of_eq hevents).trans (grows_finish x)).and_eq⟩

end

section
/-! Conversions of the torque, line pressure and chamber inputs taken (O48). -/
namespace Sys2Proof.Machine
open Sys2Proof

variable {s t u v e : State} {c : Instr} {w : State → OwnKind → Prop} {f g : InFunction}

/-! ## The pressure band through the end of an event (R119, R124) -/

/-- The derate flag and the overpressure condition are those of the band. -/
def BandFollows (s : State) : Prop := s.grout.derate = decide (s.grout.capLo < s.grout.pressure) ∧
  s.grout.opPresent = decide (s.grout.capHi + s.cfg.opMargin ≤ s.grout.pressure)

theorem BandFollows.of_eq (h : BandFollows s) (hd : t.grout.derate = s.grout.derate) (ho : t.grout.opPresent = s.grout.opPresent)
    (hl : t.grout.capLo = s.grout.capLo) (hh : t.grout.capHi = s.grout.capHi) (hp : t.grout.pressure = s.grout.pressure)
    (hc : t.cfg = s.cfg) : BandFollows t := by
  unfold BandFollows
  rw [hd, ho, hl, hh, hp, hc]
  exact h

theorem derate_examineDerate (s : State) : (examineDerate s).grout.derate = decide (s.grout.capLo < s.grout.pressure) := by
  unfold examineDerate
  dsimp only
  split
  · rename_i h
    exact h.symm
  · simp

theorem bandFollows_examined (s : State) : BandFollows (examineGroutPressure (examineDerate s)) := by
  refine ⟨?_, rfl⟩
  change (examineDerate s).grout.derate = decide ((examineDerate s).grout.capLo < (examineDerate s).grout.pressure)
  rw [derate_examineDerate]
  simp

theorem bandFollows_recomputeBand (s : State) : BandFollows (recomputeBand s) := bandFollows_examined _

theorem bandFollows_setReference {st : RefState} {p : Nat} {x : Timer} (h : BandFollows s) :
    BandFollows (setReference st p x s) := by
  unfold setReference
  dsimp only
  split
  · exact h.of_eq rfl rfl rfl rfl rfl rfl
  · exact bandFollows_recomputeBand _

theorem bandFollows_refreshReference (h : BandFollows s) : BandFollows (refreshReference s) := by
  unfold refreshReference
  split
  · exact bandFollows_setReference h
  · split
    · exact bandFollows_setReference h
    · exact h

theorem EndMoves.bandFollows (h : EndMoves w s t) (hs : BandFollows s) : BandFollows t := by
  refine h.keeps (P := BandFollows) (fun u v hm hu => ?_) hs
  cases hm with
  | reference => exact bandFollows_refreshReference hu
  | marked | own | queued | machineA => exact hu.of_eq rfl rfl rfl rfl rfl rfl
  | weight | causes | gate | alarm | aRing =>
    refine hu.of_eq ?_ ?_ ?_ ?_ ?_ ?_
    all_goals simp

/-! ## Chamber inputs (R131, R132) -/

/-- The chamber input of a function replaced. -/
def Muck.setChamber (m : Muck) (f : InFunction) (x : ChamberInput) : Muck :=
  match f with
  | .chamber1 => { m with chamber1 := x }
  | .chamber2 => { m with chamber2 := x }
  | .chamber3 => { m with chamber3 := x }
  | .unused | .stroke | .groupPressure | .linePressure | .torqueA | .torqueB => m

theorem chamber_setChamber_self (hf : isChamber f = true) (m : Muck) (x : ChamberInput) : (m.setChamber f x).chamber f = x := by
  cases f with
  | chamber1 | chamber2 | chamber3 => rfl
  | unused | stroke | groupPressure | linePressure | torqueA | torqueB => cases hf

theorem chamber_setChamber_other (hg : g ≠ f) (m : Muck) (x : ChamberInput) : (m.setChamber f x).chamber g = m.chamber g := by
  cases f with
  | chamber1 | chamber2 | chamber3 =>
    cases g <;> simp_all [Muck.setChamber, Muck.chamber]
  | unused | stroke | groupPressure | linePressure | torqueA | torqueB => rfl

/-- The chamber pressure of one valid input beside those of the list. -/
def pressureWith (p : Nat) : List Nat → Nat
  | [] => p
  | [x] => (p + x + 1) / 2
  | x :: y :: _ => max (min p x) (min (max p x) y)

/-- The chamber pressure of the inputs of the list, `p` without any. -/
def pressureOf (p : Nat) : List Nat → Nat
  | [] => p
  | [x] => x
  | x :: y :: _ => (x + y + 1) / 2

theorem halfUpMean_pair (x y : Nat) : halfUpMean (x + y) 2 = (x + y + 1) / 2 := by
  unfold halfUpMean
  omega

theorem median_rotate (p x y : Nat) : median x y p = median p x y := by
  unfold median
  omega

theorem median_swap (p x y : Nat) : median x p y = median p x y := by
  unfold median
  omega

/-- The value of a chamber input, wherever it stands among the others. -/
theorem chamberPressure_insert (p : Nat) : ∀ l r : List Nat, l.length + r.length ≤ 2 →
    chamberPressureOf (l ++ p :: r) = some (pressureWith p (l ++ r))
  | [], [], _ => rfl
  | [], [x], _ => congrArg some (halfUpMean_pair p x)
  | [], [_, _], _ => rfl
  | [x], [], _ => congrArg some ((halfUpMean_pair x p).trans (by rw [Nat.add_comm x p]; rfl))
  | [x], [y], _ => congrArg some (median_swap p x y)
  | [x, y], [], _ => congrArg some (median_rotate p x y)
  | _ :: _ :: _ :: _, _, h => absurd h (by simp; omega)
  | [], _ :: _ :: _ :: _, h => absurd h (by simp)
  | [_], _ :: _ :: _, h => absurd h (by simp; omega)
  | [_, _], _ :: _, h => absurd h (by simp)

theorem chamberPressure_pair : ∀ l : List Nat, l.length ≤ 2 → l ≠ [] → ∀ q, chamberPressureOf l = some (pressureOf q l)
  | [], _, h, _ => absurd rfl h
  | [_], _, _, _ => rfl
  | [x, y], _, _, _ => congrArg some (halfUpMean_pair x y)
  | _ :: _ :: _ :: _, h, _, _ => absurd h (by simp)

/-- The value of a chamber input, if it has one. -/
def ChamberInput.values : ChamberInput → List Nat
  | .valid p => [p]
  | .unseen | .failed => []

theorem ChamberInput.length_values (x : ChamberInput) : x.values.length ≤ 1 := by
  cases x <;> simp [ChamberInput.values]

theorem validValues_eq (m : Muck) : m.validValues = m.chamber1.values ++ (m.chamber2.values ++ m.chamber3.values) := by
  unfold Muck.validValues
  cases m.chamber1 <;> cases m.chamber2 <;> cases m.chamber3 <;> rfl

theorem otherValues_eq (m : Muck) :
    m.otherValues .chamber1 = m.chamber2.values ++ m.chamber3.values ∧
      m.otherValues .chamber2 = m.chamber1.values ++ m.chamber3.values ∧
      m.otherValues .chamber3 = m.chamber1.values ++ m.chamber2.values := by
  have hpair (x y : InFunction) : ([x, y].filterMap fun g => match m.chamber g with
      | .valid p => some p
      | .unseen | .failed => none) = (m.chamber x).values ++ (m.chamber y).values := by
    cases hx : m.chamber x <;> cases hy : m.chamber y <;> simp [ChamberInput.values, hx, hy]
  exact ⟨hpair .chamber2 .chamber3, hpair .chamber1 .chamber3, hpair .chamber1 .chamber2⟩

theorem length_values_append (x y : ChamberInput) : x.values.length + y.values.length ≤ 2 := by
  have hx := x.length_values
  have hy := y.length_values
  omega

theorem chamberPressure_with (hf : isChamber f = true) (m : Muck) (p : Nat) :
    chamberPressureOf (m.setChamber f (.valid p)).validValues = some (pressureWith p (m.otherValues f)) := by
  obtain ⟨h1, h2, h3⟩ := otherValues_eq m
  rw [validValues_eq]
  cases f with
  | chamber1 =>
    rw [h1]
    exact chamberPressure_insert p [] (m.chamber2.values ++ m.chamber3.values) (by
      simpa using length_values_append m.chamber2 m.chamber3)
  | chamber2 =>
    rw [h2]
    exact chamberPressure_insert p m.chamber1.values m.chamber3.values (length_values_append _ _)
  | chamber3 =>
    have h := chamberPressure_insert p (m.chamber1.values ++ m.chamber2.values) [] (by
      simpa using length_values_append m.chamber1 m.chamber2)
    rw [h3]
    rw [List.append_assoc, List.append_nil] at h
    exact h
  | unused | stroke | groupPressure | linePressure | torqueA | torqueB => cases hf

theorem validValues_without (hf : isChamber f = true) (m : Muck) : (m.setChamber f .failed).validValues = m.otherValues f := by
  obtain ⟨h1, h2, h3⟩ := otherValues_eq m
  rw [validValues_eq]
  cases f with
  | chamber1 => exact h1.symm
  | chamber2 => exact h2.symm
  | chamber3 => exact (congrArg (m.chamber1.values ++ ·) (List.append_nil _)).trans h3.symm
  | unused | stroke | groupPressure | linePressure | torqueA | torqueB => cases hf

theorem length_otherValues (hf : isChamber f = true) (m : Muck) : (m.otherValues f).length ≤ 2 := by
  obtain ⟨h1, h2, h3⟩ := otherValues_eq m
  cases f with
  | chamber1 => rw [h1, List.length_append]; exact length_values_append _ _
  | chamber2 => rw [h2, List.length_append]; exact length_values_append _ _
  | chamber3 => rw [h3, List.length_append]; exact length_values_append _ _
  | unused | stroke | groupPressure | linePressure | torqueA | torqueB => cases hf

/-! ## The blind flag and the screw (R132, R134) -/

/-- A chamber conversion taken: the pressure and the blind flag of the values, and the screw decided where the flag changes. -/
theorem kept_recomputeChamber (s : State) : ∃ st cmd out l, (recomputeChamber s).kept = { s.kept with
      pCh := (chamberPressureOf s.muck.validValues).getD s.muck.pCh
      blind := (chamberPressureOf s.muck.validValues).isNone
      screw := st, nCmd := cmd, nOut := out, duties := l } ∧
    ((chamberPressureOf s.muck.validValues).isNone = s.muck.blind → st = s.muck.state) ∧
    ((chamberPressureOf s.muck.validValues).isNone ≠ s.muck.blind → s.holds .screw = true → s.faults.screw = none →
      s.events.stopped = false → s.table.mode = .excavate ∨ s.table.mode = .build →
      st = if (chamberPressureOf s.muck.validValues).isNone then .blind else .running) := by
  have hdecided (u : State) (hu : u.faults.screw = none) (hs : u.events.stopped = false)
      (hm : u.table.mode = .excavate ∨ u.table.mode = .build) (hh : u.holds .screw = true) :
      (decideScrew u).muck.state = if u.muck.blind then .blind else .running := by
    rw [state_decideScrew, if_pos hh, State.screwTable, hu, hs]
    rcases hm with hm | hm <;> rw [hm] <;> rfl
  have hscrew {u : State} {st : ScrewState} {k : Kept} (hk : (decideScrew u).kept = k) (hst : k.screw = st) :
      (decideScrew u).muck.state = st := (congrArg Kept.screw hk).trans hst
  unfold recomputeChamber
  cases hp : chamberPressureOf s.muck.validValues with
  | some p =>
    by_cases hb : s.muck.blind = true
    · obtain ⟨st, cmd, out, l, hk⟩ := kept_decideScrew { s with muck := { s.muck with pCh := p, blind := false } }
      refine ⟨st, cmd, out, l, ?_, fun h => ?_, fun _ hh hf he hm => ?_⟩
      · dsimp only
        rw [if_pos hb, hk]
        rfl
      · simp [hb] at h
      · exact (hscrew hk rfl).symm.trans ((hdecided { s with muck := { s.muck with pCh := p, blind := false } } hf he hm hh).trans rfl)
    · refine ⟨s.muck.state, s.muck.nCmd, s.muck.nOut, s.dutiesKept, ?_, fun _ => rfl, fun h => ?_⟩
      · dsimp only
        rw [if_neg hb]
        have hfalse : s.muck.blind = false := by simpa using hb
        simp only [State.kept, hfalse]
        rfl
      · simp [hb] at h
  | none =>
    by_cases hb : s.muck.blind = true
    · refine ⟨s.muck.state, s.muck.nCmd, s.muck.nOut, s.dutiesKept, ?_, fun _ => rfl, fun h => ?_⟩
      · dsimp only
        rw [if_pos hb]
        simp only [State.kept, hb]
        rfl
      · simp [hb] at h
    · obtain ⟨st, cmd, out, l, hk⟩ := kept_decideScrew { s with muck := { s.muck with blind := true } }
      refine ⟨st, cmd, out, l, ?_, fun h => ?_, fun _ hh hf he hm => ?_⟩
      · dsimp only
        rw [if_neg hb, hk]
        rfl
      · simp [hb] at h
      · exact (hscrew hk rfl).symm.trans ((hdecided { s with muck := { s.muck with blind := true } } hf he hm hh).trans rfl)

/-- A chamber input as it stands after a conversion, delivered (R131). -/
theorem deliverSample_chamber (hf : isChamber f = true) (value : Option Int) (s : State) :
    deliverSample f value s =
      takeChamber (s.muck.chamber f) (chamberAfter value) { s with muck := s.muck.setChamber f (chamberAfter value) } := by
  cases f with
  | chamber1 | chamber2 | chamber3 => rfl
  | unused | stroke | groupPressure | linePressure | torqueA | torqueB => cases hf

/-- What a chamber conversion leaves behind, `x` the input after it and `l` the values then valid (R131, R132). -/
theorem chamber_taken {x : ChamberInput} {l : List Nat} (hf : isChamber f = true)
    (hl : (s.muck.setChamber f x).validValues = l)
    (hexec : exec c e = answer (takeChamber (s.muck.chamber f) x { s with muck := s.muck.setChamber f x })) :
    ∃ t, exec c e = .next t ∧ t.muck.chamber f = x ∧ t.muck.blind = (chamberPressureOf l).isNone ∧
      t.muck.pCh = (chamberPressureOf l).getD s.muck.pCh ∧ t.inputs = s.inputs ∧
      (x = .failed → s.muck.chamber f ≠ .failed →
        t.events.flags &&& EventFlag.chamberDegraded.mask = EventFlag.chamberDegraded.mask) ∧
      (t.muck.blind ≠ s.muck.blind → s.holds .screw → s.faults.screw = none → s.events.stopped = false →
        s.table.mode = .excavate ∨ s.table.mode = .build → t.muck.state = if t.muck.blind then .blind else .running) ∧
      (∀ g, g ≠ f → t.muck.chamber g = s.muck.chamber g) ∧ (t.muck.blind = s.muck.blind → t.muck.state = s.muck.state) ∧
      t.muck.mMeas = s.muck.mMeas ∧ t.muck.integ = s.muck.integ ∧ t.drive = s.drive ∧ t.shoe = s.shoe ∧
      t.adv.ring = s.adv.ring ∧ t.faults = s.faults := by
  obtain ⟨u, hu⟩ : ∃ u : State, u = if chamberDegrades (s.muck.chamber f) x then
      raiseEvent .chamberDegraded { s with muck := s.muck.setChamber f x } else { s with muck := s.muck.setChamber f x } := ⟨_, rfl⟩
  have hmuck : u.muck = s.muck.setChamber f x := by
    rw [hu]
    split <;> rfl
  have hukept : u.kept = ({ s with muck := s.muck.setChamber f x } : State).kept := by
    rw [hu]
    split <;> rfl
  have hflag : x = .failed → s.muck.chamber f ≠ .failed →
      u.events.flags &&& EventFlag.chamberDegraded.mask = EventFlag.chamberDegraded.mask := by
    intro hx hne
    rw [hu, if_pos (by simp [chamberDegrades, hx, hne])]
    exact raised_mask _ _
  have htake : takeChamber (s.muck.chamber f) x { s with muck := s.muck.setChamber f x } = recomputeChamber u := by
    rw [hu]
    rfl
  have hset (y : ChamberInput) : (s.muck.setChamber f y).pCh = s.muck.pCh ∧ (s.muck.setChamber f y).blind = s.muck.blind ∧
      (s.muck.setChamber f y).state = s.muck.state ∧ (s.muck.setChamber f y).mMeas = s.muck.mMeas ∧
      (s.muck.setChamber f y).integ = s.muck.integ := by
    cases f with
    | chamber1 | chamber2 | chamber3 => exact ⟨rfl, rfl, rfl, rfl, rfl⟩
    | unused | stroke | groupPressure | linePressure | torqueA | torqueB => exact ⟨rfl, rfl, rfl, rfl, rfl⟩
  obtain ⟨hpCh, hblind, hstate, hmass, hinteg⟩ := hset x
  obtain ⟨st, cmd, out, duties, hk, hsame, hchange⟩ := kept_recomputeChamber u
  rw [hmuck, hl] at hk hsame hchange
  rw [hblind] at hsame hchange
  have hholds : u.holds .screw = s.holds .screw := (holds_of_kept hukept .screw).trans rfl
  have hfaults : u.faults = s.faults := (faults_of_kept hukept).trans rfl
  have hstopped : u.events.stopped = s.events.stopped := (stopped_of_kept hukept).trans rfl
  have hmode : u.table.mode = s.table.mode := (mode_of_kept hukept).trans rfl
  have hgrows : Grows u (finish (recomputeChamber u)) :=
    (Grows.of_eq (show (recomputeChamber u).events = u.events by simp)).trans (grows_finish _)
  rw [htake] at hexec
  have hkept := (kept_finish (recomputeChamber u)).trans hk
  have hend : exec c e = .next (finish (recomputeChamber u)) := hexec
  generalize finish (recomputeChamber u) = t at *
  have hchambers (g : InFunction) : t.muck.chamber g = u.muck.chamber g := by
    have h1 : t.muck.chamber1 = u.muck.chamber1 := congrArg Kept.chamber1 hkept
    have h2 : t.muck.chamber2 = u.muck.chamber2 := congrArg Kept.chamber2 hkept
    have h3 : t.muck.chamber3 = u.muck.chamber3 := congrArg Kept.chamber3 hkept
    cases g with
    | chamber1 => exact h1
    | chamber2 => exact h2
    | chamber3 => exact h3
    | unused | stroke | groupPressure | linePressure | torqueA | torqueB => rfl
  have htblind : t.muck.blind = (chamberPressureOf l).isNone := congrArg Kept.blind hkept
  have htstate : t.muck.state = st := congrArg Kept.screw hkept
  refine ⟨t, hend, ?_, htblind, ?_, ?_, fun hx hne => ?_, fun hne hh hfs hes hm => ?_, fun g hg => ?_, fun heq => ?_, ?_, ?_, ?_, ?_, ?_, ?_⟩
  · rw [hchambers, hmuck, chamber_setChamber_self hf]
  · exact (congrArg Kept.pCh hkept).trans (congrArg (Option.getD (chamberPressureOf l)) hpCh)
  · exact (congrArg Kept.inputs hkept).trans ((inputs_of_kept hukept).trans rfl)
  · exact hgrows.mask (hflag hx hne)
  · rw [htstate, htblind]
    rw [htblind] at hne
    exact hchange hne (hholds.trans hh) (by rw [hfaults]; exact hfs) (hstopped.trans hes) (by rw [hmode]; exact hm)
  · rw [hchambers, hmuck, chamber_setChamber_other hg]
  · rw [htblind] at heq
    rw [htstate, hsame heq, hstate]
  · exact ((congrArg Kept.mMeas hkept).trans (congrArg Muck.mMeas hmuck)).trans hmass
  · exact ((congrArg Kept.integ hkept).trans (congrArg Muck.integ hmuck)).trans hinteg
  · exact (congrArg Kept.drive hkept).trans ((drive_of_kept hukept).trans rfl)
  · exact (congrArg Kept.shoe hkept).trans ((shoe_of_kept hukept).trans rfl)
  · exact (congrArg Kept.ring hkept).trans ((ring_of_kept hukept).trans rfl)
  · exact (congrArg Kept.faults hkept).trans hfaults

end Sys2Proof.Machine
open Sys2Proof Sys2Proof.Machine

/-- Settles O48: torque, line pressure with its band, and chamber pressure with its blind flag, each as delivered; the end of the
event leaves them, and re-examines the band where the reference moves. -/
theorem torqueLineAndChamberSamplesTaken : Obligations.TorqueLineAndChamberSamplesTaken := by
  intro s i raw hconv hscan c f good
  have hexec := exec_conversion (raw := raw) hconv hscan
  refine ⟨fun hf => ?_, fun hf hgood => ?_, fun hf => ?_⟩
  · intro inputs tau
    have hnot : isChamber c.function = false := by
      change isChamber f = false
      rcases hf with hf | hf <;> rw [hf] <;> rfl
    have hinputs : s.inputs.set i ((s.inRec i).converted c raw.toNat (s.timer s.cfg.inputHoldTime)) = inputs := by
      by_cases hg : good
      · rw [converted_of_good hg]
        simp only [inputs, if_pos hg]
      · rw [converted_of_bad hg, hnot]
        simp only [inputs, if_neg hg]
        rfl
    obtain ⟨u, hu⟩ : ∃ u : State, u = { s with converting := s.nextScanned i, inputs := inputs } := ⟨_, rfl⟩
    have hnext : exec (.conversionComplete raw) s = answer (sampleTorque u) := by
      rw [hexec, hu, ← hinputs]
      rcases hf with hf | hf
      · rw [show (s.inCfg i).function = .torqueA from hf]
        rfl
      · rw [show (s.inCfg i).function = .torqueB from hf]
        rfl
    obtain ⟨present, timer, hsample⟩ : ∃ present timer, sampleTorque u = { u with drive := { u.drive with
        tau := clampToNat 0 2000 (u.inputSum .torqueA + u.inputSum .torqueB)
        torqueHigh := decide (u.cfg.tauHigh ≤ clampToNat 0 2000 (u.inputSum .torqueA + u.inputSum .torqueB))
        stallPresent := present, stallTimer := timer } } := ⟨_, _, rfl⟩
    have htau : clampToNat 0 2000 (u.inputSum .torqueA + u.inputSum .torqueB) = tau := by rw [hu]; rfl
    rw [htau] at hsample
    obtain ⟨x, hx⟩ : ∃ x : Drive, x = { s.drive with
      tau := tau, torqueHigh := decide (s.cfg.tauHigh ≤ tau), stallPresent := present, stallTimer := timer } := ⟨_, rfl⟩
    obtain ⟨v, hv⟩ : ∃ v : State, v = { s with converting := s.nextScanned i, inputs := inputs, drive := x } := ⟨_, rfl⟩
    have hsample : sampleTorque u = v := by
      rw [hsample, hv, hx, hu]
    rw [hsample, answer_eq] at hnext
    have hdrive : (finish v).drive = x := by rw [drive_of_kept (kept_finish v), hv]
    have hsettled := settled_finish v
    generalize finish v = t at *
    refine ⟨t, hnext, by rw [hdrive, hx], by rw [hdrive, hx], ?_⟩
    rw [hv] at hsettled
    rw [hdrive, hx]
    rw [hx] at hsettled
    exact hsettled
  · intro p
    rw [delivered_of_good hgood, converted_of_good hgood, show (s.inCfg i).function = .linePressure from hf] at hexec
    obtain ⟨u, hu⟩ : ∃ u : State, u = { s with
      converting := s.nextScanned i
      inputs := s.inputs.set i ⟨scaledValue c raw.toNat, .good, .stopped⟩
      grout := { s.grout with pressure := p, pressureValid := true } } := ⟨_, rfl⟩
    have hnext : exec (.conversionComplete raw) s = answer (examineGroutPressure (examineDerate u)) := by
      rw [hexec, hu]
      rfl
    have hband := bandFollows_examined u
    have hkept : (examineGroutPressure (examineDerate u)).kept = u.kept := (kept_examineDerate u)
    have hevents : (examineGroutPressure (examineDerate u)).events = u.events := by
      change (examineDerate u).events = _
      simp
    generalize examineGroutPressure (examineDerate u) = v at *
    have hfin := (endMoves_finish v).bandFollows hband
    have hend := (kept_finish v).trans hkept
    have hgrows := (Grows.of_eq hevents).trans (grows_finish v)
    have hpressure : (finish v).grout.pressure = p := by rw [linePressure_of_kept hend, hu]
    have hcfg : (finish v).cfg = s.cfg := by rw [cfg_of_kept hend, hu]
    unfold BandFollows at hfin
    rw [hpressure, hcfg] at hfin
    obtain ⟨hderate, hop⟩ := hfin
    refine ⟨finish v, hnext, hderate, hop, ?_⟩
    rw [← hu]
    exact ⟨hend, hgrows.and_eq⟩
  · intro p others screwDecided stands
    obtain ⟨u, hu⟩ : ∃ u : State, u = { s with
      converting := s.nextScanned i
      inputs := s.inputs.set i ((s.inRec i).converted c raw.toNat (s.timer s.cfg.inputHoldTime)) } := ⟨_, rfl⟩
    have hnext : exec (.conversionComplete raw) s = answer (takeChamber (u.muck.chamber f) (chamberAfter (deliveredOf c raw.toNat))
        { u with muck := u.muck.setChamber f (chamberAfter (deliveredOf c raw.toNat)) }) := by
      rw [hexec, ← deliverSample_chamber hf, hu]
    have hrec (t : State) (ht : t.inputs = u.inputs) :
        t.inRec i = (s.inRec i).converted c raw.toNat (s.timer s.cfg.inputHoldTime) := by
      simp only [State.inRec, ht, hu]
      simp
    refine ⟨fun hgood => ?_, fun hbad => ?_⟩
    · rw [delivered_of_good hgood, show chamberAfter (some (scaledValue c raw.toNat)) = .valid p from rfl] at hnext
      obtain ⟨t, ht, hchamber, hblind, hpCh, hinputs, -, hscrew, hothers, hstate, hmass, hinteg, hdrive, hshoe, hring, hfaults⟩ :=
        chamber_taken hf rfl hnext
      rw [chamberPressure_with hf] at hblind hpCh
      subst hu
      refine ⟨t, ht, hchamber, hblind, hpCh.trans ?_, (hrec t hinputs).trans (converted_of_good hgood), hscrew,
        hothers, hstate, hmass, hinteg, hdrive, hshoe, hring, hfaults⟩
      change pressureWith p others = _
      unfold pressureWith
      rfl
    · rw [delivered_of_bad hbad, chamberAfter] at hnext
      obtain ⟨t, ht, hchamber, hblind, hpCh, hinputs, hflag, hscrew, hothers, hstate, hmass, hinteg, hdrive, hshoe, hring, hfaults⟩ :=
        chamber_taken hf rfl hnext
      rw [validValues_without hf] at hblind hpCh
      subst hu
      have hconverted := converted_of_bad (r := s.inRec i) (hold := s.timer s.cfg.inputHoldTime) hbad
      rw [show isChamber (s.inCfg i).function = true from hf, if_pos rfl] at hconverted
      refine ⟨t, ht, hchamber, ?_, ?_, (hrec t hinputs).trans hconverted, fun hne => hflag rfl hne, hscrew,
        hothers, hstate, hmass, hinteg, hdrive, hshoe, hring, hfaults⟩
      · rw [hblind]
        change (chamberPressureOf others).isNone = _
        by_cases hempty : others = []
        · rw [hempty]
          rfl
        · rw [chamberPressure_pair others (length_otherValues hf _) hempty 0]
          simp [hempty]
      · rw [hpCh]
        change (chamberPressureOf others).getD s.muck.pCh = _
        by_cases hempty : others = []
        · rw [hempty]
          rfl
        · rw [chamberPressure_pair others (length_otherValues hf _) hempty s.muck.pCh]
          change pressureOf s.muck.pCh others = _
          unfold pressureOf
          rfl

end

section
/-! The reference of a station without a source through the end of an event (R33), and the expiries of the stale and rate timers
(O45). -/
namespace Sys2Proof.Machine
open Sys2Proof

variable {s t u v e : State} {c : Instr} {w : State → OwnKind → Prop}

/-! ## One kind after the other (R11) -/

/-- A property that the examination of each kind keeps is kept by the publications of an event. -/
theorem settle_keeps {P : State → Prop} (h : ∀ (k : OwnKind) (v : State), k ≠ .stop → P v → P (publishIfChanged k v)) (hs : P s) :
    P (settle s) := by
  have hround (v : State) (hv : P v) : P (publishRound v) := by
    unfold publishRound
    iterate 7 refine h _ _ (by decide) ?_
    exact hv
  exact hround _ (hround _ (hround _ (hround _ hs)))

/-- What an ID carries is read from the configuration and the start alone (R6). -/
theorem changeDue_id_congr (hb : t.boot = s.boot) (hc : t.cfg = s.cfg) (hseen : t.port.seen.get .id = s.port.seen.get .id) :
    t.changeDue .id = s.changeDue .id := by
  have hroles : t.effectiveRoles = s.effectiveRoles := by
    unfold State.effectiveRoles
    rw [hb, hc]
  have hholds (r : Role) : t.holds r = s.holds r := by
    unfold State.holds
    rw [hroles]
  have hcontent : t.content .id = s.content .id := by
    simp only [State.content, State.idBody, State.sectorCode, hholds, hroles, hb, hc]
  unfold State.changeDue
  rw [hcontent, hseen]
  rfl

/-- `v` is `s` in a reference that no source gives, and nothing due in `v` gives one. -/
structure Unsourced (s v : State) : Prop where
  kept  : v.kept = s.kept
  idle  : v.changeDue .id = false
  off   : (v.port.pubTimer.get .screw).on = false
  none  : v.screwSource = none
  stale : v.table.refState ≠ .fresh
  state : v.table.refState = s.table.refState
  pRef  : v.table.pRef = s.table.pRef
  timer : v.table.staleTimer = s.table.staleTimer

theorem Unsourced.of_eq (h : Unsourced s v) (hk : t.kept = v.kept) (hs : t.port.seen.get .id = v.port.seen.get .id)
    (hp : t.port.pubTimer.get .screw = v.port.pubTimer.get .screw) (ht : t.table = v.table) : Unsourced s t := by
  refine ⟨hk.trans h.kept, (changeDue_id_congr (boot_of_kept hk) (cfg_of_kept hk) hs).trans h.idle, by rw [hp]; exact h.off, ?_, ?_, ?_, ?_, ?_⟩
  · unfold State.screwSource
    rw [ht]
    exact h.none
  · rw [ht]
    exact h.stale
  · rw [ht]
    exact h.state
  · rw [ht]
    exact h.pRef
  · rw [ht]
    exact h.timer

theorem Unsourced.withOwn (h : Unsourced s v) {k : OwnKind} (hs : k ≠ .screw) (hi : k ≠ .id) (u : State) :
    Unsourced s (v.withOwn k u) := by
  have htable : (v.withOwn k u).table = { v.table with stations := (v.withOwn k u).table.stations } := putEntry_eq _ _ _
  have hkept : (v.withOwn k u).kept = v.kept := kept_putOwnEntry _ v
  exact ⟨hkept.trans h.kept, (changeDue_id_congr rfl rfl rfl).trans h.idle, h.off, (screwSource_withOwn hs hi).trans h.none,
    by rw [htable]; exact h.stale, (congrArg PeerTable.refState htable).trans h.state,
    (congrArg PeerTable.pRef htable).trans h.pRef, (congrArg PeerTable.staleTimer htable).trans h.timer⟩

theorem Unsourced.tableChanged (h : Unsourced s v) : Unsourced s (tableChanged v) := by
  have href : refreshReference v = v :=
    refreshReference_of_handed (fun b hb => absurd (h.none.symm.trans hb) (by simp)) fun _ => h.stale
  refine h.of_eq (kept_tableChanged v) (by simp) (by simp) ?_
  unfold Machine.tableChanged
  rw [href]
  simp

theorem Unsourced.queued (h : Unsourced s v) {k : OwnKind} (hs : k ≠ .screw) (hi : k ≠ .id) (b : Bulletin) :
    Unsourced s (enqueueKind k b v) :=
  h.of_eq (kept_enqueueKind k b v) (PerKind.get_put_other _ hi _) (PerKind.get_put_other _ hs _) rfl

theorem Unsourced.publishIfChanged (h : Unsourced s v) {k : OwnKind} (hk : k ≠ .stop) : Unsourced s (publishIfChanged k v) := by
  by_cases hid : k = .id
  · subst hid
    rw [publishIfChanged_of_seen h.idle]
    exact h
  · have hmarked : Unsourced s (markSeen k v) :=
      h.of_eq (kept_markSeen k v) (PerKind.get_put_other _ hid _) rfl rfl
    unfold Machine.publishIfChanged
    split
    · split
      · rename_i hon
        have hscrew : k ≠ .screw := by
          rintro rfl
          rw [h.off] at hon
          exact absurd hon (by simp)
        rw [publish_of_ne hk]
        split
        · have htable := (hmarked.withOwn hscrew hid (markSeen k v)).tableChanged
          exact htable.queued hscrew hid _
        · exact hmarked
      · exact hmarked
    · exact h

/-- A reference without a source stands through the end of an event of a station that publishes no SCREW. -/
theorem Unsourced.finish (h : Unsourced s v) : Unsourced s (finish v) := by
  have hsettled := settle_keeps (P := Unsourced s) (fun k u hk hu => hu.publishIfChanged hk) h
  have hgates : Unsourced s (refreshGates (settle v)) :=
    hsettled.of_eq (kept_refreshGates _) (by simp) (by simp) (by simp)
  have hfinish : Machine.finish v = refreshAlarm (refreshGates (settle v)) := rfl
  rw [hfinish]
  generalize refreshGates (settle v) = x at *
  exact hgates.of_eq (kept_refreshAlarm x) rfl rfl rfl

/-! ## The band of the reference (R119) -/

/-- The band limits are those of the reference. -/
def BandOfReference (s : State) : Prop :=
  s.grout.capLo = bandLow s.cfg s.table.pRef ∧ s.grout.capHi = bandHigh s.cfg s.table.pRef

theorem BandOfReference.of_eq (h : BandOfReference s) (hl : t.grout.capLo = s.grout.capLo) (hh : t.grout.capHi = s.grout.capHi)
    (hc : t.cfg = s.cfg) (hp : t.table.pRef = s.table.pRef) : BandOfReference t := by
  unfold BandOfReference
  rw [hl, hh, hc, hp]
  exact h

theorem bandOfReference_setReference {st : RefState} {p : Nat} {x : Timer} (h : p = s.table.pRef → BandOfReference s) :
    BandOfReference (setReference st p x s) := by
  unfold setReference
  dsimp only
  split
  · rename_i hp
    exact (h hp).of_eq rfl rfl rfl hp
  · unfold recomputeBand examineGroutPressure BandOfReference
    simp

theorem EndMoves.bandOfReference (h : EndMoves w s t) (hs : BandOfReference s) : BandOfReference t := by
  refine h.keeps (P := BandOfReference) (fun u v hm hu => ?_) hs
  cases hm with
  | reference =>
    unfold refreshReference
    split
    · exact bandOfReference_setReference fun _ => hu
    · split
      · exact bandOfReference_setReference fun _ => hu
      · exact hu
  | own k =>
    refine hu.of_eq rfl rfl rfl ?_
    rw [putOwnEntry_table]
    exact (congrArg PeerTable.pRef (putEntry_eq _ _ _)).trans rfl
  | marked | queued | machineA => exact hu.of_eq rfl rfl rfl rfl
  | weight | causes | gate | alarm | aRing =>
    refine hu.of_eq ?_ ?_ ?_ ?_
    all_goals simp

end Sys2Proof.Machine

open Sys2Proof Sys2Proof.Machine

/-- Settles O45: without a source the reference stays FALLBACK through the end of the event, and the band with it. -/
theorem staleAndRateExpiries : Obligations.StaleAndRateExpiries := by
  refine ⟨fun s hr hon hnone hoff => ?_, fun s hon => ?_⟩
  · have hexec : exec .staleTimerExpiry s = answer (refreshGates (setReference .fallback s.cfg.pRefFallback .stopped s)) := by
      change execStaleTimerExpiry s = _
      exact if_pos hon
    obtain ⟨x, hx⟩ : ∃ x : State, x = setReference .fallback s.cfg.pRefFallback .stopped s := ⟨_, rfl⟩
    have htable : x.table = { s.table with refState := .fallback, pRef := s.cfg.pRefFallback, staleTimer := .stopped } := by
      rw [hx, table_setReference]
    have hkept : x.kept = s.kept := by rw [hx]; exact kept_setReference _ _ _ s
    have hport : x.port = s.port := by rw [hx]; simp
    have hevents : x.events = s.events := by rw [hx]; simp
    have hun : Unsourced x x := by
      refine ⟨rfl, ?_, ?_, ?_, ?_, rfl, rfl, rfl⟩
      · rw [changeDue_id_congr (boot_of_kept hkept) (cfg_of_kept hkept) (by rw [hport])]
        exact hr.published .id (by decide)
      · rw [hport]
        exact hoff
      · unfold State.screwSource
        rw [htable]
        exact hnone
      · rw [htable]
        simp
    have hend := (hun.of_eq (kept_refreshGates x) (by simp) (by simp) (by simp)).finish
    have hmoves : EndMoves anyKind x (finish (refreshGates x)) :=
      (endMoves_refreshGates .refl).trans (endMoves_finish _).anyKind
    have hgrows := grows_finish (refreshGates x)
    rw [← hx] at hexec
    have hflags : Grows s (finish (refreshGates x)) :=
      (Grows.of_eq (show (refreshGates x).events = s.events by simp [hevents])).trans hgrows
    refine ⟨_, hexec, hend.state.trans (by rw [htable]), hend.pRef.trans (by rw [htable]), hend.timer.trans (by rw [htable]),
      fun hne => ?_, hend.kept.trans hkept, hflags.and_eq⟩
    have hband : BandOfReference x := by
      rw [hx]
      exact bandOfReference_setReference fun h => absurd h.symm hne
    have hbandEnd := hmoves.bandOfReference hband
    unfold BandOfReference at hbandEnd
    rw [hend.pRef, htable, cfg_of_kept hend.kept, cfg_of_kept hkept] at hbandEnd
    exact hbandEnd
  · have hexec : exec .rateTimerExpiry s = answer { s with adv := { s.adv with
        rate := rateOf s.cfg s.adv.aRing s.adv.rateBase
        rateBase := s.adv.aRing
        rateTimer := s.timer s.cfg.rateWindow } } := by
      change execRateTimerExpiry s = _
      exact if_pos hon
    exact gives_of_events hexec rfl rfl

end

section
/-! Currency expiries of the peer table and of the console (O44). -/
namespace Sys2Proof.Machine
open Sys2Proof

variable {s t u v e : State} {c : Instr} {w : State → OwnKind → Prop} {m : Word16}

/-! ## Flags that no end of an event raises (R141, R129) -/

/-- Raising another flag leaves the flags of a mask as they are. -/
theorem flags_raiseEvent {f : EventFlag} (h : f.mask &&& m = 0) (s : State) :
    (raiseEvent f s).events.flags &&& m = s.events.flags &&& m := by
  have hdistrib : (s.events.flags ||| f.mask) &&& m = s.events.flags &&& m ||| f.mask &&& m := by grind
  simp only [raiseEvent]
  rw [hdistrib, h]
  exact BitVec.or_zero

/-- The mask holds none of the flags that the end of an event can raise. -/
structure Untouched (m : Word16) : Prop where
  overdig  : EventFlag.overdig.mask &&& m = 0
  underdig : EventFlag.underdig.mask &&& m = 0
  grease   : EventFlag.greaseOverrun.mask &&& m = 0

theorem flags_recomputeBalance (h : Untouched m) (s : State) :
    (recomputeBalance s).events.flags &&& m = s.events.flags &&& m := by
  have hover (u : State) : (examineOverdig u).events.flags &&& m = u.events.flags &&& m := by
    unfold examineOverdig
    split
    · exact flags_raiseEvent h.overdig _
    · rfl
  have hunder (u : State) : (examineUnderdig u).events.flags &&& m = u.events.flags &&& m := by
    unfold examineUnderdig
    split
    · exact flags_raiseEvent h.underdig _
    · rfl
  unfold recomputeBalance
  split
  · rw [hunder, hover]
  · rfl

theorem flags_takeExpectedMass (h : Untouched m) (x : Nat) (s : State) :
    (takeExpectedMass x s).events.flags &&& m = s.events.flags &&& m := by
  unfold takeExpectedMass
  split
  · exact flags_recomputeBalance h _
  · rfl

theorem flags_issueGrease (h : Untouched m) (s : State) : (issueGrease s).events.flags &&& m = s.events.flags &&& m := by
  have hone (u : State) : (greaseTrigger u).events.flags &&& m = u.events.flags &&& m := by
    unfold greaseTrigger
    split
    · simp [startPulse]
    · rfl
    · exact flags_raiseEvent h.grease _
  have hmany (n : Nat) (u : State) : (greaseTriggers n u).events.flags &&& m = u.events.flags &&& m := by
    induction n generalizing u with
    | zero => rfl
    | succ n ih => exact (ih _).trans (hone u)
  unfold issueGrease
  dsimp only
  split
  · exact hmany _ _
  · rfl

theorem flags_setARing (h : Untouched m) (x : Nat) (s : State) : (setARing x s).events.flags &&& m = s.events.flags &&& m := by
  unfold setARing
  dsimp only
  rw [(frame_countMilestone _).2.2.2.2.2.2.2.2.2.2.2.1, flags_issueGrease h, flags_takeExpectedMass h]
  simp

theorem EndMoves.flags (h : EndMoves w s t) (hm : Untouched m) : t.events.flags &&& m = s.events.flags &&& m :=
  h.keeps (P := fun u => u.events.flags &&& m = s.events.flags &&& m) (fun u v hmove hu => by
    refine Eq.trans ?_ hu
    cases hmove with
    | aRing => exact flags_setARing hm _ _
    | marked | own | queued | machineA | alarm => rfl
    | reference | weight | causes | gate => simp) rfl

theorem untouched_peerLapsed : Untouched EventFlag.peerLapsed.mask := ⟨by decide, by decide, by decide⟩

/-! ## The thrust unit in SILENT (R86) -/

theorem regimeEvent_of_silent (h : s.port.backbone = .silent) : regimeEvent s = s := by
  unfold regimeEvent
  rw [h]
  exact if_neg (by simp)

/-- In SILENT the end of an event leaves the thrust unit alone. -/
theorem EndMoves.thrust_silent (h : EndMoves w s t) (hs : s.port.backbone = .silent) : t.thrust = s.thrust := by
  refine (h.keeps (P := fun u => u.kept = s.kept ∧ u.thrust = s.thrust) (fun u v hm hu => ⟨hm.kept.trans hu.1, ?_⟩) ⟨rfl, rfl⟩).2
  obtain ⟨hkept, hthrust⟩ := hu
  refine Eq.trans ?_ hthrust
  cases hm with
  | causes =>
    unfold refreshCauses
    split
    · rfl
    · rw [regimeEvent_of_silent ((backbone_of_kept hkept).trans hs)]
  | marked | own | queued | machineA | alarm => rfl
  | reference | weight | aRing | gate => simp

theorem shoeMoves_of_silent (h : s.port.backbone = .silent) : s.shoeMoves = false := by
  simp [State.shoeMoves, State.shoeActs, State.jobsRun, h]

theorem thrust_setMode_silent (hs : s.port.backbone = .silent) : (setMode .hold s).thrust = s.thrust := by
  by_cases hm : EffMode.hold = s.table.mode
  · rw [setMode_of_same hm]
  · rw [setMode_of_ne hm, if_neg (by decide)]
    have hback : (s.modeTaken .hold).port.backbone = .silent := by
      obtain ⟨_, _, _, _, hk, -⟩ := kept_modeTaken s .hold
      exact (congrArg Kept.backbone hk).trans hs
    have hthrust : (s.modeTaken .hold).thrust = s.thrust := by
      unfold State.modeTaken
      rw [regimeEvent_of_silent]
      · simp
      · simp [hs]
    unfold abortBuild
    rw [if_neg (by simp [shoeMoves_of_silent hback])]
    simpa using hthrust

/-! ## A slot of another station (R20) -/

theorem exec_stationExpiry {n : Nat} {k : OwnKind} (hon : ((s.table.entry n).currency k).on = true) :
    exec (.slotCurrencyExpiry (.station n k)) s = answer (expireStationSlot n k s) := by
  change execSlotCurrencyExpiry (.station n k) s = _
  unfold execSlotCurrencyExpiry
  exact if_pos hon

theorem exec_consoleExpiry {sl : ConsoleSlot} (hon : (s.table.console.currency sl).on = true) :
    exec (.slotCurrencyExpiry (.console sl)) s = answer (expireConsoleSlot sl s) := by
  change execSlotCurrencyExpiry (.console sl) s = _
  unfold execSlotCurrencyExpiry
  exact if_pos hon

/-- The expiry of a slot lapses the entry (R20). -/
def StationEntry.lapses (e : StationEntry) (k : OwnKind) : Bool := e.liveness == .live && !(e.expire k).anyCurrent

/-- The entry of another station after the expiry of a slot (R20). -/
def StationEntry.expired (e : StationEntry) (k : OwnKind) : StationEntry :=
  if e.lapses k then { e.expire k with liveness := .lapsed } else e.expire k

/-- The state that the expiry leaves the peer table in. -/
def State.slotExpired (s : State) (n : Nat) (k : OwnKind) : State :=
  { s with table := s.table.putEntry n ((s.table.entry n).expired k) }

theorem lapses_iff (e : StationEntry) (k : OwnKind) :
    e.lapses k = true ↔ (e.expire k).liveness = .live ∧ (e.expire k).anyCurrent = false := by
  have hliveness : (e.expire k).liveness = e.liveness := by cases k <;> rfl
  unfold StationEntry.lapses
  rw [hliveness]
  simp

theorem expireStationSlot_eq {n : Nat} (hn : n ≠ s.boot.station) (k : OwnKind) : expireStationSlot n k s =
    if (s.table.entry n).lapses k then raiseEvent .peerLapsed (tableChanged (s.slotExpired n k))
    else tableChanged (s.slotExpired n k) := by
  unfold expireStationSlot State.slotExpired StationEntry.expired
  by_cases h : (s.table.entry n).lapses k = true
  · rw [if_pos h, if_pos h]
    exact if_pos ⟨hn, (lapses_iff _ _).mp h⟩
  · rw [if_neg h, if_neg h]
    exact if_neg fun hall => h ((lapses_iff _ _).mpr hall.2)

/-- A lapse moves no source: the entry's slots and roles stand. -/
theorem screwSource_slotExpired {n : Nat} (h1 : 1 ≤ n) (h15 : n ≤ 15) (k : OwnKind) : (s.slotExpired n k).screwSource =
    ({ s with table := s.table.putEntry n ((s.table.entry n).expire k) } : State).screwSource := by
  have hcounts (e : StationEntry) : (e.expired k).counts .screw (e.expired k).screw = (e.expire k).counts .screw (e.expire k).screw := by
    unfold StationEntry.expired
    split <;> rfl
  unfold State.screwSource
  refine congrArg List.head? (filterMap_numbered _ fun m => ?_)
  by_cases hm : n = m
  · subst hm
    exact (congrArg (fun x : StationEntry => x.counts .screw x.screw) (putEntry_entry_self _ _ h1 h15)).trans
      ((hcounts _).trans (congrArg (fun x : StationEntry => x.counts .screw x.screw) (putEntry_entry_self _ _ h1 h15)).symm)
  · exact congrArg (fun x : StationEntry => x.counts .screw x.screw)
      ((putEntry_entry_other _ _ hm).trans (putEntry_entry_other _ _ hm).symm)

/-- What the expiry of a slot of another station leaves behind (R20, R33). -/
theorem slotExpired_taken {n : Nat} {k : OwnKind} (hn : n ≠ s.boot.station) :
    (expireStationSlot n k s).kept = (s.slotExpired n k).kept ∧
      (∃ x : Word16, (expireStationSlot n k s).events.flags =
        (if (s.table.entry n).lapses k then s.events.flags ||| EventFlag.peerLapsed.mask else s.events.flags) ||| x) ∧
      (expireStationSlot n k s).table = (refreshReference (s.slotExpired n k)).table ∧
      (expireStationSlot n k s).port.seen = s.port.seen ∧ (expireStationSlot n k s).port.pubTimer = s.port.pubTimer := by
  obtain ⟨y, hy⟩ : ∃ y : State, y = s.slotExpired n k := ⟨_, rfl⟩
  have hflags : y.events.flags = s.events.flags := by rw [hy]; rfl
  have hport : y.port = s.port := by rw [hy]; rfl
  obtain ⟨x, hx⟩ := grows_tableChanged y
  have htable : (tableChanged y).table = (refreshReference y).table := by simp [tableChanged]
  have hseen : (tableChanged y).port.seen = s.port.seen := by rw [← hport]; simp
  have htimer : (tableChanged y).port.pubTimer = s.port.pubTimer := by rw [← hport]; simp
  have hkept := kept_tableChanged y
  rw [expireStationSlot_eq hn, ← hy]
  generalize tableChanged y = z at *
  by_cases hl : (s.table.entry n).lapses k = true
  · rw [if_pos hl, if_pos hl]
    refine ⟨hkept, ⟨x, ?_⟩, htable, hseen, htimer⟩
    change z.events.flags ||| EventFlag.peerLapsed.mask = _
    rw [hx, hflags]
    grind
  · rw [if_neg hl, if_neg hl]
    exact ⟨hkept, ⟨x, by rw [hx, hflags]⟩, htable, hseen, htimer⟩

/-- In SILENT no currency expiry moves the thrust unit before the end of its event (R86). -/
theorem thrust_slotExpiry_silent (slot : SlotRef) (hs : s.port.backbone = .silent) :
    exec (.slotCurrencyExpiry slot) s = .next s ∨
      ∃ z, exec (.slotCurrencyExpiry slot) s = answer z ∧ z.port.backbone = .silent ∧ z.thrust = s.thrust := by
  cases slot with
  | station n k =>
    by_cases hon : ((s.table.entry n).currency k).on = true
    · refine .inr ⟨_, exec_stationExpiry hon, ?_⟩
      obtain ⟨y, hb, ht, hy⟩ : ∃ y, y.port.backbone = .silent ∧ y.thrust = s.thrust ∧
          (expireStationSlot n k s = raiseEvent .peerLapsed (tableChanged y) ∨ expireStationSlot n k s = tableChanged y) := by
        unfold expireStationSlot
        dsimp only
        split
        · refine ⟨_, ?_, ?_, .inl rfl⟩
          · exact hs
          · rfl
        · refine ⟨_, ?_, ?_, .inr rfl⟩
          · exact hs
          · rfl
      have hback := (backbone_of_kept (kept_tableChanged y)).trans hb
      have hthrust := ((endMoves_tableChanged (w := anyKind) (.refl (a := y))).thrust_silent hb).trans ht
      generalize tableChanged y = z at *
      rcases hy with hy | hy
      · rw [hy]
        exact ⟨hback, hthrust⟩
      · rw [hy]
        exact ⟨hback, hthrust⟩
    · exact .inl ((if_neg hon : execSlotCurrencyExpiry (.station n k) s = _))
  | console sl =>
    by_cases hon : (s.table.console.currency sl).on = true
    · refine .inr ⟨_, exec_consoleExpiry hon, ?_⟩
      obtain ⟨y, hy⟩ : ∃ y : State, y = { s with table := { s.table with console := s.table.console.expire sl } } := ⟨_, rfl⟩
      have hback : y.port.backbone = .silent := by rw [hy]; exact hs
      have hthrust : y.thrust = s.thrust := by rw [hy]
      have hgates (x : State) (hx : x.port.backbone = .silent) (ht : x.thrust = s.thrust) :
          (refreshGates x).port.backbone = .silent ∧ (refreshGates x).thrust = s.thrust :=
        ⟨(backbone_of_kept (kept_refreshGates x)).trans hx, by simpa using ht⟩
      obtain ⟨_, _, _, _, _, hk, -⟩ := kept_setMode .hold y
      have hheld := hgates _ ((congrArg Kept.backbone hk).trans hback) ((thrust_setMode_silent hback).trans hthrust)
      have hstands := hgates y hback hthrust
      unfold expireConsoleSlot
      dsimp only
      rw [← hy]
      generalize refreshGates (setMode .hold y) = p at *
      generalize refreshGates y = q at *
      cases sl with
      | mode => exact hheld
      | setpoint | build | stop => exact hstands
    · exact .inl ((if_neg hon : execSlotCurrencyExpiry (.console sl) s = _))

end Sys2Proof.Machine


open Sys2Proof Sys2Proof.Machine

/-- Settles O44: the slot's expiry, the lapse it makes, and the reference or the mode that follow, through the end of the event. -/
theorem slotExpiryLapses : Obligations.SlotExpiryLapses := by
  refine ⟨fun s n k h1 h15 hn hon => ?_, fun s k h1 h15 hon => ?_, fun s slot hslot hon => ?_, fun s hon => ?_, fun s slot hs => ?_⟩
  · intro e lapses
    have hexec := exec_stationExpiry hon
    obtain ⟨hkept, ⟨x, hflags⟩, htable, hseen, htimer⟩ := slotExpired_taken (k := k) hn
    obtain ⟨z, hz⟩ : ∃ z, z = expireStationSlot n k s := ⟨_, rfl⟩
    rw [← hz] at hexec hkept hflags htable hseen htimer
    have hexpired : (s.table.entry n).expired k = if lapses then { e with liveness := .lapsed } else e := rfl
    obtain ⟨y, hy⟩ : ∃ y : State, y = s.slotExpired n k := ⟨_, rfl⟩
    rw [← hy] at hkept htable
    have hztable : z.table.stations = y.table.stations := by
      rw [htable]
      simp
    have hboot : z.boot = s.boot := (boot_of_kept hkept).trans (by rw [hy]; rfl)
    have hcfg : z.cfg = s.cfg := (cfg_of_kept hkept).trans (by rw [hy]; rfl)
    refine ⟨finish z, hexec, ?_, ⟨(kept_finish z).trans (hkept.trans (by rw [hy]; rfl)), ?_⟩, fun hr hoff hfresh hnone => ?_⟩
    · rw [entry_finish (by rw [hboot]; exact hn), entry_congr hztable, hy]
      exact (putEntry_entry_self _ _ h1 h15).trans hexpired
    · have hgrows : Grows { s with
          table := s.table.putEntry n (if lapses then { e with liveness := .lapsed } else e)
          events := { s.events with flags :=
            if lapses then s.events.flags ||| EventFlag.peerLapsed.mask else s.events.flags } } z := ⟨x, hflags⟩
      exact (hgrows.trans (grows_finish z)).and_eq
    · have hynone : y.screwSource = none := by rw [hy, screwSource_slotExpired h1 h15]; exact hnone
      have hytable : y.table = { s.table with stations := y.table.stations } := by
        rw [hy]
        exact putEntry_eq _ _ _
      have hyfresh : y.table.refState = .fresh := (congrArg PeerTable.refState hytable).trans hfresh
      have hyp : y.table.pRef = s.table.pRef := (congrArg PeerTable.pRef hytable).trans rfl
      have hytimer : y.timer (10 * y.cfg.lapseTime) = s.timer (10 * s.cfg.lapseTime) := by rw [hy]; rfl
      have hzt : z.table = { y.table with
          refState := .stale, pRef := s.table.pRef, staleTimer := s.timer (10 * s.cfg.lapseTime) } := by
        rw [htable]
        unfold refreshReference
        rw [hynone]
        dsimp only
        rw [if_pos hyfresh, table_setReference, hyp, hytimer]
      have hun : Unsourced z z := by
        refine ⟨rfl, ?_, by rw [htimer]; exact hoff, ?_, by rw [hzt]; simp, rfl, rfl, rfl⟩
        · rw [changeDue_id_congr hboot hcfg (by rw [hseen])]
          exact hr.published .id (by decide)
        · unfold State.screwSource
          rw [hzt]
          exact hynone
      have hend := hun.finish
      exact ⟨hend.state.trans (by rw [hzt]), hend.pRef.trans (by rw [hzt]), hend.timer.trans (by rw [hzt])⟩
  · have hexec := exec_stationExpiry (n := s.boot.station) hon
    obtain ⟨y, hy⟩ : ∃ y : State, y = { s with table := s.table.putEntry s.boot.station (s.ownEntry.expire k) } := ⟨_, rfl⟩
    have hown : expireStationSlot s.boot.station k s = tableChanged y := by
      rw [hy]
      exact if_neg fun h => h.1 rfl
    have hkept : y.kept = s.kept := by rw [hy]; exact kept_putOwnEntry _ s
    have hentry : y.ownEntry = s.ownEntry.expire k := by
      rw [hy]
      exact putEntry_entry_self _ _ h1 h15
    have hflags : y.events.flags = s.events.flags := by rw [hy]
    have hboot : y.boot = s.boot := boot_of_kept hkept
    have hsettled := settled_finish_tableChanged y
    have hmoves : EndMoves anyKind y (finish (tableChanged y)) :=
      (endMoves_tableChanged .refl).trans (endMoves_finish _).anyKind
    rw [hown, hy] at hexec
    refine ⟨_, hexec, rfl, ?_, ?_, ?_, ?_⟩
    all_goals rw [← hy]
    · obtain ⟨hk, hf⟩ := hsettled
      rw [hflags] at hf
      exact ⟨hk.trans hkept, hf⟩
    · refine hmoves.ownEntry (by rw [hboot]; exact h1) (by rw [hboot]; exact h15)
        (P := fun e => e.currency k = .stopped ∨ e.currency k = s.timer s.cfg.lapseTime) (fun u j _ _ hu => ?_) ?_
      · rw [currency_write, timer_of_kept hkept, cfg_of_kept hkept]
        split
        · exact .inr rfl
        · exact hu
      · rw [hentry]
        exact .inl (by cases k <;> rfl)
    · refine hmoves.ownEntry (by rw [hboot]; exact h1) (by rw [hboot]; exact h15)
        (P := fun e => e.liveness = s.ownEntry.liveness) (fun u j _ _ hu => ?_) ?_
      · refine Eq.trans ?_ hu
        cases j <;> rfl
      · rw [hentry]
        cases k <;> rfl
    · rw [hmoves.flags untouched_peerLapsed, hflags]
  · have hexec : exec (.slotCurrencyExpiry (.console slot)) s =
        answer (refreshGates { s with table := { s.table with console := s.table.console.expire slot } }) := by
      rw [exec_consoleExpiry hon]
      cases slot with
      | mode => exact absurd rfl hslot
      | setpoint | build | stop => rfl
    refine gives_of_events hexec ((kept_refreshGates _).trans ?_) (by simp)
    cases slot with
    | mode => exact absurd rfl hslot
    | setpoint | build | stop => rfl
  · have hexec := exec_consoleExpiry (sl := .mode) hon
    obtain ⟨y, hy⟩ : ∃ y : State, y = { s with table := { s.table with console := s.table.console.expire .mode } } := ⟨_, rfl⟩
    have hexpire : expireConsoleSlot .mode s = raiseEvent .consoleLapsed (refreshGates (setMode .hold y)) := by rw [hy]; rfl
    obtain ⟨sh, st, cmd, out, l, hk, -⟩ := kept_setMode .hold y
    obtain ⟨z, hz⟩ : ∃ z, z = raiseEvent .consoleLapsed (refreshGates (setMode .hold y)) := ⟨_, rfl⟩
    have hraised : z.events.flags &&& EventFlag.consoleLapsed.mask = EventFlag.consoleLapsed.mask := by
      rw [hz]
      exact raised_mask _ _
    rw [hexpire, ← hz] at hexec
    have hzkept : z.kept = (setMode .hold y).kept := by
      rw [hz]
      exact (kept_raiseEvent _ _).trans (kept_refreshGates _)
    have hkept := (kept_finish z).trans (hzkept.trans hk)
    have hflag := (grows_finish z).mask hraised
    have hexec : exec (.slotCurrencyExpiry (.console .mode)) s = .next (finish z) := hexec
    generalize finish z = t at *
    refine ⟨t, hexec, congrArg Kept.mode hkept, (congrArg Kept.console hkept).trans (by rw [hy]; rfl), hflag,
      (congrArg Kept.drive hkept).trans (by rw [hy]; rfl), (congrArg Kept.ring hkept).trans (by rw [hy]; rfl),
      (congrArg Kept.rx hkept).trans (by rw [hy]; rfl), (congrArg Kept.faults hkept).trans (by rw [hy]; rfl),
      (congrArg Kept.stopped hkept).trans (by rw [hy]; rfl)⟩
  · rcases thrust_slotExpiry_silent slot hs with hexec | ⟨z, hexec, hback, hthrust⟩
    · exact ⟨s, hexec, rfl⟩
    · exact ⟨finish z, hexec, ((endMoves_finish z).thrust_silent hback).trans hthrust⟩

end

section
/-! A peer's bulletin taken (O32). -/
namespace Sys2Proof.Machine
open Sys2Proof

variable {s t u v e : State} {c : Instr} {w : State → OwnKind → Prop}

/-! ## The reference of the source (R33) -/

/-- A counted SCREW slot gives the reference. -/
def Sourced (s : State) : Prop := ∀ b, s.screwSource = some b →
  s.table.refState = .fresh ∧ s.table.pRef = b.pCh ∧ s.table.staleTimer = .stopped

theorem Sourced.of_table (h : Sourced s) (ht : t.table = s.table) : Sourced t := by
  unfold Sourced State.screwSource
  rw [ht]
  exact h

theorem sourced_refreshReference (s : State) : Sourced (refreshReference s) := by
  intro b hb
  have hsource : s.screwSource = some b := by
    refine Eq.trans ?_ hb
    refine congrArg List.head? (filterMap_numbered _ fun n => ?_)
    have hentry : (refreshReference s).table.entry n = s.table.entry n := entry_congr (by simp) n
    dsimp only
    rw [hentry]
  unfold refreshReference
  rw [hsource]
  dsimp only
  rw [table_setReference]
  exact ⟨rfl, rfl, rfl⟩

theorem table_tableChanged (s : State) : (tableChanged s).table = (refreshReference s).table := by simp [tableChanged]

theorem sourced_tableChanged (s : State) : Sourced (tableChanged s) :=
  (sourced_refreshReference s).of_table (table_tableChanged s)

theorem Sourced.publishIfChanged (h : Sourced s) {k : OwnKind} (hk : k ≠ .stop) : Sourced (publishIfChanged k s) := by
  have hmarked : Sourced (markSeen k s) := h.of_table rfl
  unfold Machine.publishIfChanged
  split
  · split
    · rw [publish_of_ne hk]
      split
      · have htable := sourced_tableChanged ((markSeen k s).withOwn k (markSeen k s))
        generalize tableChanged ((markSeen k s).withOwn k (markSeen k s)) = x at *
        exact htable.of_table rfl
      · exact hmarked
    · exact hmarked
  · exact h

theorem Sourced.finish (h : Sourced s) : Sourced (finish s) := by
  have hsettled : Sourced (settle s) := settle_keeps (fun k u hk hu => Sourced.publishIfChanged hu hk) h
  have hfinish : Machine.finish s = refreshAlarm (refreshGates (settle s)) := rfl
  have hgates : Sourced (refreshGates (settle s)) := hsettled.of_table (by simp)
  rw [hfinish]
  generalize refreshGates (settle s) = x at *
  exact hgates.of_table rfl

/-! ## The tests of the hold-off (R95, R96) -/

theorem numbered_congr {p q : PeerTable} (h : q.stations = p.stations) : q.numbered = p.numbered := by
  unfold PeerTable.numbered
  exact List.map_congr_left fun n _ => by rw [entry_congr h]

/-- The tests read the entries, the own number, the sectors and the required hold force. -/
theorem firstFailing_congr (hs : t.table.stations = s.table.stations) (hb : t.boot = s.boot) (hc : t.cfg = s.cfg)
    (hf : t.thrust.fReq = s.thrust.fReq) : t.firstFailing = s.firstFailing := by
  have hnumbered := numbered_congr hs
  have hothers : t.others = s.others := by
    unfold State.others
    rw [hnumbered, hb]
  have hblocking : t.blockingClaims = s.blockingClaims := by
    unfold State.blockingClaims
    rw [hothers]
  have hsector : t.sectorCode = s.sectorCode := by
    unfold State.sectorCode
    rw [hc]
  have hneighbour : t.neighbourBlock = s.neighbourBlock := by
    unfold State.neighbourBlock
    rw [hblocking, hsector, hc]
  have hretracted : t.retractedCount = s.retractedCount := by
    unfold State.retractedCount
    rw [hblocking]
  have hpriority : t.priorityBlock = s.priorityBlock := by
    unfold State.priorityBlock
    rw [hnumbered, hb, hsector, hc]
  have hceiling : t.engagedCeilingSum = s.engagedCeilingSum := by
    unfold State.engagedCeilingSum
    rw [hothers]
  unfold State.firstFailing
  rw [hneighbour, hretracted, hpriority, hceiling, hc, hf]

theorem kept_refreshWait (s : State) :
    (refreshWait s).kept = { s.kept with shoe := { s.shoe with wait := (refreshWait s).shoe.wait } } := by
  unfold refreshWait
  split <;> rfl

/-! ## The bulletins of a peer (R19) -/

/-- The kinds that BULLETIN_TAKEN takes from another station. -/
def IsPeerKind (b : Bulletin) : Prop := b.code = 1 ∨ b.code = 6 ∨ b.code = 7 ∨ b.code = 8 ∨ b.code = 9 ∨ b.code = 10

theorem entryTaken_peer {b : Bulletin} (hb : IsPeerKind b) (s : State) (n : Nat) :
    s.entryTaken n b = { (s.table.entry n).write (s.timer s.cfg.lapseTime) b with liveness := .live } := by
  unfold State.entryTaken
  cases b with
  | id => simp [IsPeerKind, Bulletin.code] at hb
  | stop | claim | build | mode | setpoint | service | thrust | drive | screw | grout | status => rfl

/-- A peer's bulletin is handed to the hold-off alone, and only a CLAIM is. -/
theorem exec_bulletinTaken_peer {n : Nat} {b : Bulletin} {rest : List RxFrame} (hrx : s.port.rx = ⟨n, b⟩ :: rest)
    (hb : IsPeerKind b) : exec .bulletinTaken s =
      answer (if b.code = 1 then refreshWait (takeContent n b { s with port := { s.port with rx := rest } })
        else takeContent n b { s with port := { s.port with rx := rest } }) := by
  rw [← popFrame_of_rx hrx]
  change execBulletinTaken s = _
  unfold execBulletinTaken
  rw [hrx]
  cases b with
  | claim b => rfl
  | thrust b | drive b | screw b | grout b | status b => rfl
  | id | stop | build | mode | setpoint | service => simp [IsPeerKind, Bulletin.code] at hb

end Sys2Proof.Machine

open Sys2Proof Sys2Proof.Machine

/-- Settles O32: the slot and the reference of its table, and the hold-off's tests taken with the CLAIM in its slot. -/
theorem peerBulletinFillsSlot : Obligations.PeerBulletinFillsSlot := by
  intro s n b rest hrx h1 h15 hn hkind
  have hn0 : n ≠ 0 := by omega
  have hexec := exec_bulletinTaken_peer hrx hkind
  obtain ⟨p, hp⟩ : ∃ p : State, p = { s with port := { s.port with rx := rest } } := ⟨_, rfl⟩
  rw [← hp] at hexec
  have hentry : p.entryTaken n b = { (s.table.entry n).write (s.timer s.cfg.lapseTime) b with liveness := .live } := by
    rw [entryTaken_peer hkind, hp]
    rfl
  obtain ⟨u, hu⟩ : ∃ u : State, u = { s with
    port := { s.port with rx := rest }
    table := s.table.putEntry n { (s.table.entry n).write (s.timer s.cfg.lapseTime) b with liveness := .live } } := ⟨_, rfl⟩
  have hkept : (takeContent n b p).kept = u.kept := by
    rw [kept_takeStation hn0, hentry, hu, hp]
  have hstations : (takeContent n b p).table.stations = u.table.stations := by
    rw [stations_takeStation hn0, hentry, hu, hp]
  have hsourced : Sourced (takeContent n b p) := by
    unfold takeContent takeStation
    rw [if_neg hn0]
    exact sourced_tableChanged _
  have hgrows : Grows u (takeContent n b p) := by
    refine grows_takeStation hn0 b ?_
    have hforeign : foreignAfter p.boot.digest (p.table.entry n).foreign b = (p.table.entry n).foreign := by
      cases b with
      | id => simp [Bulletin.code] at hkind
      | stop | claim | build | mode | setpoint | service | thrust | drive | screw | grout | status => rfl
    rw [hforeign, if_neg (by simp), hu, hp]
  generalize takeContent n b p = v at *
  obtain ⟨z, hz⟩ : ∃ z, z = if b.code = 1 then refreshWait v else v := ⟨_, rfl⟩
  rw [← hz] at hexec
  have hzkept : z.kept = { v.kept with shoe := { v.shoe with wait := z.shoe.wait } } := by
    rw [hz]
    split
    · exact kept_refreshWait v
    · rfl
  have hztable : z.table = v.table := by
    rw [hz]
    split
    · unfold refreshWait
      split <;> rfl
    · rfl
  have hzevents : z.events = v.events := by
    rw [hz]
    split
    · unfold refreshWait
      split <;> rfl
    · rfl
  have hzboot : z.boot = s.boot := (congrArg Kept.boot hzkept).trans ((boot_of_kept hkept).trans (by rw [hu]))
  have hvshoe : v.shoe = s.shoe := (shoe_of_kept hkept).trans (by rw [hu])
  have hwait : (finish z).shoe = z.shoe := shoe_of_kept (kept_finish z)
  have hmoves : v.shoeMoves = s.shoeMoves := (shoeMoves_of_kept hkept).trans (by rw [hu]; rfl)
  have hfinish := kept_finish z
  have hsource := (hsourced.of_table hztable).finish
  have hlast := entry_finish (s := z) (n := n) (by rw [hzboot]; exact hn)
  have hend := (hgrows.trans (Grows.of_eq hzevents)).trans (grows_finish z)
  have hexec : exec .bulletinTaken s = .next (finish z) := hexec
  generalize finish z = t at *
  refine ⟨t, hexec, ?_, ⟨?_, ?_⟩, hsource, fun hclaim hm hst => ?_, fun hother => ?_⟩
  · rw [hlast, hztable, entry_congr hstations, hu]
    exact putEntry_entry_self _ _ h1 h15
  · rw [hfinish, hzkept, hkept, hvshoe, ← hwait, hu]
    rfl
  · have := hend.and_eq
    rw [hu] at this
    exact this
  · rw [hwait, hz, if_pos hclaim]
    unfold refreshWait
    rw [if_pos (by rw [hmoves, hm, hvshoe, hst]; rfl)]
    dsimp only
    rw [firstFailing_congr hstations (boot_of_kept hkept) (cfg_of_kept hkept) (fReq_of_kept hkept), hu]
    rfl
  · rw [hwait, hz]
    split
    · rename_i hclaim
      unfold refreshWait
      rw [if_neg, hvshoe]
      rw [hmoves, hvshoe]
      rcases hother with h | h | h
      · exact absurd hclaim h
      · simp [h]
      · simp [h]
    · rw [hvshoe]

end

section
/-! The completion of a restore (R174): the pending write, the entry to JOINING and the end of the event (O25). -/
namespace Sys2Proof.Machine
open Sys2Proof

variable {s t u v e x : State} {c : Instr} {w : State → OwnKind → Prop}

/-! ## A station that has heard no GROUT (R28, R114) -/

/-- A GROUT is written into the own entry only while its timer runs. -/
def groutWhileDue (s : State) (k : OwnKind) : Prop := k = .grout → (s.port.pubTimer.get .grout).on = true

/-- No entry holds a GROUT content. -/
def NoGrout (s : State) : Prop := ∀ n, (s.table.entry n).grout.content = none

theorem liveWeight_of_noGrout (h : NoGrout s) : s.liveWeight = 0 := by
  have hzero (p : Nat × StationEntry) (hp : p ∈ s.table.numbered) : s.weightOf p.2 = 0 := by
    obtain ⟨n, -, rfl⟩ := List.mem_map.mp hp
    unfold State.weightOf StationEntry.counts Slot.now?
    simp [h n]
  unfold State.liveWeight
  rw [List.sum_eq_zero]
  intro y hy
  obtain ⟨p, hp, rfl⟩ := List.mem_map.mp hy
  exact hzero p hp

theorem grout_write (e : StationEntry) (y : Timer) {k : OwnKind} (hk : k ≠ .grout) (u : State) :
    (e.write y (u.content k)).grout = e.grout := by
  cases k with
  | grout => exact absurd rfl hk
  | stop | claim | thrust | drive | screw | status | id => rfl

/-- Outside EXCAVATE the target of a station that hears and publishes no GROUT stands. -/
theorem EndMoves.target (h : EndMoves groutWhileDue s t) (hm : s.table.mode ≠ .excavate)
    (hoff : (s.port.pubTimer.get .grout).on = false) (hw : s.grout.weight = 0) (hn : NoGrout s) :
    t.grout.target = s.grout.target := by
  refine (h.keeps (P := fun u => u.kept = s.kept ∧ (u.port.pubTimer.get .grout).on = false ∧ u.grout.weight = 0 ∧ NoGrout u ∧
    u.grout.target = s.grout.target) (fun u v hmove hu => ?_) ⟨rfl, hoff, hw, hn, rfl⟩).2.2.2.2
  obtain ⟨hkept, hoff, hw, hn, ht⟩ := hu
  refine ⟨hmove.kept.trans hkept, ?_, ?_⟩
  · rw [EndMoves.pubTimer_off (.single hmove) hoff]
    exact hoff
  · have hsame (hg : v.grout.weight = u.grout.weight) (htarget : v.grout.target = u.grout.target)
        (hstations : v.table.stations = u.table.stations) :
        v.grout.weight = 0 ∧ NoGrout v ∧ v.grout.target = s.grout.target :=
      ⟨hg.trans hw, fun n => by rw [entry_congr hstations]; exact hn n, htarget.trans ht⟩
    cases hmove with
    | own k hk hb hdue =>
      have hkind : k ≠ .grout := fun hg => by
        rw [hdue hg] at hoff
        exact absurd hoff (by simp)
      refine ⟨hw, fun n => ?_, ht⟩
      rcases entry_putOwnEntry (u.ownEntry.write (u.timer u.cfg.lapseTime) (u.content k)) u n with he | ⟨hnum, he⟩
      · rw [he]
        exact hn n
      · rw [he, grout_write _ _ hkind]
        exact hn _
    | aRing hex => exact absurd (by rw [← mode_of_kept hkept]; exact hex) hm
    | weight =>
      rw [show refreshWeight u = u from refreshWeight_of_handed fun _ => by rw [liveWeight_of_noGrout hn, hw]]
      exact ⟨hw, hn, ht⟩
    | marked | queued | machineA | alarm => exact hsame rfl rfl rfl
    | reference | causes | gate =>
      refine hsame ?_ ?_ ?_
      all_goals simp

theorem noGrout_of_stations (h : ∀ n ∈ stationNumbers, (s.table.entry n).grout.content = none) : NoGrout s := by
  intro n
  by_cases hn : n ∈ stationNumbers
  · exact h n hn
  · unfold PeerTable.entry
    split
    · rw [List.getD_eq_default]
      · rfl
      · simp only [stationNumbers, List.mem_cons, List.not_mem_nil, or_false, not_or] at hn
        simp only [Vector.length_toList]
        omega
    · rfl

/-! ## The completion (R173, R174) -/

/-- A write left pending moves the memory port alone. -/
theorem startPendingWrite_mem (s : State) : ∃ m, startPendingWrite s = { s with mem := m } ∧
    m.seq = (if s.mem.inFlight = none ∧ s.mem.faultPending = false ∧ s.mem.recordPending = true then (s.mem.seq + 1) % 65536
      else s.mem.seq) ∧
    m.image = s.mem.image ∧ m.record = s.mem.record ∧ m.recordTorn = s.mem.recordTorn ∧ m.faultCopy = s.mem.faultCopy := by
  cases hfree : s.mem.inFlight with
  | some y =>
    refine ⟨s.mem, ?_, by simp, rfl, rfl, rfl, rfl⟩
    unfold startPendingWrite
    rw [hfree]
    rfl
  | none =>
    have heq := startPendingWrite_eq (bytes := s.recordBytes) hfree fun _ => rfl
    refine ⟨_, heq, ?_⟩
    by_cases hf : s.mem.faultPending = true
    · simp [hf]
    · by_cases hr : s.mem.recordPending = true
      · simp [hf, hr]
      · simp [hf, hr]

theorem refreshPubTimers_eq (s : State) : ∃ p, refreshPubTimers s = { s with port := p } := by
  have hone (k : OwnKind) (u : State) (p : Port) : ∃ q, refreshPubTimer k { u with port := p } = { u with port := q } := by
    unfold refreshPubTimer
    dsimp only
    split
    · exact ⟨_, rfl⟩
    · split <;> exact ⟨_, rfl⟩
  unfold refreshPubTimers
  obtain ⟨_, h1⟩ := hone .stop s s.port
  obtain ⟨_, h2⟩ := hone .claim s _
  obtain ⟨_, h3⟩ := hone .thrust s _
  obtain ⟨_, h4⟩ := hone .drive s _
  obtain ⟨_, h5⟩ := hone .screw s _
  obtain ⟨_, h6⟩ := hone .grout s _
  obtain ⟨_, h7⟩ := hone .status s _
  obtain ⟨_, h8⟩ := hone .id s _
  exact ⟨_, by rw [show s = { s with port := s.port } from rfl, h1, h2, h3, h4, h5, h6, h7, h8]⟩

/-- The state that enters JOINING, the memory port as `m` (R15, R46). -/
def State.joined (x : State) (m : MemPort) : State :=
  { x with
    boot := { x.boot with phase := .done }
    port := { x.port with backbone := .joining, joinTimer := x.timer x.cfg.joinWindow }
    adv := { x.adv with rateTimer := x.timer x.cfg.rateWindow }
    mem := m }

/-- What the completion of a restore leaves of the restored state `x`. -/
structure Joined (x t : State) : Prop where
  kept   : t.kept = (x.joined { x.mem with faultPending := t.mem.faultPending }).kept
  flags  : Grows x t
  ring   : x.table.mode ≠ .excavate → t.adv.aRing = x.adv.aRing ∧ t.adv.void = x.adv.void ∧ t.adv.mExp = x.adv.mExp ∧
    t.adv.grease = x.adv.grease ∧ t.adv.milestones = x.adv.milestones ∧ t.grout.void = x.grout.void
  muck   : x.table.mode ≠ .excavate → t.muck.mExp = x.muck.mExp ∧ t.muck.balance = x.muck.balance ∧
    t.muck.overdig = x.muck.overdig ∧ t.muck.underdig = x.muck.underdig
  target : x.table.mode ≠ .excavate → x.grout.weight = 0 → NoGrout x → t.grout.target = x.grout.target
  seq    : x.table.mode ≠ .excavate → t.mem.seq =
    (if x.mem.inFlight = none ∧ x.mem.faultPending = false ∧ x.mem.recordPending = true then (x.mem.seq + 1) % 65536
      else x.mem.seq)

theorem joined_finish (x : State) : Joined x (finish (completeRestore x)) := by
  obtain ⟨m, hstart, hseq, himage, hrecord, htorn, hcopy⟩ := startPendingWrite_mem { x with boot := { x.boot with phase := .done } }
  have hjoin : completeRestore x = publish .status (publish .id (refreshPubTimers (x.joined m))) := by
    unfold completeRestore
    rw [hstart]
    rfl
  obtain ⟨p, hp⟩ := refreshPubTimers_eq (x.joined m)
  have hdue := pubTimer_refreshPubTimers .grout (x.joined m)
  have hkeptj := kept_refreshPubTimers (x.joined m)
  have hoff : (x.joined m).pubDue .grout = false := by simp [State.pubDue, State.jobsRun, State.joined]
  rw [hoff] at hdue
  obtain ⟨q, hq⟩ : ∃ q, q = refreshPubTimers (x.joined m) := ⟨_, rfl⟩
  rw [← hq] at hjoin hp hdue hkeptj
  have hpublished : EndMoves groutWhileDue q (publish .status (publish .id q)) :=
    endMoves_publish (k := .status) (by decide) (fun _ hg => absurd hg (by decide))
      (endMoves_publish (k := .id) (by decide) (fun _ hg => absurd hg (by decide)) .refl)
  have hend (r : State) : EndMoves groutWhileDue r (finish r) :=
    (endMoves_finish r).lift id fun a b hab => hab.mono fun u k hk hg => by
      rw [← hg]
      exact hk.1
  have hmoves : EndMoves groutWhileDue q (finish (completeRestore x)) := by
    rw [hjoin]
    exact hpublished.trans (hend _)
  have hgrows : Grows q (finish (completeRestore x)) := by
    rw [hjoin]
    exact (grows_publish (by decide) q).trans ((grows_publish (by decide) _).trans (grows_finish _))
  generalize finish (completeRestore x) = t at *
  have hquiet (hmode : x.table.mode ≠ .excavate) : Quiet q t := hmoves.quiet (by rw [hp]; exact hmode)
  have hkept := hmoves.kept.trans hkeptj
  refine ⟨?_, ?_, fun hmode => ?_, fun hmode => ?_, fun hmode hw hn => ?_, fun hmode => ?_⟩
  · have hfault : t.mem.faultPending = m.faultPending := (faultPending_of_kept hkept).trans rfl
    rw [hkept, hfault]
    simp only [State.kept, State.joined, himage, hrecord, htorn, hcopy]
    rfl
  · exact (Grows.of_eq (by rw [hp]; rfl)).trans hgrows
  · have h := hquiet hmode
    have hadv := h.adv
    rw [hp] at hadv
    refine ⟨(congrArg Advance.aRing hadv).trans rfl, (congrArg Advance.void hadv).trans rfl, (congrArg Advance.mExp hadv).trans rfl,
      (congrArg Advance.grease hadv).trans rfl, (congrArg Advance.milestones hadv).trans rfl, h.void.trans (by rw [hp]; rfl)⟩
  · have h := hquiet hmode
    exact ⟨h.mExp.trans (by rw [hp]; rfl), h.balance.trans (by rw [hp]; rfl), h.overdig.trans (by rw [hp]; rfl),
      h.underdig.trans (by rw [hp]; rfl)⟩
  · have htarget := hmoves.target (by rw [hp]; exact hmode) hdue (by rw [hp]; exact hw) (by rw [hp]; exact hn)
    exact htarget.trans (by rw [hp]; rfl)
  · have h := (hquiet hmode).mem
    rw [h, hp]
    exact hseq

end Sys2Proof.Machine
open Sys2Proof Sys2Proof.Machine

/-- Settles O25: nothing is loaded, and what the completion of a restore leaves stands. -/
theorem refusedRecordIsLost : Obligations.RefusedRecordIsLost := by
  intro record s hphase hlost
  have hjudged : s.judgedRecord record = none := by
    unfold State.judgedRecord
    rcases hlost with htorn | hnone
    · rw [if_pos htorn]
    · split
      · rfl
      · cases record with
        | none => rfl
        | some bytes => exact hnone bytes rfl
  obtain ⟨x, hx⟩ : ∃ x, x = raiseEvent .recordLost
    { s with mem := { s.mem with record := record <|> s.mem.record, seq := 0 } } := ⟨_, rfl⟩
  have hexec : exec (.ringRecordReadComplete record) s = .next (finish (completeRestore x)) := by
    change execRingRecordReadComplete record s = _
    unfold execRingRecordReadComplete
    rw [if_pos hphase]
    dsimp only
    rw [hjudged, hx]
    rfl
  have hend := joined_finish x
  generalize finish (completeRestore x) = t at *
  refine ⟨t, hexec, ⟨?_, ?_⟩, fun hmode => ?_⟩
  · rw [hend.kept, hx]
    rfl
  · have hflags := hend.flags.and_eq
    rw [hx] at hflags
    exact hflags
  · have hxmode : x.table.mode ≠ .excavate := by rw [hx]; exact hmode
    obtain ⟨hring, hvoid, hmass, hgrease, hmile, hgvoid⟩ := hend.ring hxmode
    obtain ⟨hmexp, hbalance, hover, hunder⟩ := hend.muck hxmode
    have htarget := hend.target hxmode
    have hseq := hend.seq hxmode
    rw [hx] at hring hvoid hmass hgrease hmile hgvoid hmexp hbalance hover hunder htarget hseq
    exact ⟨hring, hvoid, hmass, hgrease, hmile, hgvoid, fun hw hn => htarget hw (noGrout_of_stations hn), hmexp, hbalance, hover,
      hunder, hseq⟩

end

section
/-! The restore of an accepted record, component by component (R174) (O24). -/
namespace Sys2Proof.Machine
open Sys2Proof

variable {s t u v e x : State} {c : Instr}

/-- What the load of a component leaves of everything that no component holds. -/
structure Beside (s t : State) : Prop where
  boot    : t.boot = s.boot
  cfg     : t.cfg = s.cfg
  now     : t.now = s.now
  pending : t.pending = s.pending
  faults  : t.faults = s.faults
  stopped : t.events.stopped = s.events.stopped
  table   : t.table = s.table
  mem     : t.mem = s.mem
  weight  : t.grout.weight = s.grout.weight

theorem Beside.trans (h : Beside s t) (k : Beside t u) : Beside s u :=
  ⟨k.boot.trans h.boot, k.cfg.trans h.cfg, k.now.trans h.now, k.pending.trans h.pending, k.faults.trans h.faults,
    k.stopped.trans h.stopped, k.table.trans h.table, k.mem.trans h.mem, k.weight.trans h.weight⟩

theorem Beside.holds (h : Beside s t) (r : Role) : t.holds r = s.holds r := by
  unfold State.holds State.effectiveRoles
  rw [h.boot, h.cfg]

theorem clampNat_zero (hi x : Nat) : clampNat 0 hi x = min x hi := by
  unfold clampNat
  rw [if_neg (Nat.not_lt_zero x)]
  split
  · rw [Nat.min_eq_right (by omega)]
  · rw [Nat.min_eq_left (by omega)]

/-! ## ADV (R53, R108) -/

theorem beside_restoreAdv (r : Option AdvComponent) (s : State) : Beside s (completeAdv (restoreAdv r s)) := by
  cases r <;> exact ⟨rfl, rfl, rfl, rfl, rfl, rfl, rfl, rfl, rfl⟩

/-- The advance accounts after the load of ADV and what follows from them. -/
theorem adv_restored (r : Option AdvComponent) (s : State) :
    (∀ a, r = some a → (completeAdv (restoreAdv r s)).adv.ring = a.ring ∧
      (completeAdv (restoreAdv r s)).adv.base = (if s.holds .thrust then a.base else 0) ∧
      (completeAdv (restoreAdv r s)).shoe.lastServed = min a.lastServed 15 ∧
      (completeAdv (restoreAdv r s)).adv.aRing = a.aRing ∧ (completeAdv (restoreAdv r s)).adv.grease = a.grease ∧
      (completeAdv (restoreAdv r s)).adv.milestones = a.milestones) ∧
    (r = none → (completeAdv (restoreAdv r s)).adv.ring = s.adv.ring ∧ (completeAdv (restoreAdv r s)).adv.base = s.adv.base ∧
      (completeAdv (restoreAdv r s)).shoe.lastServed = s.shoe.lastServed ∧
      (completeAdv (restoreAdv r s)).adv.aRing = s.adv.aRing ∧ (completeAdv (restoreAdv r s)).adv.grease = s.adv.grease ∧
      (completeAdv (restoreAdv r s)).adv.milestones = s.adv.milestones) := by
  refine ⟨fun a ha => ?_, fun hn => ?_⟩
  · subst ha
    exact ⟨rfl, rfl, clampNat_zero 15 a.lastServed, rfl, rfl, rfl⟩
  · subst hn
    exact ⟨rfl, rfl, rfl, rfl, rfl, rfl⟩

/-- The other blocks at the load of ADV. -/
theorem others_restoreAdv (r : Option AdvComponent) (s : State) :
    (completeAdv (restoreAdv r s)).drive = s.drive ∧
      (completeAdv (restoreAdv r s)).muck = { s.muck with mExp := expectedMass s.cfg (completeAdv (restoreAdv r s)).adv.aRing } ∧
      (completeAdv (restoreAdv r s)).grout = { s.grout with void := voidOf s.cfg (completeAdv (restoreAdv r s)).adv.aRing } ∧
      (completeAdv (restoreAdv r s)).adv.void = voidOf s.cfg (completeAdv (restoreAdv r s)).adv.aRing ∧
      (completeAdv (restoreAdv r s)).adv.mExp = expectedMass s.cfg (completeAdv (restoreAdv r s)).adv.aRing ∧
      (completeAdv (restoreAdv r s)).adv.rateBase = (completeAdv (restoreAdv r s)).adv.aRing := by
  cases r <;> exact ⟨rfl, rfl, rfl, rfl, rfl, rfl⟩

/-! ## GRT (R127) -/

theorem beside_restoreGrt (r : Option GrtComponent) (s : State) : Beside s (restoreGrt r s) := by
  cases r with
  | none => exact ⟨rfl, rfl, rfl, rfl, rfl, rfl, rfl, rfl, rfl⟩
  | some g =>
    unfold restoreGrt
    refine ⟨?_, ?_, ?_, ?_, ?_, ?_, ?_, ?_, ?_⟩
    all_goals simp

theorem others_restoreGrt (r : Option GrtComponent) (s : State) : (restoreGrt r s).adv = s.adv ∧
    (restoreGrt r s).shoe = s.shoe ∧ (restoreGrt r s).drive = s.drive ∧ (restoreGrt r s).muck = s.muck ∧
    (restoreGrt r s).grout.void = s.grout.void := by
  cases r with
  | none => exact ⟨rfl, rfl, rfl, rfl, rfl⟩
  | some g => simp [restoreGrt]

theorem grt_restored (r : Option GrtComponent) (s : State) :
    (∀ g, r = some g → (restoreGrt r s).grout.delivered = min g.delivered 2000000000 ∧
      (restoreGrt r s).grout.carry = clampInt (-(s.cfg.carryMax : Int)) s.cfg.carryMax g.carry ∧
      (restoreGrt r s).grout.target = min g.target 43253100) ∧
    (r = none → (restoreGrt r s).grout = s.grout) := by
  refine ⟨fun g hg => ?_, fun hn => by rw [hn]; rfl⟩
  subst hg
  unfold restoreGrt
  simp [clampNat_zero]

/-! ## MCK and TRM (R72, R146) -/

theorem beside_restoreMck (r : Option MckComponent) (s : State) : Beside s (restoreMck r s) := by
  cases r <;> exact ⟨rfl, rfl, rfl, rfl, rfl, rfl, rfl, rfl, rfl⟩

theorem others_restoreMck (r : Option MckComponent) (s : State) : (restoreMck r s).adv = s.adv ∧
    (restoreMck r s).shoe = s.shoe ∧ (restoreMck r s).drive = s.drive ∧ (restoreMck r s).grout = s.grout ∧
    (restoreMck r s).muck.mExp = s.muck.mExp ∧ (restoreMck r s).muck.balance = s.muck.balance ∧
    (restoreMck r s).muck.integ = s.muck.integ := by
  cases r <;> exact ⟨rfl, rfl, rfl, rfl, rfl, rfl, rfl⟩

theorem mck_restored (r : Option MckComponent) (s : State) :
    (∀ m, r = some m → (restoreMck r s).muck.mMeas = min m.mMeas 4000000000 ∧ (restoreMck r s).muck.overdig = m.overdig ∧
      (restoreMck r s).muck.underdig = m.underdig) ∧ (r = none → restoreMck r s = s) := by
  refine ⟨fun m hm => ?_, fun hn => by rw [hn]; rfl⟩
  subst hm
  exact ⟨clampNat_zero 4000000000 m.mMeas, rfl, rfl⟩

theorem restoreDrive_eq (n : Nat) (s : State) : restoreDrive n s =
    if s.holds .drive && s.faults.drive.isNone then
      { s with drive := { s.drive with
          nSet := min n s.cfg.speedMax, state := if 0 < min n s.cfg.speedMax then .stopping else s.drive.state } }
    else s := by
  unfold restoreDrive
  rw [clampNat_zero]

theorem beside_restoreTrm (r : Option TrmComponent) (s : State) : Beside s (restoreTrm r s) := by
  cases r with
  | none => exact ⟨rfl, rfl, rfl, rfl, rfl, rfl, rfl, rfl, rfl⟩
  | some m =>
    have hdrive : Beside s (restoreDrive m.nSet s) := by
      unfold restoreDrive
      split <;> exact ⟨rfl, rfl, rfl, rfl, rfl, rfl, rfl, rfl, rfl⟩
    have hinteg (u : State) : Beside u (restoreIntegrator m.integ u) := by
      unfold restoreIntegrator
      split <;> exact ⟨rfl, rfl, rfl, rfl, rfl, rfl, rfl, rfl, rfl⟩
    exact hdrive.trans (hinteg _)

theorem others_restoreTrm (r : Option TrmComponent) (s : State) : (restoreTrm r s).adv = s.adv ∧
    (restoreTrm r s).shoe = s.shoe ∧ (restoreTrm r s).grout = s.grout ∧
    (restoreTrm r s).muck = { s.muck with integ := (restoreTrm r s).muck.integ } := by
  cases r with
  | none => exact ⟨rfl, rfl, rfl, rfl⟩
  | some m =>
    have hdrive : (restoreDrive m.nSet s).adv = s.adv ∧ (restoreDrive m.nSet s).shoe = s.shoe ∧
        (restoreDrive m.nSet s).grout = s.grout ∧ (restoreDrive m.nSet s).muck = s.muck := by
      unfold restoreDrive
      split <;> exact ⟨rfl, rfl, rfl, rfl⟩
    have hinteg (u : State) : (restoreIntegrator m.integ u).adv = u.adv ∧ (restoreIntegrator m.integ u).shoe = u.shoe ∧
        (restoreIntegrator m.integ u).grout = u.grout ∧
        (restoreIntegrator m.integ u).muck = { u.muck with integ := (restoreIntegrator m.integ u).muck.integ } := by
      unfold restoreIntegrator
      split <;> exact ⟨rfl, rfl, rfl, rfl⟩
    obtain ⟨hadv, hshoe, hgrout, hmuck⟩ := hdrive
    obtain ⟨iadv, ishoe, igrout, imuck⟩ := hinteg (restoreDrive m.nSet s)
    rw [hmuck] at imuck
    exact ⟨iadv.trans hadv, ishoe.trans hshoe, igrout.trans hgrout, imuck⟩

theorem trm_restored (r : Option TrmComponent) (s : State) :
    (∀ m, r = some m → s.holds .screw = true →
      (restoreTrm r s).muck.integ = clampInt (-(s.cfg.iMax * 1000 : Int)) (s.cfg.iMax * 1000) m.integ) ∧
    (r = none ∨ s.holds .screw = false → (restoreTrm r s).muck.integ = s.muck.integ) ∧
    (∀ m, r = some m → s.holds .drive = true → s.faults.drive = none → (restoreTrm r s).drive = { s.drive with
      nSet := min m.nSet s.cfg.speedMax, state := if 0 < min m.nSet s.cfg.speedMax then .stopping else s.drive.state }) ∧
    (r = none ∨ s.holds .drive = false ∨ s.faults.drive.isSome = true → (restoreTrm r s).drive = s.drive) := by
  cases r with
  | none => exact ⟨fun _ h => absurd h (by simp), fun _ => rfl, fun _ h => absurd h (by simp), fun _ => rfl⟩
  | some m =>
    have hbeside : Beside s (restoreDrive m.nSet s) := by
      unfold restoreDrive
      split <;> exact ⟨rfl, rfl, rfl, rfl, rfl, rfl, rfl, rfl, rfl⟩
    have hmuck : (restoreDrive m.nSet s).muck = s.muck := by
      unfold restoreDrive
      split <;> rfl
    have hdrive (u : State) : (restoreIntegrator m.integ u).drive = u.drive := by
      unfold restoreIntegrator
      split <;> rfl
    have hstep : restoreTrm (some m) s = restoreIntegrator m.integ (restoreDrive m.nSet s) := rfl
    rw [hstep, hdrive]
    refine ⟨fun n hn hs => ?_, fun hn => ?_, fun n hn hd hf => ?_, fun hn => ?_⟩
    · obtain rfl : m = n := by simpa using hn
      unfold restoreIntegrator
      rw [if_pos (by rw [hbeside.holds]; exact hs), hbeside.cfg]
    · unfold restoreIntegrator
      rw [if_neg (by rw [hbeside.holds]; simpa using hn), hmuck]
    · obtain rfl : m = n := by simpa using hn
      rw [restoreDrive_eq, if_pos (by simp [hd, hf])]
    · rw [restoreDrive_eq, if_neg]
      rcases hn with h | h | h
      · exact absurd h (by simp)
      · simp [h]
      · cases hf : s.faults.drive with
        | none => simp [hf] at h
        | some f => simp

/-! ## The balance of a restore (R146) -/

theorem overdig_examineOverdig (s : State) :
    (examineOverdig s).muck = { s.muck with overdig := decide (s.muck.overdig = true ∨ s.cfg.overThreshold < s.muck.balance) } := by
  unfold examineOverdig
  split
  · rename_i h
    simp [raiseEvent, h.1]
  · rename_i h
    cases ho : s.muck.overdig with
    | true => simp [← ho]
    | false =>
      have hnot : ¬s.cfg.overThreshold < s.muck.balance := fun hlt => h ⟨hlt, ho⟩
      simp [hnot, ← ho]

theorem underdig_examineUnderdig (s : State) : (examineUnderdig s).muck =
    { s.muck with underdig := decide (s.muck.underdig = true ∨ s.muck.balance < s.cfg.underThreshold) } := by
  unfold examineUnderdig
  split
  · rename_i h
    simp [raiseEvent, h.1]
  · rename_i h
    cases hu : s.muck.underdig with
    | true => simp [← hu]
    | false =>
      have hnot : ¬s.muck.balance < s.cfg.underThreshold := fun hlt => h ⟨hlt, hu⟩
      simp [hnot, ← hu]

theorem beside_restoredBalance (s : State) : Beside s (restoredBalance s) := by
  unfold restoredBalance
  split
  · refine ⟨?_, ?_, ?_, ?_, ?_, ?_, ?_, ?_, ?_⟩
    all_goals simp
  · exact ⟨rfl, rfl, rfl, rfl, rfl, rfl, rfl, rfl, rfl⟩

theorem others_restoredBalance (s : State) : (restoredBalance s).adv = s.adv ∧ (restoredBalance s).shoe = s.shoe ∧
    (restoredBalance s).drive = s.drive ∧ (restoredBalance s).grout = s.grout ∧ (restoredBalance s).muck.integ = s.muck.integ ∧
    (restoredBalance s).muck.mMeas = s.muck.mMeas ∧ (restoredBalance s).muck.mExp = s.muck.mExp := by
  unfold restoredBalance
  split <;> simp

theorem muck_recomputeBalance (hm : s.cfg.balanceMin ≤ s.adv.aRing ∧ 0 < s.muck.mExp) : (recomputeBalance s).muck = { s.muck with
    balance := balanceOf s.muck.mMeas s.muck.mExp
    overdig := decide (s.muck.overdig = true ∨ s.cfg.overThreshold < balanceOf s.muck.mMeas s.muck.mExp)
    underdig := decide (s.muck.underdig = true ∨ balanceOf s.muck.mMeas s.muck.mExp < s.cfg.underThreshold) } := by
  unfold recomputeBalance
  rw [if_pos hm, underdig_examineUnderdig, overdig_examineOverdig]
  simp

/-- The balance and the latches after a restore: examined once (R146). -/
theorem balance_restored {p : Prop} [Decidable p]
    (hp : p ↔ s.holds .screw = true ∧ s.cfg.balanceMin ≤ s.adv.aRing ∧ 0 < s.muck.mExp) :
    (restoredBalance s).muck.balance = (if p then balanceOf s.muck.mMeas s.muck.mExp else s.muck.balance) ∧
      (restoredBalance s).muck.overdig =
        decide (s.muck.overdig = true ∨ p ∧ s.cfg.overThreshold < (restoredBalance s).muck.balance) ∧
      (restoredBalance s).muck.underdig =
        decide (s.muck.underdig = true ∨ p ∧ (restoredBalance s).muck.balance < s.cfg.underThreshold) := by
  by_cases h : p
  · obtain ⟨hs, hm⟩ := hp.mp h
    unfold restoredBalance
    rw [if_pos hs, muck_recomputeBalance hm]
    simp [h]
  · have hstands : restoredBalance s = s := by
      unfold restoredBalance
      split
      · rename_i hs
        unfold recomputeBalance
        exact if_neg fun hm => h (hp.mpr ⟨hs, hm⟩)
      · rfl
    rw [hstands]
    simp [h]

/-! ## The record loaded (R174) -/

/-- What the load of a record leaves, component by component. -/
structure Loaded (r : RingRecord) (s x : State) : Prop where
  beside   : Beside { s with mem := { s.mem with seq := r.seq } } x
  adv      : ∀ a, r.adv = some a → x.adv.ring = a.ring ∧ x.adv.base = (if s.holds .thrust then a.base else 0) ∧
    x.shoe.lastServed = min a.lastServed 15 ∧ x.adv.aRing = a.aRing ∧ x.adv.grease = a.grease ∧ x.adv.milestones = a.milestones
  noAdv    : r.adv = none → x.adv.ring = s.adv.ring ∧ x.adv.base = s.adv.base ∧ x.shoe.lastServed = s.shoe.lastServed ∧
    x.adv.aRing = s.adv.aRing ∧ x.adv.grease = s.adv.grease ∧ x.adv.milestones = s.adv.milestones
  rateBase : x.adv.rateBase = x.adv.aRing
  void     : x.adv.void = voidOf s.cfg x.adv.aRing ∧ x.grout.void = voidOf s.cfg x.adv.aRing
  mass     : x.adv.mExp = expectedMass s.cfg x.adv.aRing ∧ x.muck.mExp = expectedMass s.cfg x.adv.aRing
  grt      : ∀ g, r.grt = some g → x.grout.delivered = min g.delivered 2000000000 ∧
    x.grout.carry = clampInt (-(s.cfg.carryMax : Int)) s.cfg.carryMax g.carry ∧ x.grout.target = min g.target 43253100
  noGrt    : r.grt = none → x.grout.delivered = s.grout.delivered ∧ x.grout.carry = s.grout.carry ∧
    x.grout.target = s.grout.target
  mck      : ∀ m, r.mck = some m → x.muck.mMeas = min m.mMeas 4000000000
  noMck    : r.mck = none → x.muck.mMeas = s.muck.mMeas
  integ    : ∀ m, r.trm = some m → s.holds .screw = true →
    x.muck.integ = clampInt (-(s.cfg.iMax * 1000 : Int)) (s.cfg.iMax * 1000) m.integ
  noInteg  : r.trm = none ∨ s.holds .screw = false → x.muck.integ = s.muck.integ
  drive    : ∀ m, r.trm = some m → s.holds .drive = true → s.faults.drive = none → x.drive = { s.drive with
    nSet := min m.nSet s.cfg.speedMax, state := if 0 < min m.nSet s.cfg.speedMax then .stopping else s.drive.state }
  noDrive  : r.trm = none ∨ s.holds .drive = false ∨ s.faults.drive.isSome = true → x.drive = s.drive
  balance  : ∀ (p : Prop) [Decidable p], (p ↔ s.holds .screw = true ∧ s.cfg.balanceMin ≤ x.adv.aRing ∧ 0 < x.muck.mExp) →
    ∀ hi lo, (∀ m, r.mck = some m → hi = m.overdig ∧ lo = m.underdig) →
      (r.mck = none → hi = s.muck.overdig ∧ lo = s.muck.underdig) →
    x.muck.balance = (if p then balanceOf x.muck.mMeas x.muck.mExp else s.muck.balance) ∧
      x.muck.overdig = decide (hi = true ∨ p ∧ s.cfg.overThreshold < x.muck.balance) ∧
      x.muck.underdig = decide (lo = true ∨ p ∧ x.muck.balance < s.cfg.underThreshold)

theorem loaded_restoreRecord (r : RingRecord) (s : State) : Loaded r s (restoreRecord r s) := by
  obtain ⟨s1, hs1⟩ : ∃ s1 : State, s1 = { s with mem := { s.mem with seq := r.seq } } := ⟨_, rfl⟩
  have hholds (o : Role) : s1.holds o = s.holds o := by rw [hs1]; rfl
  have hcfg : s1.cfg = s.cfg := by rw [hs1]
  obtain ⟨hadv, hnoAdv⟩ := adv_restored r.adv s1
  obtain ⟨bdrive, bmuck, bgrout, bvoid, bmass, brate⟩ := others_restoreAdv r.adv s1
  have hb1 := beside_restoreAdv r.adv s1
  obtain ⟨b, hb⟩ : ∃ b, b = completeAdv (restoreAdv r.adv s1) := ⟨_, rfl⟩
  rw [← hb] at hadv hnoAdv bdrive bmuck bgrout bvoid bmass brate hb1
  obtain ⟨hgrt, hnoGrt⟩ := grt_restored r.grt b
  obtain ⟨cadv, cshoe, cdrive, cmuck, cvoid⟩ := others_restoreGrt r.grt b
  have hb2 := hb1.trans (beside_restoreGrt r.grt b)
  obtain ⟨c, hc⟩ : ∃ c, c = restoreGrt r.grt b := ⟨_, rfl⟩
  rw [← hc] at hgrt hnoGrt cadv cshoe cdrive cmuck cvoid hb2
  obtain ⟨hmck, hnoMck⟩ := mck_restored r.mck c
  obtain ⟨dadv, dshoe, ddrive, dgrout, dmass, dbalance, dinteg⟩ := others_restoreMck r.mck c
  have hb3 := hb2.trans (beside_restoreMck r.mck c)
  obtain ⟨d, hd⟩ : ∃ d, d = restoreMck r.mck c := ⟨_, rfl⟩
  rw [← hd] at hmck hnoMck dadv dshoe ddrive dgrout dmass dbalance dinteg hb3
  obtain ⟨hinteg, hnoInteg, hdrive, hnoDrive⟩ := trm_restored r.trm d
  obtain ⟨eadv, eshoe, egrout, emuck⟩ := others_restoreTrm r.trm d
  have hb4 := hb3.trans (beside_restoreTrm r.trm d)
  obtain ⟨e, he⟩ : ∃ e, e = restoreTrm r.trm d := ⟨_, rfl⟩
  rw [← he] at hinteg hnoInteg hdrive hnoDrive eadv eshoe egrout emuck hb4
  obtain ⟨xadv, xshoe, xdrive, xgrout, xinteg, xmeas, xmass⟩ := others_restoredBalance e
  have hb5 := hb4.trans (beside_restoredBalance e)
  have hbalance {p : Prop} [Decidable p] := balance_restored (s := e) (p := p)
  have hx : restoreRecord r s = restoredBalance e := by
    unfold restoreRecord
    rw [← hs1, ← hb, ← hc, ← hd, ← he]
  rw [hx]
  obtain ⟨x, hxe⟩ : ∃ x, x = restoredBalance e := ⟨_, rfl⟩
  rw [← hxe] at xadv xshoe xdrive xgrout xinteg xmeas xmass hb5 hbalance ⊢
  have advs : x.adv = b.adv := ((xadv.trans eadv).trans dadv).trans cadv
  have shoes : x.shoe = b.shoe := ((xshoe.trans eshoe).trans dshoe).trans cshoe
  have grouts : x.grout = c.grout := (xgrout.trans egrout).trans dgrout
  have emMass : e.muck.mExp = d.muck.mExp := (congrArg Muck.mExp emuck).trans rfl
  have emMeas : e.muck.mMeas = d.muck.mMeas := (congrArg Muck.mMeas emuck).trans rfl
  have emBalance : e.muck.balance = d.muck.balance := (congrArg Muck.balance emuck).trans rfl
  have emOver : e.muck.overdig = d.muck.overdig := (congrArg Muck.overdig emuck).trans rfl
  have emUnder : e.muck.underdig = d.muck.underdig := (congrArg Muck.underdig emuck).trans rfl
  have bmMeas : b.muck.mMeas = s.muck.mMeas := (congrArg Muck.mMeas bmuck).trans (by rw [hs1])
  have bmInteg : b.muck.integ = s.muck.integ := (congrArg Muck.integ bmuck).trans (by rw [hs1])
  have bmBalance : b.muck.balance = s.muck.balance := (congrArg Muck.balance bmuck).trans (by rw [hs1])
  have bmOver : b.muck.overdig = s.muck.overdig := (congrArg Muck.overdig bmuck).trans (by rw [hs1])
  have bmUnder : b.muck.underdig = s.muck.underdig := (congrArg Muck.underdig bmuck).trans (by rw [hs1])
  have ddrives : d.drive = s.drive := ((ddrive.trans cdrive).trans bdrive).trans (by rw [hs1])
  have dholds (o : Role) : d.holds o = s.holds o := (hb3.holds o).trans (hholds o)
  have dcfg : d.cfg = s.cfg := hb3.cfg.trans hcfg
  have dfaults : d.faults = s.faults := hb3.faults.trans (by rw [hs1])
  have bcfg : b.cfg = s.cfg := hb1.cfg.trans hcfg
  have bgDelivered : b.grout.delivered = s.grout.delivered := (congrArg Grout.delivered bgrout).trans (by rw [hs1])
  have bgCarry : b.grout.carry = s.grout.carry := (congrArg Grout.carry bgrout).trans (by rw [hs1])
  have bgTarget : b.grout.target = s.grout.target := (congrArg Grout.target bgrout).trans (by rw [hs1])
  have bgVoid : b.grout.void = voidOf s.cfg b.adv.aRing := (congrArg Grout.void bgrout).trans (by rw [hcfg])
  have bmMass : b.muck.mExp = expectedMass s.cfg b.adv.aRing := (congrArg Muck.mExp bmuck).trans (by rw [hcfg])
  have xmuckMass : x.muck.mExp = expectedMass s.cfg x.adv.aRing := by
    rw [xmass, emMass, dmass, cmuck, bmMass, advs]
  refine ⟨by rw [← hs1]; exact hb5, fun a ha => ?_, fun hn => ?_, ?_, ⟨?_, ?_⟩, ⟨?_, xmuckMass⟩, fun g hg => ?_, fun hn => ?_,
    fun m hm => ?_, fun hn => ?_, fun m hm hs => ?_, fun hn => ?_, fun m hm hs hf => ?_, fun hn => ?_, ?_⟩
  · rw [advs, shoes, ← hholds]
    exact hadv a ha
  · obtain ⟨h1, h2, h3, h4, h5, h6⟩ := hnoAdv hn
    rw [advs, shoes, h1, h2, h3, h4, h5, h6, hs1]
    exact ⟨rfl, rfl, rfl, rfl, rfl, rfl⟩
  · rw [advs]
    exact brate
  · rw [advs, bvoid, hcfg]
  · rw [grouts, cvoid, bgVoid, advs]
  · rw [advs, bmass, hcfg]
  · rw [grouts, ← bcfg]
    exact hgrt g hg
  · rw [grouts, hnoGrt hn]
    exact ⟨bgDelivered, bgCarry, bgTarget⟩
  · rw [xmeas, emMeas]
    exact (hmck m hm).1
  · rw [xmeas, emMeas, hnoMck hn, cmuck, bmMeas]
  · rw [xinteg, hinteg m hm (by rw [dholds]; exact hs), dcfg]
  · rw [xinteg, hnoInteg (by rw [dholds]; exact hn), dinteg, cmuck, bmInteg]
  · rw [xdrive, hdrive m hm (by rw [dholds]; exact hs) (by rw [dfaults]; exact hf), dcfg, ddrives]
  · rw [xdrive, hnoDrive (by rw [dholds, dfaults]; exact hn), ddrives]
  · intro p _ hp hi lo hsome hnone
    have hep : p ↔ e.holds .screw = true ∧ e.cfg.balanceMin ≤ e.adv.aRing ∧ 0 < e.muck.mExp := by
      rw [hp, ← xmass, ← xadv, hb4.holds, hholds, hb4.cfg, hcfg]
    obtain ⟨h1, h2, h3⟩ := hbalance hep
    have hlatches : e.muck.overdig = hi ∧ e.muck.underdig = lo := by
      rw [emOver, emUnder]
      cases hr : r.mck with
      | none =>
        obtain ⟨ho, hu⟩ := hnone hr
        rw [hnoMck hr, cmuck, bmOver, bmUnder, ho, hu]
        exact ⟨rfl, rfl⟩
      | some m =>
        obtain ⟨ho, hu⟩ := hsome m hr
        obtain ⟨-, hmo, hmu⟩ := hmck m hr
        rw [hmo, hmu, ho, hu]
        exact ⟨rfl, rfl⟩
    obtain ⟨ho, hu⟩ := hlatches
    rw [ho, hb4.cfg, hcfg] at h2
    rw [hu, hb4.cfg, hcfg] at h3
    rw [← xmeas, ← xmass, emBalance, dbalance, cmuck, bmBalance] at h1
    exact ⟨h1, h2, h3⟩

end Sys2Proof.Machine
open Sys2Proof Sys2Proof.Machine

/-- Settles O24: the components loaded, and what the completion of the restore leaves of them. -/
theorem acceptedRecordRestores : Obligations.AcceptedRecordRestores := by
  intro bytes s r hphase htorn hdecode
  have hjudged : s.judgedRecord (some bytes) = some r := by
    unfold State.judgedRecord
    rw [htorn, if_neg (by simp)]
    exact hdecode
  obtain ⟨s1, hs1⟩ : ∃ s1 : State, s1 = { s with mem := { s.mem with record := some bytes } } := ⟨_, rfl⟩
  have hexec : exec (.ringRecordReadComplete (some bytes)) s = .next (finish (completeRestore (restoreRecord r s1))) := by
    change execRingRecordReadComplete (some bytes) s = _
    unfold execRingRecordReadComplete
    rw [if_pos hphase]
    dsimp only
    rw [hjudged, hs1]
    rfl
  have hload := loaded_restoreRecord r s1
  have hholds (o : Role) : s1.holds o = s.holds o := by rw [hs1]; rfl
  have hend := joined_finish (restoreRecord r s1)
  generalize finish (completeRestore (restoreRecord r s1)) = t at *
  generalize restoreRecord r s1 = x at *
  have hkept := hend.kept
  have hbeside := hload.beside
  have hcfg : x.cfg = s.cfg := hbeside.cfg.trans (by rw [hs1])
  have hnow : x.now = s.now := hbeside.now.trans (by rw [hs1])
  have htcfg : t.cfg = x.cfg := (congrArg Kept.cfg hkept).trans rfl
  have htring : t.adv.ring = x.adv.ring := (congrArg Kept.ring hkept).trans rfl
  have htbase : t.adv.base = x.adv.base := (congrArg Kept.base hkept).trans rfl
  have htrate : t.adv.rateBase = x.adv.rateBase := (congrArg Kept.rateBase hkept).trans rfl
  have htshoe : t.shoe = x.shoe := (congrArg Kept.shoe hkept).trans rfl
  have htdelivered : t.grout.delivered = x.grout.delivered := (congrArg Kept.delivered hkept).trans rfl
  have htcarry : t.grout.carry = x.grout.carry := (congrArg Kept.carry hkept).trans rfl
  have htmeas : t.muck.mMeas = x.muck.mMeas := (congrArg Kept.mMeas hkept).trans rfl
  have htinteg : t.muck.integ = x.muck.integ := (congrArg Kept.integ hkept).trans rfl
  have htdrive : t.drive = x.drive := (congrArg Kept.drive hkept).trans rfl
  have hs1cfg : s1.cfg = s.cfg := by rw [hs1]
  have hs1adv : s1.adv = s.adv := by rw [hs1]
  have hs1muck : s1.muck = s.muck := by rw [hs1]
  have hs1grout : s1.grout = s.grout := by rw [hs1]
  have hs1drive : s1.drive = s.drive := by rw [hs1]
  have hs1shoe : s1.shoe = s.shoe := by rw [hs1]
  have hs1faults : s1.faults = s.faults := by rw [hs1]
  have htimer (ms : Nat) : x.timer ms = s.timer ms := by
    unfold State.timer
    rw [hnow]
  refine ⟨t, hexec, (congrArg Kept.boot hkept).trans ?_, (congrArg Kept.backbone hkept).trans rfl,
    (congrArg Kept.joinTimer hkept).trans ?_, (congrArg Kept.rateTimer hkept).trans ?_, fun a ha => ?_, fun hn => ?_, fun hmode => ?_,
    fun g hg => ?_, fun hn => ?_, fun m hm => ?_, fun hn => ?_, fun m hm hs => ?_, fun hn => ?_, fun m hm hs hf => ?_, fun hn => ?_,
    htcfg.trans hcfg, ?_, ?_, ?_⟩
  · change { x.boot with phase := .done } = _
    rw [hbeside.boot, hs1]
  · change x.timer x.cfg.joinWindow = _
    rw [htimer, hcfg]
  · change x.timer x.cfg.rateWindow = _
    rw [htimer, hcfg]
  · obtain ⟨h1, h2, h3, h4, -, -⟩ := hload.adv a ha
    rw [htring, htbase, htshoe, htrate, hload.rateBase, h1, h2, h3, h4, hholds]
    exact ⟨rfl, rfl, rfl, rfl⟩
  · obtain ⟨h1, h2, h3, h4, -, -⟩ := hload.noAdv hn
    rw [htring, htbase, htshoe, htrate, hload.rateBase, h1, h2, h3, h4, hs1adv, hs1shoe]
    exact ⟨rfl, rfl, rfl, rfl⟩
  · have hxmode : x.table.mode ≠ .excavate := by
      rw [hbeside.table, hs1]
      exact hmode
    obtain ⟨hring, hvoid, hmass, hgrease, hmile, hgvoid⟩ := hend.ring hxmode
    obtain ⟨hmexp, hbalance, hover, hunder⟩ := hend.muck hxmode
    obtain ⟨hv, hgv⟩ := hload.void
    obtain ⟨hm, hmm⟩ := hload.mass
    have hmem : x.mem = { s.mem with record := some bytes, seq := r.seq } := hbeside.mem.trans (by rw [hs1])
    refine ⟨fun a ha => ?_, fun hn => ?_, ?_, ?_, ?_, ?_, fun hw hnone => ?_, ?_, ?_⟩
    · obtain ⟨-, -, -, h4, h5, h6⟩ := hload.adv a ha
      rw [hring, hgrease, hmile, h4, h5, h6]
      exact ⟨rfl, rfl, rfl⟩
    · obtain ⟨-, -, -, h4, h5, h6⟩ := hload.noAdv hn
      rw [hring, hgrease, hmile, h4, h5, h6, hs1adv]
      exact ⟨rfl, rfl, rfl⟩
    · rw [hvoid, hring, hv, hs1cfg]
      rfl
    · rw [hmass, hring, hm, hs1cfg]
      rfl
    · rw [hgvoid, hvoid, hgv, hv]
    · rw [hmexp, hmass, hm, hmm]
    · have htable : x.table = s.table := hbeside.table.trans (by rw [hs1])
      have hnoGrout : NoGrout x := fun n => by
        rw [htable]
        exact noGrout_of_stations hnone n
      rw [hend.target hxmode (hbeside.weight.trans (by rw [hs1]; exact hw)) hnoGrout]
      cases hr : r.grt with
      | none => rw [(hload.noGrt hr).2.2, hs1grout]
      | some g => exact (hload.grt g hr).2.2
    · intro examined balance overdig underdig
      have hiff : (s.holds .screw = true ∧ s.cfg.balanceMin ≤ t.adv.aRing ∧ 0 < t.adv.mExp) ↔
          s1.holds .screw = true ∧ s1.cfg.balanceMin ≤ x.adv.aRing ∧ 0 < x.muck.mExp := by
        rw [hholds, hs1cfg, hring, hmass, hm, hmm]
      obtain ⟨h1, h2, h3⟩ := hload.balance _ hiff overdig underdig
        (fun m hm => by simp [overdig, underdig, hm]) (fun hn => by simp [overdig, underdig, hn, hs1muck])
      have hb : t.muck.balance = balance := by
        have hmassx : x.muck.mExp = t.adv.mExp := by rw [hmass, hm, hmm]
        rw [hbalance, h1, ← htmeas, hmassx, hs1muck]
        rfl
      refine ⟨hb, ?_, ?_⟩
      · rw [hover, h2, ← hbalance, hb, hs1cfg]
      · rw [hunder, h3, ← hbalance, hb, hs1cfg]
    · rw [hend.seq hxmode, hmem]
  · obtain ⟨h1, h2, -⟩ := hload.grt g hg
    rw [htdelivered, htcarry, h1, h2, hs1cfg]
    exact ⟨rfl, rfl⟩
  · obtain ⟨h1, h2, -⟩ := hload.noGrt hn
    rw [htdelivered, htcarry, h1, h2, hs1grout]
    exact ⟨rfl, rfl⟩
  · rw [htmeas, hload.mck m hm]
  · rw [htmeas, hload.noMck hn, hs1muck]
  · rw [htinteg, hload.integ m hm (by rw [hholds]; exact hs), hs1cfg]
  · rw [htinteg, hload.noInteg (by rw [hholds]; exact hn), hs1muck]
  · rw [htdrive, hload.drive m hm (by rw [hholds]; exact hs) (by rw [hs1faults]; exact hf), hs1cfg, hs1drive]
  · rw [htdrive, hload.noDrive (by rw [hholds, hs1faults]; exact hn), hs1drive]
  · exact (congrArg Kept.faults hkept).trans (hbeside.faults.trans (by rw [hs1]))
  · exact (congrArg Kept.stopped hkept).trans (hbeside.stopped.trans (by rw [hs1]))
  · exact (congrArg Kept.pending hkept).trans (hbeside.pending.trans (by rw [hs1]))

end

section
/-! The ring closed or jumped at a MODE (R47 to R50) (O37). -/
namespace Sys2Proof.Machine
open Sys2Proof

variable {s t u v e x : State} {c : Instr} {w : State → OwnKind → Prop}

/-! ## What leaves the accounts of the ring alone -/

/-- `t` is `s` in the accounts of the ring, in what the grout and muck units hold of them, and in the entries. -/
structure Still (s t : State) : Prop where
  boot     : t.boot = s.boot
  cfg      : t.cfg = s.cfg
  adv      : t.adv = s.adv
  void     : t.grout.void = s.grout.void
  balance  : t.muck.balance = s.muck.balance
  overdig  : t.muck.overdig = s.muck.overdig
  underdig : t.muck.underdig = s.muck.underdig
  stations : t.table.stations = s.table.stations

theorem Still.refl (s : State) : Still s s := ⟨rfl, rfl, rfl, rfl, rfl, rfl, rfl, rfl⟩

theorem Still.trans (h : Still s t) (k : Still t u) : Still s u :=
  ⟨k.boot.trans h.boot, k.cfg.trans h.cfg, k.adv.trans h.adv, k.void.trans h.void, k.balance.trans h.balance,
    k.overdig.trans h.overdig, k.underdig.trans h.underdig, k.stations.trans h.stations⟩

theorem still_refreshGates (s : State) : Still s (refreshGates s) := by
  refine ⟨?_, ?_, ?_, ?_, ?_, ?_, ?_, ?_⟩
  all_goals simp

theorem still_decideLine (s : State) : Still s (decideLine s) := by
  refine ⟨?_, ?_, ?_, ?_, ?_, ?_, ?_, ?_⟩
  all_goals simp

theorem still_regimeEvent (s : State) : Still s (regimeEvent s) := by
  refine ⟨?_, ?_, ?_, ?_, ?_, ?_, ?_, ?_⟩
  all_goals simp

theorem still_triggerSave (s : State) : Still s (triggerSave s) := by
  refine ⟨?_, ?_, ?_, ?_, ?_, ?_, ?_, ?_⟩
  all_goals simp

theorem still_decideScrew (s : State) : Still s (decideScrew s) := by
  have hset (st : ScrewState) (u : State) : (setScrew st u).muck.balance = u.muck.balance ∧
      (setScrew st u).muck.overdig = u.muck.overdig ∧ (setScrew st u).muck.underdig = u.muck.underdig := by
    unfold setScrew
    split
    · exact ⟨rfl, rfl, rfl⟩
    · split <;> simp [examineScrew]
  have hmuck : (decideScrew s).muck.balance = s.muck.balance ∧ (decideScrew s).muck.overdig = s.muck.overdig ∧
      (decideScrew s).muck.underdig = s.muck.underdig := by
    unfold decideScrew
    split
    · exact hset _ s
    · exact ⟨rfl, rfl, rfl⟩
  obtain ⟨hb, ho, hu⟩ := hmuck
  exact ⟨by simp, by simp, by simp, by simp, hb, ho, hu, by simp⟩

theorem still_enterExtending (s : State) : Still s (enterExtending s) := by
  unfold enterExtending
  refine Still.trans ?_ (still_refreshGates _)
  refine ⟨?_, ?_, ?_, ?_, ?_, ?_, ?_, ?_⟩
  all_goals simp

theorem still_abortBuild (s : State) : Still s (abortBuild s) := by
  unfold abortBuild abortByState
  split
  · split
    · exact .refl s
    · exact .refl s
    · exact ⟨rfl, rfl, rfl, rfl, rfl, rfl, rfl, rfl⟩
    · exact still_enterExtending s
    · split
      · exact .refl s
      · exact still_enterExtending s
  · exact .refl s

/-! ## The accounts of a new ring (R43, R44, R48, R51, R52, R141) -/

/-- The accounts follow A_ring, the grout unit holds its V, and below balance_min nothing is struck. -/
structure NewRing (s : State) : Prop where
  void       : s.adv.void = voidOf s.cfg s.adv.aRing
  mass       : s.adv.mExp = expectedMass s.cfg s.adv.aRing
  grease     : s.adv.grease = s.adv.aRing / s.cfg.greaseStep
  milestones : s.adv.milestones = s.adv.aRing / s.cfg.recordStep
  handed     : s.holds .grout = true → s.grout.void = s.adv.void
  unstruck   : s.holds .screw = true → s.adv.aRing < s.cfg.balanceMin →
    s.muck.balance = 0 ∧ s.muck.overdig = false ∧ s.muck.underdig = false

theorem holds_congr (hb : t.boot = s.boot) (hc : t.cfg = s.cfg) (r : Role) : t.holds r = s.holds r := by
  unfold State.holds State.effectiveRoles
  rw [hb, hc]

theorem NewRing.of_accounts (h : NewRing s) (hb : t.boot = s.boot) (hc : t.cfg = s.cfg)
    (ha : t.adv = { s.adv with machineA := t.adv.machineA }) (hv : t.grout.void = s.grout.void)
    (hm : t.muck.balance = s.muck.balance) (ho : t.muck.overdig = s.muck.overdig) (hu : t.muck.underdig = s.muck.underdig) :
    NewRing t := by
  have hring : t.adv.aRing = s.adv.aRing := (congrArg Advance.aRing ha).trans rfl
  have hvoid : t.adv.void = s.adv.void := (congrArg Advance.void ha).trans rfl
  refine ⟨?_, ?_, ?_, ?_, fun hg => ?_, fun hs hlt => ?_⟩
  · rw [hvoid, hc, hring]
    exact h.void
  · rw [hc, hring]
    exact ((congrArg Advance.mExp ha).trans rfl).trans h.mass
  · rw [hc, hring]
    exact ((congrArg Advance.grease ha).trans rfl).trans h.grease
  · rw [hc, hring]
    exact ((congrArg Advance.milestones ha).trans rfl).trans h.milestones
  · rw [hv, hvoid]
    exact h.handed ((holds_congr hb hc .grout).symm.trans hg)
  · rw [hm, ho, hu]
    exact h.unstruck ((holds_congr hb hc .screw).symm.trans hs) (by rw [← hring, ← hc]; exact hlt)

theorem NewRing.of_still (h : NewRing s) (k : Still s t) : NewRing t :=
  h.of_accounts k.boot k.cfg (by rw [k.adv]) k.void k.balance k.overdig k.underdig

theorem void_setARing (y : Nat) (s : State) (hg : s.holds .grout = true) :
    (setARing y s).grout.void = voidOf s.cfg y := by
  unfold setARing
  dsimp only
  simp only [frame_countMilestone, frame_issueGrease, frame_takeExpectedMass]
  unfold takeVoid
  rw [if_pos (by exact hg)]
  simp

/-- Below balance_min a mass expected of the ring strikes no balance (R141). -/
theorem muck_takeExpectedMass_below {m : Nat} (hlt : s.adv.aRing < s.cfg.balanceMin) :
    (takeExpectedMass m s).muck.balance = s.muck.balance ∧ (takeExpectedMass m s).muck.overdig = s.muck.overdig ∧
      (takeExpectedMass m s).muck.underdig = s.muck.underdig := by
  unfold takeExpectedMass
  split
  · unfold recomputeBalance
    rw [if_neg (by
      dsimp only
      omega)]
    exact ⟨rfl, rfl, rfl⟩
  · exact ⟨rfl, rfl, rfl⟩

/-- Below balance_min a new A_ring strikes no balance (R141). -/
theorem muck_setARing_below {y : Nat} (hlt : y < s.cfg.balanceMin) :
    (setARing y s).muck.balance = s.muck.balance ∧ (setARing y s).muck.overdig = s.muck.overdig ∧
      (setARing y s).muck.underdig = s.muck.underdig := by
  unfold setARing
  dsimp only
  obtain ⟨u, hu⟩ : ∃ u : State, u = takeVoid (voidOf s.cfg y)
    { s with adv := { s.adv with aRing := y, void := voidOf s.cfg y, mExp := expectedMass s.cfg y } } := ⟨_, rfl⟩
  have hmuck : u.muck = s.muck := by rw [hu]; simp
  have hring : u.adv.aRing = y := by rw [hu]; simp
  have hcfg : u.cfg = s.cfg := by rw [hu]; simp
  have hbelow := muck_takeExpectedMass_below (s := u) (m := expectedMass s.cfg y) (by rw [hring, hcfg]; exact hlt)
  rw [← hu]
  simp only [frame_countMilestone, frame_issueGrease]
  rw [← hmuck]
  exact hbelow

theorem newRing_setARing {y : Nat} (h : NewRing s) (hlt : s.adv.aRing < y) : NewRing (setARing y s) := by
  have hboot : (setARing y s).boot = s.boot := by simp
  have hcfg : (setARing y s).cfg = s.cfg := by simp
  have hadv := adv_setARing y s
  have hvoid := void_setARing y s
  have hbelow := muck_setARing_below (s := s) (y := y)
  generalize setARing y s = t at *
  have hring : t.adv.aRing = y := by rw [hadv]
  refine ⟨?_, ?_, ?_, ?_, fun hg => ?_, fun hs hy => ?_⟩
  · rw [hring, hcfg, hadv]
  · rw [hring, hcfg, hadv]
  · have hle := Nat.div_le_div_right (c := s.cfg.greaseStep) hlt.le
    rw [hring, hcfg, hadv]
    dsimp only
    rw [h.grease]
    omega
  · have hle := Nat.div_le_div_right (c := s.cfg.recordStep) hlt.le
    rw [hring, hcfg, hadv]
    dsimp only
    rw [h.milestones]
    split <;> omega
  · rw [hvoid ((holds_congr hboot hcfg .grout).symm.trans hg), hadv]
  · rw [hring, hcfg] at hy
    obtain ⟨hb, ho, hu⟩ := hbelow hy
    rw [hb, ho, hu]
    exact h.unstruck ((holds_congr hboot hcfg .screw).symm.trans hs) (by omega)

theorem EndMove.newRing (h : EndMove w s t) (hs : NewRing s) : NewRing t := by
  have hboot := boot_of_kept h.kept
  have hcfg := cfg_of_kept h.kept
  cases h with
  | aRing hm hlt => exact newRing_setARing hs hlt
  | marked | own | queued | machineA | alarm => exact hs.of_accounts hboot hcfg rfl rfl rfl rfl rfl
  | reference | weight | causes | gate =>
    refine hs.of_accounts hboot hcfg ?_ ?_ ?_ ?_ ?_
    all_goals simp

theorem EndMoves.newRing (h : EndMoves w s t) (hs : NewRing s) : NewRing t :=
  h.keeps (P := NewRing) (fun _ _ hm hu => hm.newRing hu) hs

/-! ## A ring no peer has advanced in (R40, R41) -/

/-- Nothing of ring `r` has been advanced: A_ring, A and the THRUST contents of the ring are 0. -/
structure Unadvanced (r : Nat) (s : State) : Prop where
  ring     : s.adv.ring = r
  advance  : s.adv.advance = 0
  aRing    : s.adv.aRing = 0
  machineA : s.adv.machineA = 0
  contents : ∀ n b, (s.table.entry n).thrust.content = some b → b.ring = r → b.advance = 0

variable {r : Nat}

theorem Unadvanced.of_eq (h : Unadvanced r s) (ha : t.adv = s.adv) (hs : t.table.stations = s.table.stations) : Unadvanced r t := by
  refine ⟨?_, ?_, ?_, ?_, fun n b hb => ?_⟩
  · rw [ha]
    exact h.ring
  · rw [ha]
    exact h.advance
  · rw [ha]
    exact h.aRing
  · rw [ha]
    exact h.machineA
  · rw [entry_congr hs] at hb
    exact h.contents n b hb

/-- With nothing advanced the mean of the contributing set is 0 (R40). -/
theorem Unadvanced.mean (h : Unadvanced r s) : machineAdvanceOf s.contributingThrust s.adv.machineA = 0 := by
  have hzero : ∀ y ∈ s.contributingThrust.map (·.advance), y = 0 := by
    intro y hy
    obtain ⟨b, hb, rfl⟩ := List.mem_map.mp hy
    unfold State.contributingThrust at hb
    obtain ⟨hmem, hring⟩ := List.mem_filter.mp hb
    obtain ⟨p, hp, hcount⟩ := List.mem_filterMap.mp hmem
    obtain ⟨n, -, rfl⟩ := List.mem_map.mp hp
    have hcontent : (s.table.entry n).thrust.content = some b := by
      unfold StationEntry.counts Slot.now? at hcount
      split at hcount
      · split at hcount
        · exact hcount
        · exact absurd hcount (by simp)
      · exact absurd hcount (by simp)
    refine h.contents n b hcontent ?_
    rw [← h.ring]
    simp only [Bool.and_eq_true, beq_iff_eq] at hring
    exact hring.2
  unfold machineAdvanceOf
  rw [List.sum_eq_zero hzero, h.machineA]
  split
  · rfl
  · unfold halfUpMean
    rw [Nat.zero_add]
    exact Nat.div_eq_of_lt (by omega)

theorem EndMove.unadvanced (h : EndMove w s t) (hs : Unadvanced r s) : Unadvanced r t := by
  cases h with
  | aRing hm hlt =>
    rw [hs.aRing, hs.machineA] at hlt
    exact absurd hlt (by omega)
  | machineA hb => exact ⟨hs.ring, hs.advance, hs.aRing, hs.mean, hs.contents⟩
  | own k hk hb hw =>
    refine ⟨hs.ring, hs.advance, hs.aRing, hs.machineA, fun n b hc hr => ?_⟩
    rcases entry_putOwnEntry (s.ownEntry.write (s.timer s.cfg.lapseTime) (s.content k)) s n with he | ⟨hn, he⟩
    · rw [he] at hc
      exact hs.contents n b hc hr
    · rw [he] at hc
      cases k with
      | thrust =>
        have hbody : s.thrustBody = b := by
          simpa [State.content, StationEntry.write] using hc
        rw [← hbody]
        exact hs.advance
      | stop | claim | drive | screw | grout | status | id => exact hs.contents _ b hc hr
  | marked | queued | alarm => exact hs.of_eq rfl rfl
  | reference | weight | causes | gate =>
    refine hs.of_eq ?_ ?_
    all_goals simp

theorem EndMoves.unadvanced (h : EndMoves w s t) (hs : Unadvanced r s) : Unadvanced r t :=
  h.keeps (P := Unadvanced r) (fun _ _ hm hu => hm.unadvanced hu) hs

/-! ## The close (R48, R49) -/

@[simp] theorem frame_closeShoe (s : State) :
    (closeShoe s).port = s.port ∧ (closeShoe s).table = s.table ∧ (closeShoe s).adv = s.adv ∧ (closeShoe s).drive = s.drive ∧
      (closeShoe s).grout = s.grout ∧ (closeShoe s).muck = s.muck ∧ (closeShoe s).faults = s.faults ∧
      (closeShoe s).events = s.events := by
  unfold closeShoe
  split <;> simp

/-- The state that a close hands to the peer table: the accounts emptied, the units closed (R48 steps 1 to 4, R107, R116, R142). -/
def State.ringClosed (s : State) (withCarry : Bool) (ring : Nat) : State :=
  closeShoe (closeMuck (closeGrout withCarry { s with adv := { s.adv with
    ring := ring, base := s.adv.stroke, advance := 0, machineA := 0, aRing := 0, void := 0, mExp := 0, grease := 0
    milestones := 0, rate := 0, rateBase := 0
    rateTimer := if s.onBackbone then s.timer s.cfg.rateWindow else s.adv.rateTimer } }))

theorem closeRing_eq (withCarry : Bool) (ring : Nat) (s : State) :
    closeRing withCarry ring s = settle (triggerSave (tableChanged (s.ringClosed withCarry ring))) := rfl

theorem adv_ringClosed (withCarry : Bool) (ring : Nat) (s : State) : (s.ringClosed withCarry ring).adv = { s.adv with
    ring := ring, base := s.adv.stroke, advance := 0, machineA := 0, aRing := 0, void := 0, mExp := 0, grease := 0
    milestones := 0, rate := 0, rateBase := 0
    rateTimer := if s.onBackbone then s.timer s.cfg.rateWindow else s.adv.rateTimer } := by
  unfold State.ringClosed
  simp

/-- What a close leaves beside the accounts, the grout and muck units and the shoe. -/
theorem frame_ringClosed (withCarry : Bool) (ring : Nat) (s : State) :
    (s.ringClosed withCarry ring).boot = s.boot ∧ (s.ringClosed withCarry ring).cfg = s.cfg ∧
      (s.ringClosed withCarry ring).port = s.port ∧ (s.ringClosed withCarry ring).table = s.table ∧
      (s.ringClosed withCarry ring).drive = s.drive ∧ (s.ringClosed withCarry ring).faults = s.faults ∧
      (s.ringClosed withCarry ring).events = s.events := by
  unfold State.ringClosed
  simp

theorem grout_closeGrout (withCarry : Bool) (hg : s.holds .grout = true) : (closeGrout withCarry s).grout.delivered = 0 ∧
    (closeGrout withCarry s).grout.void = 0 ∧ (closeGrout withCarry s).grout.carry =
      if withCarry then clampInt (-(s.cfg.carryMax : Int)) s.cfg.carryMax s.grout.deficit else 0 := by
  unfold closeGrout decideHoldRequest
  rw [if_pos hg]
  simp

theorem muck_closeMuck (hs : s.holds .screw = true) :
    (closeMuck s).muck = { s.muck with mMeas := 0, balance := 0, overdig := false, underdig := false } := by
  unfold closeMuck
  rw [if_pos hs]

theorem shoe_closeShoe (ht : s.holds .thrust = true) :
    (closeShoe s).shoe = { s.shoe with lastServed := 0, expired := [] } := by
  unfold closeShoe
  rw [if_pos ht]

/-- What the units hold after a close. -/
theorem units_ringClosed (withCarry : Bool) (ring : Nat) (s : State) :
    (s.holds .grout = true → (s.ringClosed withCarry ring).grout.delivered = 0 ∧ (s.ringClosed withCarry ring).grout.void = 0 ∧
      (s.ringClosed withCarry ring).grout.carry =
        if withCarry then clampInt (-(s.cfg.carryMax : Int)) s.cfg.carryMax s.grout.deficit else 0) ∧
    (s.holds .screw = true → (s.ringClosed withCarry ring).muck.mMeas = 0 ∧ (s.ringClosed withCarry ring).muck.balance = 0 ∧
      (s.ringClosed withCarry ring).muck.overdig = false ∧ (s.ringClosed withCarry ring).muck.underdig = false) ∧
    (s.holds .thrust = true → (s.ringClosed withCarry ring).shoe.lastServed = 0 ∧ (s.ringClosed withCarry ring).shoe.expired = []) := by
  obtain ⟨a, ha⟩ : ∃ a : State, a = { s with adv := { s.adv with
    ring := ring, base := s.adv.stroke, advance := 0, machineA := 0, aRing := 0, void := 0, mExp := 0, grease := 0
    milestones := 0, rate := 0, rateBase := 0
    rateTimer := if s.onBackbone then s.timer s.cfg.rateWindow else s.adv.rateTimer } } := ⟨_, rfl⟩
  have hclosed : s.ringClosed withCarry ring = closeShoe (closeMuck (closeGrout withCarry a)) := by
    rw [ha]
    rfl
  have hholds (o : Role) : a.holds o = s.holds o := by rw [ha]; rfl
  have hcfg : a.cfg = s.cfg := by rw [ha]
  have hdeficit : a.grout.deficit = s.grout.deficit := by rw [ha]
  rw [hclosed]
  refine ⟨fun hg => ?_, fun hs => ?_, fun ht => ?_⟩
  · have h := grout_closeGrout withCarry ((hholds .grout).trans hg)
    rw [hcfg, hdeficit] at h
    simpa using h
  · rw [(frame_closeShoe _).2.2.2.2.2.1, muck_closeMuck ((holds_congr (by simp) (by simp) .screw).trans ((hholds .screw).trans hs))]
    exact ⟨rfl, rfl, rfl, rfl⟩
  · rw [shoe_closeShoe ((holds_congr (by simp) (by simp) .thrust).trans ((hholds .thrust).trans ht))]
    exact ⟨rfl, rfl⟩

theorem newRing_ringClosed (withCarry : Bool) (ring : Nat) (s : State) : NewRing (s.ringClosed withCarry ring) := by
  have hadv := adv_ringClosed withCarry ring s
  obtain ⟨hboot, hcfg, -⟩ := frame_ringClosed withCarry ring s
  obtain ⟨hgrout, hscrew, -⟩ := units_ringClosed withCarry ring s
  generalize s.ringClosed withCarry ring = t at *
  refine ⟨?_, ?_, ?_, ?_, fun hg => ?_, fun hs _ => ?_⟩
  · rw [hadv]
    simp [voidOf, roundHalfUp]
  · rw [hadv]
    simp [expectedMass, roundHalfUp]
  · rw [hadv]
    simp
  · rw [hadv]
    simp
  · rw [hadv]
    exact (hgrout ((holds_congr hboot hcfg .grout).symm.trans hg)).2.1
  · exact (hscrew ((holds_congr hboot hcfg .screw).symm.trans hs)).2

theorem unadvanced_ringClosed (withCarry : Bool)
    (hs : ∀ n b, (s.table.entry n).thrust.content = some b → b.ring ≠ r) : Unadvanced r (s.ringClosed withCarry r) := by
  have hadv := adv_ringClosed withCarry r s
  obtain ⟨-, -, -, htable, -⟩ := frame_ringClosed withCarry r s
  refine ⟨by rw [hadv], by rw [hadv], by rw [hadv], by rw [hadv], fun n b hb hr => ?_⟩
  rw [htable] at hb
  exact absurd hr (hs n b hb)

/-- The close as a run from the state it hands to the peer table, the save apart. -/
theorem newRing_closeRing (withCarry : Bool) (ring : Nat) (s : State) : NewRing (closeRing withCarry ring s) := by
  rw [closeRing_eq]
  have htable := (endMoves_tableChanged (w := forChange) (.refl (a := s.ringClosed withCarry ring))).newRing
    (newRing_ringClosed withCarry ring s)
  exact (endMoves_settle .refl).newRing (htable.of_still (still_triggerSave _))

theorem unadvanced_closeRing (withCarry : Bool)
    (hs : ∀ n b, (s.table.entry n).thrust.content = some b → b.ring ≠ r) : Unadvanced r (closeRing withCarry r s) := by
  rw [closeRing_eq]
  have htable := (endMoves_tableChanged (w := forChange) (.refl (a := s.ringClosed withCarry r))).unadvanced
    (unadvanced_ringClosed withCarry hs)
  exact (endMoves_settle .refl).unadvanced (htable.of_eq (still_triggerSave _).adv (still_triggerSave _).stations)

theorem kept_closeRing (withCarry : Bool) (ring : Nat) (s : State) :
    (closeRing withCarry ring s).kept = (s.ringClosed withCarry ring).kept := by
  rw [closeRing_eq, kept_settle, kept_triggerSave, kept_tableChanged]

/-- Outside EXCAVATE the A_ring of a close stays 0. -/
theorem aRing_closeRing (withCarry : Bool) (ring : Nat) (hm : s.table.mode ≠ .excavate) :
    (closeRing withCarry ring s).adv.aRing = 0 := by
  rw [closeRing_eq]
  have hadv := adv_ringClosed withCarry ring s
  obtain ⟨-, -, -, htable, -⟩ := frame_ringClosed withCarry ring s
  generalize s.ringClosed withCarry ring = p at *
  have hquiet := quiet_tableChanged (s := p) (by rw [htable]; exact hm)
  have hsave := still_triggerSave (tableChanged p)
  have hmode : (triggerSave (tableChanged p)).table.mode ≠ .excavate := by
    rw [mode_of_kept ((kept_triggerSave _).trans hquiet.kept), htable]
    exact hm
  have hsettle := (endMoves_settle (.refl (a := triggerSave (tableChanged p)))).quiet hmode
  rw [(congrArg Advance.aRing hsettle.adv).trans rfl, hsave.adv, (congrArg Advance.aRing hquiet.adv).trans rfl, hadv]

/-! ## The mode of the MODE (R24, R42) -/

theorem still_mode (m : EffMode) (s : State) : Still s { s with table := { s.table with mode := m } } :=
  ⟨rfl, rfl, rfl, rfl, rfl, rfl, rfl, rfl⟩

/-- A mode taken leaves the accounts to the update of A_ring (R42). -/
theorem still_setMode {m : EffMode} (h : m ≠ s.table.mode) :
    Still (updateARing { s with table := { s.table with mode := m } }) (setMode m s) := by
  rw [setMode_of_ne h]
  unfold State.modeTaken
  generalize updateARing { s with table := { s.table with mode := m } } = p
  have hmode := ((still_decideLine p).trans (still_decideScrew _)).trans (still_regimeEvent _)
  refine Still.trans ?_ (still_refreshGates _)
  split
  · exact hmode
  · exact hmode.trans (still_abortBuild _)

theorem newRing_setMode (m : EffMode) (h : NewRing s) : NewRing (setMode m s) := by
  by_cases hm : m = s.table.mode
  · rw [setMode_of_same hm]
    exact h
  · refine NewRing.of_still ?_ (still_setMode hm)
    exact (endMoves_updateARing (w := anyKind) .refl).newRing (h.of_still (still_mode m s))

theorem unadvanced_setMode (m : EffMode) (h : Unadvanced r s) : Unadvanced r (setMode m s) := by
  by_cases hm : m = s.table.mode
  · rw [setMode_of_same hm]
    exact h
  · have hupdate := (endMoves_updateARing (w := anyKind) (.refl (a := { s with table := { s.table with mode := m } }))).unadvanced
      (h.of_eq rfl rfl)
    exact hupdate.of_eq (still_setMode hm).adv (still_setMode hm).stations

theorem adv_setMode {m : EffMode} (hne : m ≠ .excavate) (s : State) : (setMode m s).adv = s.adv := by
  by_cases hm : m = s.table.mode
  · rw [setMode_of_same hm]
  · rw [(still_setMode hm).adv]
    unfold updateARing
    rw [if_neg fun h => hne h.1]

/-- A mode taken leaves the step accounts of the shoe. -/
theorem steps_setMode (m : EffMode) (s : State) :
    (setMode m s).shoe.lastServed = s.shoe.lastServed ∧ (setMode m s).shoe.expired = s.shoe.expired := by
  have hextend (u : State) : (enterExtending u).shoe.lastServed = u.shoe.lastServed ∧
      (enterExtending u).shoe.expired = u.shoe.expired := by
    simp [enterExtending]
  have habort (u : State) : (abortBuild u).shoe.lastServed = u.shoe.lastServed ∧
      (abortBuild u).shoe.expired = u.shoe.expired := by
    unfold abortBuild abortByState
    split
    · split
      · exact ⟨rfl, rfl⟩
      · exact ⟨rfl, rfl⟩
      · exact ⟨rfl, rfl⟩
      · exact hextend u
      · split
        · exact ⟨rfl, rfl⟩
        · exact hextend u
    · exact ⟨rfl, rfl⟩
  by_cases hm : m = s.table.mode
  · rw [setMode_of_same hm]
    exact ⟨rfl, rfl⟩
  · have hshoe : (s.modeTaken m).shoe = s.shoe := by simp [State.modeTaken]
    rw [setMode_of_ne hm, shoe_of_kept (kept_refreshGates _)]
    split
    · rw [hshoe]
      exact ⟨rfl, rfl⟩
    · obtain ⟨h1, h2⟩ := habort (s.modeTaken m)
      rw [h1, h2, hshoe]
      exact ⟨rfl, rfl⟩

theorem grows_setMode (m : EffMode) (s : State) : Grows s (setMode m s) := by
  by_cases hm : m = s.table.mode
  · rw [setMode_of_same hm]
    exact .of_eq rfl
  · have hupdate : Grows s (updateARing { s with table := { s.table with mode := m } }) := (grows_updateARing _).from rfl
    refine hupdate.trans (.of_eq ?_)
    rw [setMode_of_ne hm]
    unfold State.modeTaken
    generalize updateARing { s with table := { s.table with mode := m } } = p
    split <;> simp

/-! ## E up to the close (R115) -/

theorem liveWeight_congr (hs : t.table.stations = s.table.stations) (hr : t.adv.ring = s.adv.ring) :
    t.liveWeight = s.liveWeight := by
  unfold State.liveWeight
  rw [numbered_congr hs]
  refine congrArg List.sum (List.map_congr_left fun p _ => ?_)
  unfold State.weightOf
  rw [hr]

theorem contributingThrust_congr (hs : t.table.stations = s.table.stations) (hr : t.adv.ring = s.adv.ring) :
    t.contributingThrust = s.contributingThrust := by
  unfold State.contributingThrust
  rw [numbered_congr hs, hr]

/-- Where the accounts are true, or the grout weight alone outside EXCAVATE, a console's content leaves E (R114, R115). -/
theorem deficit_takeConsole (b : Bulletin) (hg : s.holds .grout = true)
    (h : AccountsTrue s ∨ s.grout.weight = s.liveWeight ∧ s.table.mode ≠ .excavate) :
    (takeContent 0 b s).grout.deficit = s.grout.deficit := by
  have hweight : s.liveWeight = s.grout.weight := by
    rcases h with h | ⟨hw, -⟩
    · exact (h.grout hg).2.symm
    · exact hw.symm
  have hstands : s.onBackbone = true → ¬(s.table.mode = .excavate ∧
      s.adv.aRing < machineAdvanceOf s.contributingThrust s.adv.machineA) := by
    rintro hb ⟨hm, hlt⟩
    rcases h with h | ⟨-, hne⟩
    · have hmean : machineAdvanceOf s.contributingThrust s.adv.machineA = s.adv.machineA := by
        unfold machineAdvanceOf
        split
        · rfl
        · rename_i hlen
          exact (h.mean hb fun hnil => hlen (by rw [hnil]; rfl)).symm
      have hfollows := h.follows hm
      omega
    · exact hne hm
  obtain ⟨y, hy⟩ : ∃ y : State, y = { s with table := { s.table with console := s.table.console.write (s.timer s.cfg.lapseTime) b } } :=
    ⟨_, rfl⟩
  have htake : takeContent 0 b s = tableChanged y := by
    unfold takeContent takeConsole
    rw [if_pos rfl, hy]
  have hystations : y.table.stations = s.table.stations := by rw [hy]
  have hymode : y.table.mode = s.table.mode := by rw [hy]
  have hyadv : y.adv = s.adv := by rw [hy]
  have hygrout : y.grout = s.grout := by rw [hy]
  have hyback : y.onBackbone = s.onBackbone := by rw [hy]; rfl
  have hyholds : y.holds .grout = s.holds .grout := by rw [hy]; rfl
  obtain ⟨z, hz⟩ : ∃ z, z = refreshReference y := ⟨_, rfl⟩
  have hzkept : z.kept = y.kept := by rw [hz]; exact kept_refreshReference y
  have hzadv : z.adv = s.adv := by rw [hz]; simp [hyadv]
  have hzstations : z.table.stations = s.table.stations := by rw [hz]; simp [hystations]
  have hzdeficit : z.grout.deficit = s.grout.deficit := by rw [hz]; simp [hygrout]
  have hzweight : z.grout.weight = s.grout.weight := by rw [hz]; simp [hygrout]
  have hzmode : z.table.mode = s.table.mode := (mode_of_kept hzkept).trans hymode
  have hzback : z.onBackbone = s.onBackbone := (onBackbone_of_kept hzkept).trans hyback
  obtain ⟨a, ha⟩ : ∃ a, recomputeAdvance z = { z with adv := { z.adv with machineA := a } } := by
    unfold recomputeAdvance
    split
    · rename_i hb
      refine ⟨_, if_neg ?_⟩
      dsimp only
      rw [hzmode, hzadv, contributingThrust_congr hzstations (by rw [hzadv])]
      exact hstands (hzback.symm.trans hb)
    · exact ⟨z.adv.machineA, rfl⟩
  have hsame : refreshWeight (recomputeAdvance z) = recomputeAdvance z := by
    refine refreshWeight_of_handed fun _ => ?_
    rw [ha]
    dsimp only
    rw [hzweight, ← hweight]
    exact liveWeight_congr hzstations (by
      dsimp only
      rw [hzadv])
  rw [htake]
  unfold tableChanged
  rw [← hz, hsame, ha, ← hzdeficit]
  simp

/-! ## The command (R47) -/

theorem kept_takeMode (m : MachineMode) (s : State) : ∃ mode sh st cmd out l, (takeMode m s).kept =
    { s.kept with mode := mode, shoe := sh, screw := st, nCmd := cmd, nOut := out, duties := l } := by
  unfold takeMode
  split
  · obtain ⟨sh, st, cmd, out, l, hk, -⟩ := kept_setMode m.effective s
    exact ⟨_, sh, st, cmd, out, l, hk⟩
  · exact ⟨_, _, _, _, _, _, rfl⟩

theorem newRing_takeMode (m : MachineMode) (h : NewRing s) : NewRing (takeMode m s) := by
  unfold takeMode
  split
  · exact newRing_setMode _ h
  · exact h

theorem unadvanced_takeMode (m : MachineMode) (h : Unadvanced r s) : Unadvanced r (takeMode m s) := by
  unfold takeMode
  split
  · exact unadvanced_setMode _ h
  · exact h

theorem grows_takeMode (m : MachineMode) (s : State) : Grows s (takeMode m s) := by
  unfold takeMode
  split
  · exact grows_setMode _ s
  · exact .of_eq rfl

theorem steps_takeMode (m : MachineMode) (s : State) :
    (takeMode m s).shoe.lastServed = s.shoe.lastServed ∧ (takeMode m s).shoe.expired = s.shoe.expired := by
  unfold takeMode
  split
  · exact steps_setMode _ s
  · exact ⟨rfl, rfl⟩

/-- Where no mode is EXCAVATE a MODE leaves A_ring as the close has left it. -/
theorem aRing_takeMode {m : MachineMode} (hm : m ≠ .excavate) (hs : s.table.mode ≠ .excavate) :
    (takeMode m s).adv.aRing = s.adv.aRing ∧ (takeMode m s).table.mode ≠ .excavate := by
  have heffective : m.effective ≠ .excavate := by
    cases m with
    | excavate => exact absurd rfl hm
    | standby | build => simp [MachineMode.effective]
  unfold takeMode
  split
  · obtain ⟨_, _, _, _, _, hk, -⟩ := kept_setMode m.effective s
    refine ⟨congrArg Advance.aRing (adv_setMode heffective s), ?_⟩
    have hmode : (setMode m.effective s).table.mode = m.effective := congrArg Kept.mode hk
    rw [hmode]
    exact heffective
  · exact ⟨rfl, hs⟩

/-- What a close or a jump leaves: the state closed, kept, with its accounts those of the new ring. -/
structure Closed (s w : State) (withCarry : Bool) (ring : Nat) : Prop where
  kept       : w.kept = (s.ringClosed withCarry ring).kept
  accounts   : NewRing w
  unadvanced : (∀ n b, (s.table.entry n).thrust.content = some b → b.ring ≠ ring) → Unadvanced ring w
  aRing      : s.table.mode ≠ .excavate → w.adv.aRing = 0

theorem closed_takeRing {ring : Nat} (hlt : s.adv.ring < ring) :
    Closed s (takeRing ring s) (decide (ring = s.adv.ring + 1)) ring ∧
      (s.adv.ring + 1 < ring → (takeRing ring s).events.flags &&& EventFlag.ringJump.mask = EventFlag.ringJump.mask) := by
  have hclosed (wc : Bool) : Closed s (closeRing wc ring s) wc ring :=
    ⟨kept_closeRing wc ring s, newRing_closeRing wc ring s, unadvanced_closeRing wc, aRing_closeRing wc ring⟩
  unfold takeRing
  rw [if_neg (by omega)]
  by_cases hone : ring = s.adv.ring + 1
  · rw [if_pos hone]
    refine ⟨?_, fun h => by omega⟩
    rw [decide_eq_true hone]
    exact hclosed true
  · rw [if_neg hone, if_pos hlt, decide_eq_false hone]
    have h := hclosed false
    generalize closeRing false ring s = w at *
    exact ⟨⟨h.kept, h.accounts.of_still ⟨rfl, rfl, rfl, rfl, rfl, rfl, rfl, rfl⟩, fun hs => (h.unadvanced hs).of_eq rfl rfl, h.aRing⟩,
      fun _ => raised_mask _ w⟩

theorem takeRing_backward {ring : Nat} (hlt : ring < s.adv.ring) : takeRing ring s = raiseEvent .ringBackward s := by
  unfold takeRing
  rw [if_neg (by omega), if_neg (by omega), if_neg (by omega)]

/-- What every ring number taken leaves. -/
theorem frame_takeRing (ring : Nat) (s : State) : (takeRing ring s).boot = s.boot ∧ (takeRing ring s).cfg = s.cfg ∧
    (takeRing ring s).port.rx = s.port.rx ∧ (takeRing ring s).faults = s.faults ∧ (takeRing ring s).drive = s.drive ∧
    (takeRing ring s).events.stopped = s.events.stopped ∧ (takeRing ring s).adv.stroke = s.adv.stroke := by
  rcases Nat.lt_trichotomy ring s.adv.ring with hlt | heq | hgt
  · rw [takeRing_backward hlt]
    exact ⟨rfl, rfl, rfl, rfl, rfl, rfl, rfl⟩
  · unfold takeRing
    rw [if_pos heq]
    exact ⟨rfl, rfl, rfl, rfl, rfl, rfl, rfl⟩
  · have hk := (closed_takeRing hgt).1.kept
    have hadv := adv_ringClosed (decide (ring = s.adv.ring + 1)) ring s
    obtain ⟨hboot, hcfg, hport, -, hdrive, hfaults, hevents⟩ := frame_ringClosed (decide (ring = s.adv.ring + 1)) ring s
    have hstroke := congrArg Kept.stroke hk
    have hrx := congrArg Kept.rx hk
    have hstopped := congrArg Kept.stopped hk
    exact ⟨(congrArg Kept.boot hk).trans hboot, (congrArg Kept.cfg hk).trans hcfg, hrx.trans (congrArg Port.rx hport),
      (congrArg Kept.faults hk).trans hfaults, (congrArg Kept.drive hk).trans hdrive,
      hstopped.trans (congrArg Events.stopped hevents), hstroke.trans ((congrArg Advance.stroke hadv).trans rfl)⟩

/-- What the mode taken and the end of the event leave of the ring just taken. -/
structure Ended (w t : State) : Prop where
  kept       : ∃ mode sh st cmd out l, t.kept =
    { w.kept with mode := mode, shoe := sh, screw := st, nCmd := cmd, nOut := out, duties := l }
  steps      : t.shoe.lastServed = w.shoe.lastServed ∧ t.shoe.expired = w.shoe.expired
  accounts   : NewRing w → NewRing t
  unadvanced : ∀ r, Unadvanced r w → Unadvanced r t
  grows      : Grows w t

theorem ended_modeTaken (m : MachineMode) (w : State) : Ended w (finish (takeMode m w)) := by
  have hkept := kept_finish (takeMode m w)
  obtain ⟨mode, sh, st, cmd, out, l, hk⟩ := kept_takeMode m w
  obtain ⟨hserved, hexpired⟩ := steps_takeMode m w
  have hshoe := shoe_of_kept hkept
  refine ⟨⟨mode, sh, st, cmd, out, l, hkept.trans hk⟩, ⟨by rw [hshoe, hserved], by rw [hshoe, hexpired]⟩,
    fun h => (endMoves_finish _).newRing (newRing_takeMode m h), fun _ h => (endMoves_finish _).unadvanced (unadvanced_takeMode m h),
    (grows_takeMode m w).trans (grows_finish _)⟩

theorem aRing_ended {m : MachineMode} (hm : m ≠ .excavate) (hs : s.table.mode ≠ .excavate) :
    (finish (takeMode m s)).adv.aRing = s.adv.aRing := by
  obtain ⟨hring, hmode⟩ := aRing_takeMode hm hs
  exact ((congrArg Advance.aRing (quiet_finish hmode).adv).trans rfl).trans hring

/-- A content of no numbered station, of none at all. -/
theorem noThrust_of_stations (h : ∀ n ∈ stationNumbers, ∀ c, (s.table.entry n).thrust.content = some c → c.ring ≠ r) :
    ∀ n c, (s.table.entry n).thrust.content = some c → c.ring ≠ r := by
  intro n c hc
  by_cases hn : n ∈ stationNumbers
  · exact h n hn c hc
  · have hnone : (s.table.entry n).thrust.content = none := by
      unfold PeerTable.entry
      split
      · rw [List.getD_eq_default]
        · rfl
        · simp only [stationNumbers, List.mem_cons, List.not_mem_nil, or_false, not_or] at hn
          simp only [Vector.length_toList]
          omega
      · rfl
    rw [hnone] at hc
    exact absurd hc (by simp)

/-- A console's content moves no entry of a station. -/
theorem stations_takeConsole (b : Bulletin) (s : State) : (takeContent 0 b s).table.stations = s.table.stations := by
  unfold takeContent takeConsole
  rw [if_pos rfl, table_tableChanged]
  simp

/-- The accounts of a station that has taken a frame from its buffer are true still. -/
theorem AccountsTrue.popped (h : AccountsTrue s) {f : RxFrame} {rest : List RxFrame} (hrx : s.port.rx = f :: rest) :
    AccountsTrue { s with port := { s.port with rx := rest } } := by
  refine ⟨fun hp => ?_, h.mean, h.follows, h.void, h.mass, h.grout⟩
  obtain ⟨-, hempty, -⟩ := h.before hp
  rw [hrx] at hempty
  exact absurd hempty (by simp)

end Sys2Proof.Machine

open Sys2Proof Sys2Proof.Machine

/-- Settles O37: the accounts of the new ring from the close on, through the mode taken and the end of the event. -/
theorem ringNumberClosesRing : Obligations.RingNumberClosesRing := by
  intro s b rest hrx hring
  have hexec : exec .modeTaken s = answer (takeMode b.mode (takeRing b.ring (takeContent 0 (.mode b)
      { s with port := { s.port with rx := rest } }))) := by
    rw [← popFrame_of_rx hrx]
    change execModeTaken s = _
    unfold execModeTaken
    rw [hrx]
  have hv := kept_takePopped (.mode b) rest s
  have hstations : (takeContent 0 (.mode b) { s with port := { s.port with rx := rest } }).table.stations = s.table.stations :=
    stations_takeConsole _ _
  have hdeficit (hg : s.holds .grout = true) (h : AccountsTrue s ∨ s.grout.weight = s.liveWeight ∧ s.table.mode ≠ .excavate) :
      (takeContent 0 (.mode b) { s with port := { s.port with rx := rest } }).grout.deficit = s.grout.deficit :=
    deficit_takeConsole (s := { s with port := { s.port with rx := rest } }) (.mode b) hg (h.imp_left fun ha => ha.popped hrx)
  generalize takeContent 0 (.mode b) { s with port := { s.port with rx := rest } } = v at *
  have hvboot : v.boot = s.boot := congrArg Kept.boot hv
  have hvcfg : v.cfg = s.cfg := congrArg Kept.cfg hv
  have hvring : v.adv.ring = s.adv.ring := congrArg Kept.ring hv
  have hvstroke : v.adv.stroke = s.adv.stroke := congrArg Kept.stroke hv
  have hvmode : v.table.mode = s.table.mode := congrArg Kept.mode hv
  have hvholds (o : Role) : v.holds o = s.holds o := holds_congr hvboot hvcfg o
  obtain ⟨hboot, hcfg, hwrx, hfaults, hdrive, hstopped, hstroke⟩ := frame_takeRing b.ring v
  have hended := ended_modeTaken b.mode (takeRing b.ring v)
  have haring := aRing_ended (s := takeRing b.ring v) (m := b.mode)
  have hclosed := @closed_takeRing v b.ring
  have hbackward := @takeRing_backward v b.ring
  rw [answer_eq] at hexec
  generalize takeRing b.ring v = w at *
  generalize finish (takeMode b.mode w) = t at *
  obtain ⟨mode, sh, st, cmd, out, l, ht⟩ := hended.kept
  obtain ⟨hserved, hexpired⟩ := hended.steps
  have htcfg : t.cfg = s.cfg := (congrArg Kept.cfg ht).trans (hcfg.trans hvcfg)
  have htboot : t.boot = s.boot := (congrArg Kept.boot ht).trans (hboot.trans hvboot)
  have htholds (o : Role) : t.holds o = s.holds o := holds_congr htboot htcfg o
  refine ⟨t, hexec, (congrArg Kept.rx ht).trans (hwrx.trans (congrArg Kept.rx hv)), htcfg, htboot,
    (congrArg Kept.faults ht).trans (hfaults.trans (congrArg Kept.faults hv)),
    (congrArg Kept.drive ht).trans (hdrive.trans (congrArg Kept.drive hv)),
    (congrArg Kept.stopped ht).trans (hstopped.trans (congrArg Kept.stopped hv)),
    (congrArg Kept.stroke ht).trans (hstroke.trans hvstroke), fun hlt => ?_, fun hlt => ?_, fun hlt => ?_⟩
  · obtain ⟨hc, -⟩ := hclosed (by omega)
    have hk := hc.kept
    obtain ⟨hgrout, hscrew, hshoe⟩ := units_ringClosed (decide (b.ring = v.adv.ring + 1)) b.ring v
    have hadv := adv_ringClosed (decide (b.ring = v.adv.ring + 1)) b.ring v
    obtain ⟨-, -, -, htable, -⟩ := frame_ringClosed (decide (b.ring = v.adv.ring + 1)) b.ring v
    generalize v.ringClosed (decide (b.ring = v.adv.ring + 1)) b.ring = u at *
    have haccounts := hended.accounts hc.accounts
    have hwmode : w.table.mode = s.table.mode := (mode_of_kept hk).trans ((congrArg PeerTable.mode htable).trans hvmode)
    have hring := (congrArg Kept.ring ht).trans ((congrArg Kept.ring hk).trans ((congrArg Advance.ring hadv).trans rfl))
    have hbase := (congrArg Kept.base ht).trans ((congrArg Kept.base hk).trans ((congrArg Advance.base hadv).trans rfl))
    have hadvance := (congrArg Kept.advance ht).trans ((congrArg Kept.advance hk).trans ((congrArg Advance.advance hadv).trans rfl))
    have hrate := (congrArg Kept.rate ht).trans ((congrArg Kept.rate hk).trans ((congrArg Advance.rate hadv).trans rfl))
    have hrateBase := (congrArg Kept.rateBase ht).trans ((congrArg Kept.rateBase hk).trans ((congrArg Advance.rateBase hadv).trans rfl))
    have hdelivered : t.grout.delivered = u.grout.delivered := (congrArg Kept.delivered ht).trans (congrArg Kept.delivered hk)
    have hcarry : t.grout.carry = u.grout.carry := (congrArg Kept.carry ht).trans (congrArg Kept.carry hk)
    have hmeas : t.muck.mMeas = u.muck.mMeas := (congrArg Kept.mMeas ht).trans (congrArg Kept.mMeas hk)
    refine ⟨hring, hbase.trans hvstroke, hadvance, hrate, hrateBase, ?_, ?_, ?_, ?_, ?_, fun hg => ⟨?_, ?_⟩, fun hg h => ?_,
      fun hs => ⟨?_, fun hy => ?_⟩, fun hs => ?_⟩
    · rw [← htcfg]
      exact haccounts.void
    · rw [← htcfg]
      exact haccounts.mass
    · rw [← htcfg]
      exact haccounts.grease
    · rw [← htcfg]
      exact haccounts.milestones
    · rintro (⟨hm, hb⟩ | hnone)
      · rw [haring hb (by rw [hwmode]; exact hm)]
        exact hc.aRing (by rw [hvmode]; exact hm)
      · refine (hended.unadvanced _ (hc.unadvanced fun n c hcontent => ?_)).aRing
        rw [entry_congr hstations] at hcontent
        exact noThrust_of_stations hnone n c hcontent
    · rw [hdelivered]
      exact (hgrout ((hvholds .grout).trans hg)).1
    · exact haccounts.handed ((htholds .grout).trans hg)
    · rw [hcarry, (hgrout ((hvholds .grout).trans hg)).2.2, hdeficit hg h, hvcfg, hvring]
      simp only [decide_eq_true_eq]
    · rw [hmeas]
      exact (hscrew ((hvholds .screw).trans hs)).1
    · exact haccounts.unstruck ((htholds .screw).trans hs) (by rw [htcfg]; exact hy)
    · rw [hserved, hexpired, shoe_of_kept hk]
      exact hshoe ((hvholds .thrust).trans hs)
  · exact hended.grows.mask ((hclosed (by omega)).2 (by omega))
  · have hw := hbackward (by omega)
    rw [hw] at ht hserved hended
    exact ⟨(congrArg Kept.ring ht).trans hvring, (congrArg Kept.base ht).trans (congrArg Kept.base hv),
      (congrArg Kept.advance ht).trans (congrArg Kept.advance hv), (congrArg Kept.delivered ht).trans (congrArg Kept.delivered hv),
      (congrArg Kept.carry ht).trans (congrArg Kept.carry hv), (congrArg Kept.mMeas ht).trans (congrArg Kept.mMeas hv),
      hserved.trans (congrArg (fun k => k.shoe.lastServed) hv), hended.grows.mask (raised_mask _ v)⟩

end

section
/-! A fault cleared (R161), and the grout line after it (R118, R126) (O40). -/
namespace Sys2Proof.Machine
open Sys2Proof

variable {s t u v y z e : State} {c : Instr} {w : State → OwnKind → Prop}

/-! ## An accepted clear (R161) -/

@[simp] theorem frame_acceptClear (j : Job) (s : State) :
    (acceptClear j s).boot = s.boot ∧ (acceptClear j s).cfg = s.cfg ∧ (acceptClear j s).port = s.port ∧
      (acceptClear j s).table = s.table ∧ (acceptClear j s).adv = s.adv ∧ (acceptClear j s).faults = s.faults.put j none ∧
      (acceptClear j s).events = s.events := by
  simp [acceptClear]

/-- The state that a job leaves FAULT in. -/
def State.cleared (s : State) (j : Job) : State := faultAreaChanged { s with faults := s.faults.put j none }

theorem acceptClear_eq (j : Job) (s : State) : acceptClear j s = refreshGates (leaveFault j (s.cleared j)) := rfl

theorem frame_cleared (j : Job) (s : State) :
    (s.cleared j).boot = s.boot ∧ (s.cleared j).cfg = s.cfg ∧ (s.cleared j).now = s.now ∧ (s.cleared j).port = s.port ∧
      (s.cleared j).drive = s.drive ∧ (s.cleared j).shoe = s.shoe ∧ (s.cleared j).events = s.events := by
  simp [State.cleared]

theorem drive_acceptClear (j : Job) (s : State) :
    (acceptClear j s).drive = if j = .drive then { s.drive with state := .off, nSet := 0 } else s.drive := by
  obtain ⟨-, -, -, -, hdrive, -, -⟩ := frame_cleared j s
  rw [acceptClear_eq, drive_of_kept (kept_refreshGates _)]
  generalize s.cleared j = v at *
  cases j with
  | drive => rw [if_pos rfl, ← hdrive]; rfl
  | station | grout | screw => exact hdrive
  | thrust =>
    rw [if_neg (by decide), ← hdrive]
    simp [leaveFault, clearShoeFault, enterExtending, apply_ite State.drive]

theorem state_acceptClear_screw (s : State) : (acceptClear .screw s).muck.state = .off := by
  rw [acceptClear_eq, screw_of_kept (kept_refreshGates _)]
  rfl

theorem shoe_acceptClear_of_ne {j : Job} (hj : j ≠ .thrust) (s : State) : (acceptClear j s).shoe = s.shoe := by
  obtain ⟨-, -, -, -, -, hshoe, -⟩ := frame_cleared j s
  rw [acceptClear_eq, shoe_of_kept (kept_refreshGates _)]
  cases j with
  | thrust => exact absurd rfl hj
  | station | grout | drive | screw => exact hshoe

/-- A group in CLEAR that may move goes on to EXTENDING (R106). -/
theorem shoe_acceptClear_thrust (hc : s.shoe.state = .clear) (hm : s.shoeMoves = true) :
    (acceptClear .thrust s).shoe.state = .extending ∧ (acceptClear .thrust s).shoe.extend = s.timer s.cfg.extendTimeout := by
  obtain ⟨hboot, hcfg, hnow, hport, -, hshoe, hevents⟩ := frame_cleared .thrust s
  rw [acceptClear_eq, shoe_of_kept (kept_refreshGates _)]
  generalize s.cleared .thrust = v at *
  have hmoves : v.shoeMoves = s.shoeMoves := by
    simp only [State.shoeMoves, State.shoeActs, State.holds, State.effectiveRoles, State.jobsRun, hboot, hcfg, hport, hevents]
  have htimer : v.timer v.cfg.extendTimeout = s.timer s.cfg.extendTimeout := by
    unfold State.timer
    rw [hnow, hcfg]
  unfold leaveFault clearShoeFault
  dsimp only
  rw [if_pos (by rw [hmoves, hm, hshoe, hc]; rfl)]
  unfold enterExtending
  rw [shoe_of_kept (kept_refreshGates _), ← htimer]
  simp

/-- The grout line leaves FAULT for IDLE with its accounts and its flags (R126). -/
theorem grout_acceptClear (s : State) : (acceptClear .grout s).grout.line = .idle ∧
    (acceptClear .grout s).grout.deficit = s.grout.deficit ∧ (acceptClear .grout s).grout.derate = s.grout.derate ∧
    (acceptClear .grout s).grout.weight = s.grout.weight := by
  have hgrout : (s.cleared .grout).grout = s.grout := by simp [State.cleared]
  rw [acceptClear_eq]
  generalize s.cleared .grout = v at *
  simp [leaveFault, examineBlocked, hgrout]

/-! ## The line at the end of the clear's event (R118) -/

/-- From IDLE at `z` a line stands where E and the derate flag stand, or at the first row of its table. -/
structure Rested (z v : State) : Prop where
  kept    : v.kept = z.kept
  serves  : v.grout.line ≠ .off ∧ v.grout.line ≠ .fault
  inRole  : v.holds .grout = true →
    v.grout.line = .idle ∧ v.grout.deficit = z.grout.deficit ∧ v.grout.derate = z.grout.derate ∨ v.grout.line = v.lineTable
  outside : v.holds .grout = false → v.grout.line = .idle

theorem Rested.of_like (h : Rested z u) (hk : PumpLike u v) (hd : v.grout.deficit = u.grout.deficit)
    (hr : v.grout.derate = u.grout.derate) : Rested z v := by
  have hholds := holds_of_kept hk.kept .grout
  have htable : v.lineTable = u.lineTable := by
    unfold State.lineTable
    rw [hd, hr, cfg_of_kept hk.kept, stopped_of_kept hk.kept, backbone_of_kept hk.kept, mode_of_kept hk.kept]
  refine ⟨hk.kept.trans h.kept, by rw [hk.line]; exact h.serves, ?_, ?_⟩
  · rw [hholds, hk.line, hd, hr, htable]
    exact h.inRole
  · rw [hholds, hk.line]
    exact h.outside

/-- The rows of the table of R118. -/
theorem lineTable_rows (s : State) : s.lineTable =
    if s.grout.deficit < (s.cfg.effectiveStroke : Int) then .idle
    else if s.events.stopped = true ∨ s.port.backbone = .isolated ∨ s.table.mode = .hold then .held
    else if s.grout.derate = true then .limited else .injecting := by
  unfold State.lineTable
  simp only [Bool.or_eq_true, beq_iff_eq, or_assoc]

theorem lineTable_setLine (l : LineState) (s : State) : (setLine l s).lineTable = s.lineTable := by
  rw [lineTable_eq_table, ledger_setLine]
  rfl

theorem PumpMove.rested (h : PumpMove u v) (hu : Rested z u) : Rested z v := by
  cases h with
  | same hk hd hr => exact hu.of_like hk hd hr
  | @decided x hk =>
    have hkept := (kept_decideLine x).trans hk.kept
    have hholds := holds_of_kept hk.kept .grout
    have hserves : x.grout.line ≠ .off ∧ x.grout.line ≠ .fault := by
      rw [hk.line]
      exact hu.serves
    have hdecided := holds_of_kept (kept_decideLine x) .grout
    by_cases hrole : x.holds .grout = true
    · have heq : decideLine x = setLine x.lineTable x := by
        unfold decideLine
        rw [if_pos (by simp [hrole, hserves.1, hserves.2])]
      refine ⟨hkept.trans hu.kept, ?_, fun _ => .inr ?_, fun hno => ?_⟩
      · rw [heq, line_setLine]
        exact lineTable_ne x
      · rw [heq, line_setLine, lineTable_setLine]
      · rw [hdecided, hrole] at hno
        exact absurd hno (by decide)
    · have heq : decideLine x = x := by
        unfold decideLine
        rw [if_neg (by simp [hrole])]
      rw [heq]
      refine ⟨hk.kept.trans hu.kept, hserves, fun hyes => absurd hyes hrole, fun hno => ?_⟩
      rw [hk.line]
      exact hu.outside (hholds ▸ hno)
  | blocked =>
    exact ⟨(kept_examineBlocked u).trans hu.kept, hu.serves, hu.inRole, hu.outside⟩

theorem rested_finish (h : z.grout.line = .idle) : Rested z (finish z) := by
  refine (pump_finish z).keeps (P := Rested z) (fun _ _ hm hu => hm.rested hu) ⟨rfl, ?_, fun _ => .inl ⟨h, rfl, rfl⟩, fun _ => h⟩
  rw [h]
  decide

/-! ## The weight of the own line (R28) -/

/-- What the own GROUT weighs while the line is in service. -/
def State.ownShare (s : State) : Nat := if !s.ownEntry.foreign && s.ownEntry.holdsRole .grout then s.cfg.weight else 0

/-- The own GROUT, written with the line in service, weighs the own share. -/
theorem weightOf_write (hl : s.grout.line ≠ .off ∧ s.grout.line ≠ .fault) :
    s.weightOf (s.ownEntry.write (s.timer s.cfg.lapseTime) (s.content .grout)) = s.ownShare := by
  obtain ⟨hoff, hfault⟩ := hl
  unfold State.weightOf State.ownShare StationEntry.counts
  by_cases h : (!s.ownEntry.foreign && s.ownEntry.holdsRole .grout) = true
  · rw [if_pos h, if_pos (by exact h)]
    simp [State.content, StationEntry.write, Slot.now?, Slot.current, State.timer, Timer.on, State.groutBody, hoff, hfault]
  · rw [if_neg h, if_neg (by exact h)]

/-- A kind's content leaves the own share. -/
theorem ownShare_withOwn {k : OwnKind} (hi : k ≠ .id) (u : State) : (s.withOwn k u).ownShare = s.ownShare := by
  have hcounted := entry_withOwn (s := s) (u := u) (k := k) (F := fun x => !x.foreign && x.holdsRole .grout) (fun x y z => by
    cases k with
    | id => exact absurd rfl hi
    | stop | claim | thrust | drive | screw | grout | status => rfl) s.boot.station
  unfold State.ownShare
  exact congrArg (fun b => if b = true then s.cfg.weight else 0) hcounted

/-- What of the table and the station the own line weighs by. -/
theorem weights_congr (ht : t.table = s.table) (hb : t.boot = s.boot) (hc : t.cfg = s.cfg) (hr : t.adv.ring = s.adv.ring) :
    t.liveWeight = s.liveWeight ∧ t.ownShare = s.ownShare ∧ t.weightOf t.ownEntry = s.weightOf s.ownEntry := by
  refine ⟨liveWeight_congr (by rw [ht]) hr, ?_, ?_⟩
  · unfold State.ownShare State.ownEntry
    rw [ht, hb, hc]
  · unfold State.weightOf State.ownEntry
    rw [ht, hb, hr]

/-- A GROUT written over one of the same weight leaves W. -/
theorem liveWeight_withOwn_same {k : OwnKind}
    (h : s.weightOf (s.ownEntry.write (s.timer s.cfg.lapseTime) (u.content k)) = s.weightOf s.ownEntry) :
    (s.withOwn k u).liveWeight = s.liveWeight := by
  have hentry := entry_putOwnEntry (s.ownEntry.write (s.timer s.cfg.lapseTime) (u.content k)) s
  refine congrArg List.sum (map_numbered _ fun n => ?_)
  change s.weightOf ((s.withOwn k u).table.entry n) = s.weightOf (s.table.entry n)
  unfold State.withOwn
  rcases hentry n with hn | ⟨hn, he⟩
  · rw [hn]
  · rw [he, h, hn]
    rfl

/-! ## E through a change of the table -/

/-- A new W gives a new E, or leaves E and the line (R114, R115, R118). -/
theorem line_takeWeight (x : Nat) (s : State) : ((takeWeight x s).grout.deficit = s.grout.deficit →
      (takeWeight x s).grout.line = s.grout.line) ∧ (s.holds .grout = true → (takeWeight x s).grout.weight = x) := by
  have hdeficit (u : State) (h : (recomputeDeficit u).grout.deficit = u.grout.deficit) : recomputeDeficit u = u := by
    unfold recomputeDeficit at h ⊢
    dsimp only at h ⊢
    split
    · rfl
    · rename_i hne
      rw [if_neg hne] at h
      refine absurd (Eq.trans ?_ h) hne
      simp [decideHoldRequest]
  have htarget (u : State) (h : (recomputeTarget u).grout.deficit = u.grout.deficit) : (recomputeTarget u).grout.line = u.grout.line := by
    unfold recomputeTarget at h ⊢
    split
    · rename_i hin
      rw [if_pos hin] at h
      rw [hdeficit _ h]
    · rfl
  unfold takeWeight
  split
  · exact ⟨htarget { s with grout := { s.grout with weight := x } }, fun _ => by simp⟩
  · rename_i hno
    refine ⟨fun _ => rfl, fun hg => ?_⟩
    simp only [hg, Bool.true_and, bne_iff_ne, ne_eq, not_not] at hno
    exact hno.symm

/-- The reference is as the table gives it. -/
structure Referenced (s : State) : Prop where
  source     : ∀ b, s.screwSource = some b → s.table.refState = .fresh ∧ s.table.pRef = b.pCh ∧ s.table.staleTimer = .stopped
  sourceless : s.screwSource = none → s.table.refState ≠ .fresh

theorem Referenced.of_table (h : Referenced s) (ht : t.table = s.table) : Referenced t := by
  obtain ⟨hs, hn⟩ := h
  refine ⟨?_, ?_⟩
  all_goals
    unfold State.screwSource
    rw [ht]
    assumption

theorem Referenced.withOwn (h : Referenced s) {k : OwnKind} (hs : k ≠ .screw) (hi : k ≠ .id) (u : State) :
    Referenced (s.withOwn k u) := by
  have htable : (s.withOwn k u).table = { s.table with stations := (s.withOwn k u).table.stations } := putEntry_eq _ _ _
  have hsource := screwSource_withOwn (s := s) (u := u) hs hi
  refine ⟨fun b hb => ?_, fun hb => ?_⟩
  · rw [htable]
    exact h.source b (hsource ▸ hb)
  · rw [htable]
    exact h.sourceless (hsource ▸ hb)

/-- With the reference handed a change of the table gives the grout unit its W alone. -/
theorem grout_tableChanged (h : Referenced s) (hm : s.table.mode ≠ .excavate) : (tableChanged s).table = s.table ∧
    ((tableChanged s).grout.deficit = s.grout.deficit → (tableChanged s).grout.line = s.grout.line) ∧
    (s.holds .grout = true → (tableChanged s).grout.weight = s.liveWeight) ∧
    ((s.holds .grout = true → s.liveWeight = s.grout.weight) →
      (tableChanged s).grout.deficit = s.grout.deficit ∧ (tableChanged s).grout.line = s.grout.line) := by
  have href := refreshReference_of_handed h.source h.sourceless
  refine ⟨by rw [table_tableChanged, href], ?_⟩
  obtain ⟨a, ha⟩ : ∃ a, recomputeAdvance s = { s with adv := { s.adv with machineA := a } } := by
    unfold recomputeAdvance
    split
    · exact ⟨_, if_neg fun hex => hm hex.1⟩
    · exact ⟨s.adv.machineA, rfl⟩
  have hlive : (recomputeAdvance s).liveWeight = s.liveWeight := liveWeight_congr (by rw [ha]) (by rw [ha])
  have hgrout : (recomputeAdvance s).grout = s.grout := by rw [ha]
  have hholds : (recomputeAdvance s).holds .grout = s.holds .grout := by rw [ha]; rfl
  obtain ⟨hline, hweight⟩ := line_takeWeight s.liveWeight (recomputeAdvance s)
  have hsteady : (s.holds .grout = true → s.liveWeight = s.grout.weight) → takeWeight s.liveWeight (recomputeAdvance s) = recomputeAdvance s := by
    intro hs
    refine if_neg ?_
    simp only [Bool.and_eq_true, bne_iff_ne, not_and, not_not, hholds, hgrout]
    exact hs
  have hchanged : tableChanged s = refreshGates (refreshCauses (takeWeight s.liveWeight (recomputeAdvance s))) := by
    unfold tableChanged refreshWeight
    rw [href, hlive]
  rw [hchanged]
  generalize recomputeAdvance s = x at *
  rw [hgrout] at hline
  rw [hholds] at hweight
  refine ⟨by simpa using hline, by simpa using hweight, fun hs => ?_⟩
  rw [hsteady hs]
  simp [hgrout]

/-! ## The end of the event of a clear (R11, R118) -/

/-- What a SCREW changes by is read from the ring number and the muck unit (R11). -/
theorem changeDue_screw_congr (hr : t.adv.ring = s.adv.ring) (hv : t.muck.validCount = s.muck.validCount)
    (hb : t.muck.blind = s.muck.blind) (ho : t.muck.overdig = s.muck.overdig) (hu : t.muck.underdig = s.muck.underdig)
    (hseen : t.port.seen.get .screw = s.port.seen.get .screw) : t.changeDue .screw = s.changeDue .screw := by
  have hcontent : changePart (t.content .screw) = changePart (s.content .screw) := by
    simp only [State.content, State.screwBody, changePart, hr, hv, hb, ho, hu]
  unfold State.changeDue
  rw [hcontent, hseen]
  rfl

theorem Quiet.due (h : Quiet s t) (hs : t.port.seen.get .screw = s.port.seen.get .screw)
    (hi : t.port.seen.get .id = s.port.seen.get .id) :
    t.changeDue .screw = s.changeDue .screw ∧ t.changeDue .id = s.changeDue .id := by
  have hk := h.kept
  refine ⟨changeDue_screw_congr (ring_of_kept hk) ?_ (blind_of_kept hk) h.overdig h.underdig hs,
    changeDue_id_congr (boot_of_kept hk) (cfg_of_kept hk) hi⟩
  unfold Muck.validCount Muck.validValues
  rw [chamber1_of_kept hk, chamber2_of_kept hk, chamber3_of_kept hk]

/-- Through the publications of a clear's event: with E as at `z` the line is IDLE; at another E the own line weighs its share. -/
structure Resting (z v : State) : Prop where
  quiet     : Quiet z v
  mode      : v.table.mode ≠ .excavate
  screw     : v.changeDue .screw = false
  ident     : v.changeDue .id = false
  reference : Referenced v
  serves    : v.grout.line ≠ .off ∧ v.grout.line ≠ .fault
  weight    : v.holds .grout = true → v.liveWeight = v.grout.weight
  idle      : v.grout.deficit = z.grout.deficit → v.grout.line = .idle
  placed    : v.grout.deficit = z.grout.deficit ∨ v.weightOf v.ownEntry = v.ownShare

theorem Resting.of_quiet (h : Resting z v) (q : Quiet v t) (hs : t.port.seen.get .screw = v.port.seen.get .screw)
    (hi : t.port.seen.get .id = v.port.seen.get .id) (ht : t.table = v.table) (hl : t.grout.line = v.grout.line)
    (hd : t.grout.deficit = v.grout.deficit) (hw : t.grout.weight = v.grout.weight) : Resting z t := by
  have hk := q.kept
  obtain ⟨hscrew, hid⟩ := q.due hs hi
  obtain ⟨hlive, hshare, hown⟩ := weights_congr ht (boot_of_kept hk) (cfg_of_kept hk) (ring_of_kept hk)
  refine ⟨h.quiet.trans q, by rw [ht]; exact h.mode, hscrew.trans h.screw, hid.trans h.ident, h.reference.of_table ht,
    by rw [hl]; exact h.serves, fun hg => ?_, ?_, ?_⟩
  · rw [hlive, hw]
    exact h.weight ((holds_of_kept hk .grout).symm.trans hg)
  · rw [hl, hd]
    exact h.idle
  · rw [hd, hown, hshare]
    exact h.placed

/-- The own GROUT written weighs the own share, or no entry is written. -/
theorem own_withOwn_grout (hl : s.grout.line ≠ .off ∧ s.grout.line ≠ .fault) :
    ((s.withOwn .grout s).liveWeight = s.liveWeight ∧ (s.withOwn .grout s).weightOf (s.withOwn .grout s).ownEntry = s.weightOf s.ownEntry) ∨
      (s.withOwn .grout s).weightOf (s.withOwn .grout s).ownEntry = s.ownShare := by
  have hwritten := weightOf_write hl
  have hentry := entry_putOwnEntry (s.ownEntry.write (s.timer s.cfg.lapseTime) (s.content .grout)) s
  have hown : (s.withOwn .grout s).ownEntry = (s.withOwn .grout s).table.entry s.boot.station := rfl
  rcases hentry s.boot.station with hold | ⟨-, hnew⟩
  · refine .inl ⟨congrArg List.sum (map_numbered _ fun n => ?_), ?_⟩
    · change s.weightOf ((s.withOwn .grout s).table.entry n) = s.weightOf (s.table.entry n)
      unfold State.withOwn
      rcases hentry n with hn | ⟨rfl, -⟩
      · rw [hn]
      · rw [hold]
    · rw [hown]
      unfold State.withOwn
      rw [hold]
      rfl
  · refine .inr ?_
    rw [hown]
    unfold State.withOwn
    rw [hnew]
    exact hwritten

/-- An own content that is not GROUT leaves what the own line weighs. -/
theorem own_withOwn_of_ne {k : OwnKind} (hg : k ≠ .grout) (hi : k ≠ .id) (u : State) :
    (s.withOwn k u).weightOf (s.withOwn k u).ownEntry = s.weightOf s.ownEntry := by
  exact entry_withOwn (s := s) (u := u) (F := s.weightOf) (fun e x z => by
    cases k with
    | grout => exact absurd rfl hg
    | id => exact absurd rfl hi
    | stop | claim | thrust | drive | screw | status => rfl) s.boot.station

theorem Resting.written (h : Resting z v) {k : OwnKind} (hs : k ≠ .screw) (hi : k ≠ .id) :
    Resting z (tableChanged (v.withOwn k v)) := by
  have hown : (v.withOwn k v).liveWeight = v.liveWeight ∧
      ((v.withOwn k v).weightOf (v.withOwn k v).ownEntry = v.weightOf v.ownEntry ∨
        (v.withOwn k v).weightOf (v.withOwn k v).ownEntry = v.ownShare) ∨
      v.grout.deficit = z.grout.deficit ∧ (v.withOwn k v).weightOf (v.withOwn k v).ownEntry = v.ownShare := by
    by_cases hg : k = .grout
    · subst hg
      rcases own_withOwn_grout h.serves with ⟨hlive, hsame⟩ | hshare
      · exact .inl ⟨hlive, .inl hsame⟩
      · rcases h.placed with hdeficit | hplaced
        · exact .inr ⟨hdeficit, hshare⟩
        · exact .inl ⟨liveWeight_withOwn_same ((weightOf_write h.serves).trans hplaced.symm), .inr hshare⟩
    · exact .inl ⟨liveWeight_withOwn hg hi, .inl (own_withOwn_of_ne hg hi v)⟩
  have hquiet : Quiet v (v.withOwn k v) := ⟨kept_putOwnEntry _ v, rfl, rfl, rfl, rfl, rfl, rfl, rfl, rfl⟩
  have hshare := ownShare_withOwn (s := v) hi v
  have href := h.reference.withOwn hs hi v
  have hgrout : (v.withOwn k v).grout = v.grout := rfl
  have hport : (v.withOwn k v).port = v.port := rfl
  generalize v.withOwn k v = q at *
  have hmode : q.table.mode ≠ .excavate := by
    rw [mode_of_kept hquiet.kept]
    exact h.mode
  have hchanged := quiet_tableChanged hmode
  have htseen : (tableChanged q).port.seen = q.port.seen := by simp
  obtain ⟨htable, hline, hweight, hsteady⟩ := grout_tableChanged href hmode
  have hserves := (endMoves_tableChanged (w := anyKind) (.refl (a := q))).pump.inService (by rw [hgrout]; exact h.serves)
  generalize tableChanged q = t at *
  have hk := hchanged.kept
  have hholds : t.holds .grout = q.holds .grout := holds_of_kept hk .grout
  have hqholds : q.holds .grout = v.holds .grout := holds_of_kept hquiet.kept .grout
  obtain ⟨htlive, htshare, htown⟩ := weights_congr htable (boot_of_kept hk) (cfg_of_kept hk) (ring_of_kept hk)
  obtain ⟨hscrew, hid⟩ := (hquiet.trans hchanged).due (by rw [htseen, hport]) (by rw [htseen, hport])
  refine ⟨h.quiet.trans (hquiet.trans hchanged), by rw [htable]; exact hmode, hscrew.trans h.screw, hid.trans h.ident,
    href.of_table htable, hserves, fun hg => ?_, fun hd => ?_, ?_⟩
  · rw [htlive, hweight (hholds ▸ hg)]
  · rcases hown with ⟨hlive, -⟩ | ⟨hdeficit, -⟩
    · obtain ⟨hsame, hstands⟩ := hsteady fun hg => by
        rw [hlive, hgrout]
        exact h.weight (hqholds ▸ hg)
      rw [hstands, hgrout]
      exact h.idle (by rw [← hd, hsame, hgrout])
    · rw [hline (by rw [hd, hgrout, hdeficit]), hgrout]
      exact h.idle hdeficit
  · rw [htown, htshare, hshare]
    rcases hown with ⟨hlive, hweighs⟩ | ⟨-, hweighs⟩
    · obtain ⟨hsame, -⟩ := hsteady fun hg => by
        rw [hlive, hgrout]
        exact h.weight (hqholds ▸ hg)
      rcases h.placed with hdeficit | hplaced
      · exact .inl (by rw [hsame, hgrout, hdeficit])
      · rcases hweighs with hw | hw
        · exact .inr (hw.trans hplaced)
        · exact .inr hw
    · exact .inr hweighs

theorem Resting.publishIfChanged (h : Resting z v) {k : OwnKind} (hk : k ≠ .stop) : Resting z (publishIfChanged k v) := by
  by_cases hs : k = .screw
  · subst hs
    rw [publishIfChanged_of_seen h.screw]
    exact h
  · by_cases hi : k = .id
    · subst hi
      rw [publishIfChanged_of_seen h.ident]
      exact h
    · have hmarked : Resting z (markSeen k v) :=
        h.of_quiet ⟨kept_markSeen k v, rfl, rfl, rfl, rfl, rfl, rfl, rfl, rfl⟩ (PerKind.get_put_other _ hs _)
          (PerKind.get_put_other _ hi _) rfl rfl rfl rfl
      unfold Machine.publishIfChanged
      split
      · split
        · rw [publish_of_ne hk]
          split
          · have hwritten := hmarked.written hs hi
            generalize tableChanged ((markSeen k v).withOwn k (markSeen k v)) = x at *
            exact hwritten.of_quiet ⟨kept_enqueueKind k _ _, rfl, rfl, rfl, rfl, rfl, rfl, rfl, rfl⟩ (PerKind.get_put_other _ hs _)
              (PerKind.get_put_other _ hi _) rfl rfl rfl rfl
          · exact hmarked
        · exact hmarked
      · exact h

theorem Resting.finish (h : Resting z v) (hd : (finish v).grout.deficit = z.grout.deficit) : (finish v).grout.line = .idle := by
  have hsettled := settle_keeps (P := Resting z) (fun k u hk hu => hu.publishIfChanged hk) h
  have hfinish : (Machine.finish v).grout.deficit = (settle v).grout.deficit ∧
      (Machine.finish v).grout.line = (settle v).grout.line := by
    simp [Machine.finish]
  rw [hfinish.2]
  exact hsettled.idle (hfinish.1.symm.trans hd)

/-- A grout line cleared on a station that has published and handed all there is rests (R126). -/
theorem resting_acceptClear (hs : s.changeDue .screw = false) (hi : s.changeDue .id = false) (h : Handed s)
    (hm : s.table.mode ≠ .excavate) : Resting (acceptClear .grout s) (acceptClear .grout s) := by
  obtain ⟨hboot, hcfg, hport, htable, hadv, -, -⟩ := frame_acceptClear .grout s
  obtain ⟨hline, -, -, hweight⟩ := grout_acceptClear s
  have hmuck : (acceptClear .grout s).muck.validCount = s.muck.validCount ∧ (acceptClear .grout s).muck.blind = s.muck.blind ∧
      (acceptClear .grout s).muck.overdig = s.muck.overdig ∧ (acceptClear .grout s).muck.underdig = s.muck.underdig := by
    simp [acceptClear, leaveFault, examineBlocked, Muck.validCount, Muck.validValues]
  obtain ⟨hvalid, hblind, hover, hunder⟩ := hmuck
  generalize acceptClear .grout s = z at *
  obtain ⟨hlive, -, -⟩ := weights_congr htable hboot hcfg (by rw [hadv])
  refine ⟨.refl z, by rw [htable]; exact hm, ?_, ?_, ?_, by rw [hline]; decide, fun hg => ?_, fun _ => hline, .inl rfl⟩
  · exact (changeDue_screw_congr (by rw [hadv]) hvalid hblind hover hunder (by rw [hport])).trans hs
  · exact (changeDue_id_congr hboot hcfg (by rw [hport])).trans hi
  · exact Referenced.of_table ⟨h.source, h.sourceless⟩ htable
  · rw [hlive, hweight]
    exact h.weight ((holds_congr hboot hcfg .grout).symm.trans hg)

end Sys2Proof.Machine

open Sys2Proof Sys2Proof.Machine

/-- Settles O40: the record decides; an accepted clear puts the job at rest, and the grout line stands there until E or the derate
flag moves. -/
theorem clearFaultDecides : Obligations.ClearFaultDecides := by
  intro s b j rest hrx haction hjob htarget
  obtain ⟨p, hp⟩ : ∃ p : State, p = { s with port := { s.port with rx := rest } } := ⟨_, rfl⟩
  have hexec : exec .clearFault s = answer (clearJobFault j p) := by
    rw [exec_clearFault (haction ▸ serviceHead_of_rx hrx), takeService_of_targeted hrx htarget, ← hp]
    unfold clearCoded
    rw [hjob]
  have hpfaults : p.faults = s.faults := by rw [hp]
  have hppresent (x : FaultCause) : p.stillPresent j x = s.stillPresent j x := by rw [hp]; rfl
  refine ⟨fun hnone hr => ?_, fun r hheld hpresent => ?_, fun r hheld hgone => ?_⟩
  · have hsame : clearJobFault j p = p := by
      unfold clearJobFault
      rw [hpfaults, hnone]
    rw [hsame] at hexec
    rw [← hp]
    exact next_of_atRest hexec (by rw [hp]; exact hr.withPort rfl rfl rfl rfl)
  · have hstill : p.stillPresent j r.cause = true := by
      rw [hppresent]
      rcases hpresent with h | rfl
      · exact h
      · rfl
    have hrefused : clearJobFault j p = raiseEvent .clearRefused p := by
      unfold clearJobFault
      rw [hpfaults, hheld]
      exact if_pos hstill
    rw [hrefused] at hexec
    refine gives_of_events hexec ((kept_raiseEvent _ p).trans (by rw [hp]; rfl)) ?_
    rw [hp]
    simp
  · have haccepted : clearJobFault j p = acceptClear j p := by
      unfold clearJobFault
      rw [hpfaults, hheld]
      exact if_neg (by rw [hppresent, hgone]; decide)
    rw [haccepted, answer_eq] at hexec
    obtain ⟨hboot, hcfg, hport, -, hadv, hfaults, hevents⟩ := frame_acceptClear j p
    have hdrive := drive_acceptClear j p
    have hkept := kept_finish (acceptClear j p)
    refine ⟨_, hexec, ?_, ?_, ?_, ?_, ?_, ?_, ?_, ?_, ?_, ?_, ?_, ?_⟩
    · rw [faults_of_kept hkept, hfaults, hpfaults]
    · rw [rx_of_kept hkept, hport, hp]
    · rw [cfg_of_kept hkept, hcfg, hp]
    · rw [boot_of_kept hkept, hboot, hp]
    · rw [stopped_of_kept hkept, hevents, hp]
    · rw [ring_of_kept hkept, hadv, hp]
    · intro h
      rw [drive_of_kept hkept, hdrive, if_pos h, hp]
    · intro h
      rw [drive_of_kept hkept, hdrive, if_neg h, hp]
    · rintro rfl
      rw [screw_of_kept hkept, state_acceptClear_screw]
    · rintro rfl
      obtain ⟨hline, hdeficit, hderate, -⟩ := grout_acceptClear p
      have hrested := rested_finish hline
      have hrest := fun (hr : AtRest s) (ht : tableChanged s = s) (hm : s.table.mode ≠ .excavate) => by
        have h := handed_of_tableChanged ht
        exact (resting_acceptClear (s := p) (by rw [hp]; exact hr.published .screw (by decide))
          (by rw [hp]; exact hr.published .id (by decide)) (by rw [hp]; exact ⟨h.source, h.sourceless, h.advance, h.weight, h.causes⟩)
          (by rw [hp]; exact hm)).finish
      have hpgrout : p.grout = s.grout := by rw [hp]
      have hholds : (finish (acceptClear .grout p)).holds .grout = s.holds .grout := by
        rw [holds_of_kept hkept, holds_congr hboot hcfg, hp]
        rfl
      rw [hpgrout] at hdeficit hderate
      generalize acceptClear .grout p = z at *
      generalize finish z = t at *
      dsimp only
      rw [← lineTable_rows]
      refine ⟨?_, fun hg hmoved => ?_, fun hr ht hm hd => hrest hr ht hm (by rw [hd, hdeficit])⟩
      · cases hg : t.holds .grout with
        | false => exact .inl (hrested.outside hg)
        | true =>
          rcases hrested.inRole hg with ⟨hidle, -, -⟩ | htable
          · exact .inl hidle
          · exact .inr htable
      · rcases hrested.inRole (hholds.trans hg) with ⟨-, hd, hr⟩ | htable
        · rw [hdeficit] at hd
          rw [hderate] at hr
          rcases hmoved with h | h
          · exact absurd hd h
          · exact absurd hr h
        · exact htable
    · rintro rfl hclear hmoves
      rw [shoe_of_kept hkept]
      have h := shoe_acceptClear_thrust (s := p) (by rw [hp]; exact hclear) (by rw [hp]; exact hmoves)
      rw [h.1, h.2, hp]
      exact ⟨rfl, rfl⟩
    · intro h
      rw [shoe_of_kept hkept, shoe_acceptClear_of_ne h, hp]

end
